-- ==== Sys2Proof/Word.lean ====
section
/-! DEFINITION. The word types: every register is 32 bits wide (R17), data travels as bytes, the time
bases are 64 bits of nanoseconds (R401). -/
namespace Sys2Proof

/-- A byte of data or of a frame. -/
abbrev Byte := BitVec 8

/-- The content of one 32-bit register (R17). -/
abbrev Word := BitVec 32

/-- A 64-bit value: TB0 in ns, a device number, a key counter. -/
abbrev DWord := BitVec 64

/-- Sparse data by index: strictly rising keys, and no entry equal to what an unlisted key reads as. -/
abbrev Tbl (α : Type) := List (Nat × α)

end Sys2Proof
end

