-- ==== Sys2Proof/Types.lean ====
section
/-! DEFINITION. The operand types of the commands: frames of the ring, fabric accesses, requesters,
completion status codes, and the register access types. -/
namespace Sys2Proof

/-- Register access types (R18). -/
inductive Acc where
  | ro | rw | rwl | w1c | w1s | wo | rc | ros
  deriving DecidableEq, Repr

/-- Completion status codes (R139). -/
inductive Status where
  | ok | ur | ua | denied | busy | empty | fe | ft | keyGone | poison
  deriving DecidableEq, Repr

/-- Status code number (R139). -/
def Status.code : Status → Nat
  | .ok => 0 | .ur => 1 | .ua => 2 | .denied => 3 | .busy => 4
  | .empty => 5 | .fe => 6 | .ft => 7 | .keyGone => 8 | .poison => 9

/-- Status of a code number; a code above 9 is no status of R139. -/
def Status.ofCode : Nat → Option Status
  | 0 => some .ok | 1 => some .ur | 2 => some .ua | 3 => some .denied | 4 => some .busy
  | 5 => some .empty | 6 => some .fe | 7 => some .ft | 8 => some .keyGone | 9 => some .poison
  | _ => none

/-- The kind of a register-page or window access (R125, R128). -/
inductive AccKind where
  | rd | wrN | wrP
  deriving DecidableEq, Repr

/-- One fabric access at its target: kind, 56-bit node-local offset, byte count, and for a write its
data bytes in ascending address order. -/
structure Access where
  kind  : AccKind
  addr  : Nat
  count : Nat
  data  : List Byte
  deriving DecidableEq, Repr

/-- Who asked: a node on the ring (with its tag), the PCIe endpoint (request number and access index),
the SPI target, or a control pair (R25). `bridge` is a held inbound backplane access (R377). -/
inductive Origin where
  | ring (src tag : Nat)
  | pcie (req idx : Nat)
  | spi
  | pairK
  | pairM
  | bridge (window : Nat)
  deriving DecidableEq, Repr

/-- A Makadom frame (R84, R85). `addr` is ADDR[55:0]; `crc` is the CRC-32 it carries (R86). -/
structure Frame where
  dst     : Nat
  src     : Nat
  typ     : Nat
  cls     : Nat
  ts      : Bool
  pri     : Bool
  last    : Bool
  single  : Bool
  ring    : Bool
  uw      : Bool
  seq     : Nat
  tag     : Nat
  len     : Nat
  hop     : Nat
  addr    : Nat
  payload : List Byte
  crc     : Word
  /-- Header word 0 bits [3:0]: reserved, sent as 0, ignored on receipt, forwarded unchanged (R84). -/
  rsv     : Nat := 0
  deriving DecidableEq, Repr

/-- One 66-bit block as it stands on a lane (R53): its sync header and its 64-bit payload, whose first byte is the least
significant one. -/
structure Block where
  hdr : BitVec 2
  pay : DWord
  deriving DecidableEq, Repr

/-- A move of the elastic buffer (R69): a block received from the line, or one block read at the local transmit block rate. -/
inductive BufEv where
  | inp (b : Block)
  | out
  deriving DecidableEq, Repr

/-- What a PCIe memory request addresses: BAR0, BAR2 (R151, R152), or the endpoint's own MSI-X table and pending bits (R48). -/
inductive Bar where
  | bar0 | bar2 | msix
  deriving DecidableEq, Repr

/-- What the bus answers a command of the I2C controller (R225–R227): acknowledged, not acknowledged, arbitration lost. -/
inductive I2cRes where
  | ack | nack | arbLost
  deriving DecidableEq, Repr

/-- How far a quill's current step has come when it is cut: inside its hold or its shift or not, the bit slots done, and the levels
sampled in them (R302, R304). -/
structure QlCut where
  mid  : Bool
  bits : Fin 32
  smp  : List Bool
  deriving DecidableEq, Repr

/-- What the companion measures of one slot in a tick (R549, R558, R559): VOUT in mV, sense voltage in µV, the largest of the
tick's 20 samples in µV, and that the gate has reached the charge-pump voltage minus 1 V. -/
structure SlotIn where
  vout  : Nat
  sense : Int
  peak  : Nat
  full  : Bool
  deriving DecidableEq, Repr

/-- What the companion measures in one tick (R549): VIN of both feeds and VFEED in mV, the feeds' shunt voltages VIN − SNS in
µV, its temperature in 1/16 °C, the sequencing inputs CSEQ_PG, and the eight slots. -/
structure TickIn where
  vinA  : Nat
  vinB  : Nat
  vfeed : Nat
  snsA  : Int
  snsB  : Int
  temp  : Int
  pg    : Nat
  slots : List SlotIn
  deriving DecidableEq, Repr

end Sys2Proof
end

