-- ==== Sys2Proof/Syntax.lean ====
section
/-! DEFINITION. The commands of the block: one constructor for each row of the table of operations and events. Lanes are 0 West
and 1 East, rings 0 A and 1 B, roles 0 ring manager and 1 time master, feeds 0 A and 1 B. -/
namespace Sys2Proof

/-- A command of the block. -/
inductive Instr where
  /-- REGISTER_WRITE (R18): requester `o` writes word `v` at node-local offset `off`; a register with a behaviour of its own shows
  it. -/
  | registerWrite (o : Origin) (off : Nat) (v : Word)
  /-- COMMIT_ON_DELIVERY_READ (R145): requester `o` reads `count` bytes at `off`. -/
  | commitOnDeliveryRead (o : Origin) (off : Nat) (count : Nat)
  /-- D2D_STATUS_FRAME (R22). -/
  | d2dStatusFrame
  /-- COMPANION_WRITE_ACK (R22). -/
  | companionWriteAck
  /-- D2D_LINK_LOST (R23). -/
  | d2dLinkLost
  /-- LOGIC_POWER_ON_RESET (R32). -/
  | logicPowerOnReset
  /-- LPOR_RELEASE (R609): the straps NODE_ID, BOOT_MODE and TEST_MODE as they stand at the pins. -/
  | lporRelease (node : Fin 256) (boot : Fin 4) (test : Bool)
  /-- RST_N_ASSERT (R32). -/
  | rstNAssert
  /-- RST_N_RELEASE (R589): the straps as they stand at the pins. -/
  | rstNRelease (node : Fin 256) (boot : Fin 4) (test : Bool)
  /-- HUB_CTL_SWRST (R32). -/
  | hubCtlSwrst
  /-- HUB_CTL_RUN (R41). -/
  | hubCtlRun
  /-- HUB_CTL_RUN_CLEAR (R40). -/
  | hubCtlRunClear
  /-- HUB_CTL_RCCLR (R39). -/
  | hubCtlRcclr
  /-- COMPANION_POWER_ON_RESET (R32). -/
  | companionPowerOnReset
  /-- STBY_COUNTER_INVALID (R572). -/
  | stbyCounterInvalid (osc : Bool)
  /-- PERST_N_ASSERT (R32). -/
  | perstNAssert
  /-- NOTICE_COALESCE_FLUSH (R47): notice queue N`n`. -/
  | noticeCoalesceFlush (n : Fin 16)
  /-- LANE_SIGNAL_DETECT (R63): lane 0 West, 1 East. -/
  | laneSignalDetect (l : Fin 2)
  /-- LANE_SIGNAL_LOSS (R66): `sig`: signal detect is lost, else CDR lock alone. -/
  | laneSignalLoss (l : Fin 2) (sig : Bool)
  /-- BLOCK_LOCK_ACQUIRE (R56): the sync headers of the blocks that arrive, in order. -/
  | blockLockAcquire (l : Fin 2) (hs : List (BitVec 2))
  /-- BLOCK_LOCK_LOSS (R57): the sync headers of the blocks that arrive, in order. -/
  | blockLockLoss (l : Fin 2) (hs : List (BitVec 2))
  /-- INVALID_SYNC_HEADER (R57): `hi`: 0b11, else 0b00. -/
  | invalidSyncHeader (l : Fin 2) (hi : Bool)
  /-- INVALID_BLOCK (R54): the block as received; `blocks` blocks of the frame in progress have arrived. -/
  | invalidBlock (l : Fin 2) (blocks : Nat) (b : Block)
  /-- SUPERFRAME_LOCK_ACQUIRE (R61): two comma blocks, the second 4096 blocks after the first. -/
  | superframeLockAcquire (l : Fin 2) (b c : Block)
  /-- SUPERFRAME_LOCK_LOSS (R61): `n` blocks with no comma. -/
  | superframeLockLoss (l : Fin 2) (n : Nat)
  /-- COMMA_RECEIVE (R59): block `b` as received, `gap` blocks with no comma after the last block given; `blocks` blocks of the
  frame in progress have arrived. -/
  | commaReceive (l : Fin 2) (b : Block) (gap blocks : Nat)
  /-- COMMA_SEND (R60). -/
  | commaSend (l : Fin 2)
  /-- RATE_CHANGE_TIMEOUT (R65). -/
  | rateChangeTimeout (l : Fin 2)
  /-- TRAIN_ADAPT_END (R63): equaliser settings reached: CTLE step, five DFE taps in mV. -/
  | trainAdaptEnd (l : Fin 2) (ctle : Nat) (dfe : List Int)
  /-- LANE_STATE_TIMEOUT (R628). -/
  | laneStateTimeout (l : Fin 2)
  /-- ELASTIC_IDLE_DELETE (R69): moves of the elastic buffer since the last command that brought any. -/
  | elasticIdleDelete (l : Fin 2) (es : List BufEv)
  /-- ELASTIC_IDLE_INSERT (R69): moves of the elastic buffer since the last command that brought any. -/
  | elasticIdleInsert (l : Fin 2) (es : List BufEv)
  /-- ELASTIC_OVERFLOW (R69): moves of the elastic buffer since the last command that brought any. -/
  | elasticOverflow (l : Fin 2) (es : List BufEv)
  /-- FORCED_IDLE_BLOCK (R70). -/
  | forcedIdleBlock (l : Fin 2)
  /-- ADAPT_STEP (R68): settings the adaptation asks for: CTLE step, five DFE taps in mV. -/
  | adaptStep (l : Fin 2) (ctle : Nat) (dfe : List Int)
  /-- LANE_TXEQ_APPLY (R68). -/
  | laneTxeqApply (l : Fin 2)
  /-- LANE_CTL_RETRAIN (R76). -/
  | laneCtlRetrain (l : Fin 2)
  /-- LANE_LINK_ENABLE (R63). -/
  | laneLinkEnable (l : Fin 2)
  /-- LANE_LINK_DISABLE (R63). -/
  | laneLinkDisable (l : Fin 2)
  /-- LANE_PRBS_CTL_WRITE (R72). -/
  | lanePrbsCtlWrite (l : Fin 2) (v : Word)
  /-- PRBS_CHECKER_LOCK (R73): bits received since the last command that brought any. -/
  | prbsCheckerLock (l : Fin 2) (bits : List Bool)
  /-- PRBS_CHECKER_UNLOCK (R73): bits received since the last command that brought any. -/
  | prbsCheckerUnlock (l : Fin 2) (bits : List Bool)
  /-- PRBS_BITS_LO_READ (R73): bits received since the last command that brought any. -/
  | prbsBitsLoRead (l : Fin 2) (bits : List Bool)
  /-- LANE_MARGIN_UPDATE (R80): eye height and width as measured. -/
  | laneMarginUpdate (l : Fin 2) (height : Nat) (width : Nat)
  /-- LANE_PRBS (R74): mailbox `m`. -/
  | lanePrbs (m : Fin 16)
  /-- LANE_PRBS_END (R74): the job in slot `j` of session `m`; bits received since the last command that brought any. -/
  | lanePrbsEnd (m : Fin 16) (j : Fin 4) (bits : List Bool)
  /-- FRAME_HEADER_ARRIVAL (R103): frame `f` begins on lane `l`. -/
  | frameHeaderArrival (l : Fin 2) (f : Frame)
  /-- FRAME_END (R89): blocks received, type of the last one. -/
  | frameEnd (l : Fin 2) (blocks : Nat) (term : Fin 256)
  /-- LANE_ARBITRATE (R94): `res`: residence of a forwarded SYNC in 2^-16 ns. -/
  | laneArbitrate (l : Fin 2) (res : Nat)
  /-- STALE_REMOVAL (R99): the copy `id` waiting at lane `l`. -/
  | staleRemoval (l : Fin 2) (id : Nat)
  /-- CREDIT_UPDATE (R92). -/
  | creditUpdate (l : Fin 2) (f : Frame)
  /-- CREDIT_UPDATE_SEND (R92). -/
  | creditUpdateSend (l : Fin 2)
  /-- CREDIT_AUDIT (R93). -/
  | creditAudit (l : Fin 2) (f : Frame)
  /-- CREDIT_AUDIT_SEND (R93). -/
  | creditAuditSend (l : Fin 2)
  /-- WINDOW_ENTRY_EXPIRE (R98). -/
  | windowEntryExpire (src : Fin 256)
  /-- WINDOW_MEMORY_ERROR (R114): the sources affected. -/
  | windowMemoryError (srcs : List Nat)
  /-- WINDOW_DISCARD_END (R114). -/
  | windowDiscardEnd (src : Fin 256)
  /-- MSG_FRAME (R100): a good frame delivered on ring `r`, 0 A, 1 B. -/
  | msgFrame (r : Fin 2) (f : Frame)
  /-- INCOMING_ITEM_ABANDON (R170): the item of a source and tag. -/
  | incomingItemAbandon (src : Fin 256) (tag : Fin 1024)
  /-- MSG_OFFER (R134). -/
  | msgOffer (q : Fin 1024)
  /-- MSG_REOFFER (R101): the item of tag `t`. -/
  | msgReoffer (t : Fin 1024)
  /-- PRESENCE_SEND (R106). -/
  | presenceSend
  /-- PRESENCE_FRAME (R106): a good frame that arrived on ring `r`. -/
  | presenceFrame (r : Fin 2) (f : Frame)
  /-- RING_SEEN_TIMEOUT (R106): node `n`, ring `r`. -/
  | ringSeenTimeout (n : Fin 256) (r : Fin 2)
  /-- RING_CLOSURE_LOSS (R106). -/
  | ringClosureLoss (r : Fin 2)
  /-- PCIE_MEM_READ (R154): BAR2 or BAR0; runs of enabled bytes: offset and count. -/
  | pcieMemRead (bar : Bar) (runs : List (Nat × Nat))
  /-- PCIE_MEM_WRITE (R153): BAR2 or BAR0; runs of enabled bytes: offset and data. -/
  | pcieMemWrite (bar : Bar) (runs : List (Nat × List Byte))
  /-- REQUEST_TAG_GRANT (R132): requester: 0 a control pair, 1 PCIe, 2 SPI, 3 the bridge. -/
  | requestTagGrant (who : Fin 4)
  /-- PCIE_COMPLETION_ACK (R148): access `idx` of request `req`. -/
  | pcieCompletionAck (req : Nat) (idx : Nat)
  /-- PCIE_LINK_DOWN (R148). -/
  | pcieLinkDown
  /-- SPI_WRITE (R156): node-local offset, data and CRC-8 as received. -/
  | spiWrite (off : Nat) (data : List Byte) (crc : Byte)
  /-- SPI_READ (R157): node-local offset and count byte. -/
  | spiRead (off : Nat) (words : Nat)
  /-- SPI_FWRITE (R156): node, offset, data and CRC-8 as received. -/
  | spiFwrite (node : Fin 256) (off : Nat) (data : List Byte) (crc : Byte)
  /-- SPI_FREAD (R157): node, offset and count byte. -/
  | spiFread (node : Fin 256) (off : Nat) (words : Nat)
  /-- SPI_STATUS (R156). -/
  | spiStatus
  /-- MSPI_CS_RISE (R157): bytes of the answer shifted out. -/
  | mspiCsRise (waits clocked : Nat)
  /-- RD_REQUEST (R127): a good frame delivered on ring `r`. -/
  | rdRequest (r : Fin 2) (f : Frame)
  /-- WR_N_REQUEST (R127): a good frame delivered on ring `r`. -/
  | wrNRequest (r : Fin 2) (f : Frame)
  /-- WR_P_REQUEST (R141): a good frame delivered on ring `r`. -/
  | wrPRequest (r : Fin 2) (f : Frame)
  /-- COMPLETION (R127): a good frame delivered on ring `r`. -/
  | completion (r : Fin 2) (f : Frame)
  /-- ACK_FRAME (R146): a good frame delivered on ring `r`. -/
  | ackFrame (r : Fin 2) (f : Frame)
  /-- COMMIT_WINDOW_EXPIRE (R145): the read of node `src` under `tag`. -/
  | commitWindowExpire (src : Fin 256) (tag : Fin 1024)
  /-- BUSY_RETRY (R142). -/
  | busyRetry (own : Bool) (t : Fin 1024)
  /-- COMPLETION_TIMEOUT (R136). -/
  | completionTimeout (own : Bool) (t : Fin 1024)
  /-- TAG_QUARANTINE_END (R136). -/
  | tagQuarantineEnd (t : Fin 1024)
  /-- INK_APPLY (R171). -/
  | inkApply
  /-- PORT_PEEK (R175): requester `o`, port `p`. -/
  | portPeek (o : Origin) (p : Fin 64)
  /-- PORT_POP (R175): requester `o`, port `p`, bytes read. -/
  | portPop (o : Origin) (p : Fin 64) (count : Nat)
  /-- PORT_PUSH (R176): requester `o`, port `p`; `posted`: a WR_P. -/
  | portPush (o : Origin) (p : Fin 64) (posted : Bool) (data : List Byte)
  /-- QUEUE_MOVE_RETRY (R177). -/
  | queueMoveRetry (q : Fin 1024)
  /-- STALL_READ_EXPIRE (R178): the held pop of requester `o`. -/
  | stallReadExpire (q : Fin 1024) (o : Origin)
  /-- TAIL_TIMER_FIRE (R179). -/
  | tailTimerFire (q : Fin 1024)
  /-- CENSUS_CHECK (R184). -/
  | censusCheck
  /-- NIB_ENABLE (R201). -/
  | nibEnable (n : Fin 256)
  /-- NIB_DISABLE (R203): bytes of the item under way sent in full since its read position, and bytes received of the
  transaction or frame under way. -/
  | nibDisable (n : Fin 256) (sent : Nat) (got : List Byte)
  /-- NIB_TX_ITEM_START (R206). -/
  | nibTxItemStart (n : Fin 256)
  /-- NIB_TX_ITEM_COMPLETE (R206): for an SPI controller, MISO at the pin in each bit, 0 to 3 PORT clocks after its
  nominal sampling edge. -/
  | nibTxItemComplete (n : Fin 256) (miso : List (BitVec 4))
  /-- UART_CHARACTER_RECEIVE (R213): RXD at the pin around the centre of each bit from the start bit to the first stop bit,
  bit 1 of a sample at the centre tick; RXD at mark since the last break; within TURN bit times of the own transmission; ns since the start
  bit. -/
  | uartCharacterReceive (n : Fin 256) (samples : List (BitVec 3)) (mark : Bool) (turn : Bool) (ns : Nat)
  /-- UART_IDLE_CLOSE (R214). -/
  | uartIdleClose (n : Fin 256)
  /-- UART_BREAK_RECEIVE (R215): as UART_CHARACTER_RECEIVE. -/
  | uartBreakReceive (n : Fin 256) (mark : Bool) (turn : Bool) (ns : Nat)
  /-- UART_CTS_CHANGE (R217): the new level of CTS_N, and the bytes of the item under way sent since its read position, with the
  character already started. -/
  | uartCtsChange (n : Fin 256) (lvl : Bool) (sent : Nat)
  /-- UART_DE_RELEASE (R217). -/
  | uartDeRelease (n : Fin 256)
  /-- NIB_HOLD_END (R209). -/
  | nibHoldEnd (n : Fin 256)
  /-- HDLC_FRAME_RECEIVE (R219): RXD at the pin in the last bit of the opening flag and in each bit to the end of the closing flag
  or of an abort; ns since the end of the opening flag. -/
  | hdlcFrameReceive (n : Fin 256) (raw : List Bool) (ns : Nat)
  /-- SPI_TARGET_CS_FALL (R223). -/
  | spiTargetCsFall (n : Fin 256)
  /-- SPI_TARGET_CS_RISE (R223): SCK and MOSI at the pins after each change of SCK since CS_N fell. -/
  | spiTargetCsRise (n : Fin 256) (edges : List (Bool × Bool))
  /-- I2C_START7 (R225): a bus recovery, with SDA still low after it or not, and the bus's answer. -/
  | i2cStart7 (n : Fin 256) (recover : Option Bool) (res : I2cRes)
  /-- I2C_START10 (R225): as I2C_START7, and the address bytes sent in full. -/
  | i2cStart10 (n : Fin 256) (recover : Option Bool) (res : I2cRes) (sent : Nat)
  /-- I2C_WRITE (R225): bytes acknowledged before the answer `res`. -/
  | i2cWrite (n : Fin 256) (acked : Nat) (res : I2cRes)
  /-- I2C_READ (R225): bytes of the READ as they stand at SDA, in one command or several; `lost`: arbitration lost. -/
  | i2cRead (n : Fin 256) (data : List Byte) (lost : Bool)
  /-- I2C_STOP (R225). -/
  | i2cStop (n : Fin 256)
  /-- I2C_PAUSE (R225). -/
  | i2cPause (n : Fin 256)
  /-- I2C_STRETCH_TIMEOUT (R227): `stuck`: SDA is still low after the bus recovery. -/
  | i2cStretchTimeout (n : Fin 256) (stuck : Bool)
  /-- I2C_TARGET_START (R228): address, 10-bit form, direction of a START that another controller sends. -/
  | i2cTargetStart (n : Fin 256) (addr : Nat) (ten : Bool) (read : Bool)
  /-- I2C_TARGET_STOP (R228): bytes written to the target or stream bytes it sent since the last command of the transfer, a NACK of
  the last byte sent, and a STOP rather than a repeated START. -/
  | i2cTargetStop (n : Fin 256) (data : List Byte) (sent : Nat) (nack : Bool) (stop : Bool)
  /-- I2C_TARGET_FILL_TIMEOUT (R228): stream bytes sent since the last command of the transfer. -/
  | i2cTargetFillTimeout (n : Fin 256) (sent : Nat)
  /-- I2C_HOLD_TIMEOUT (R228): bytes written to the target since the last command of the transfer. -/
  | i2cHoldTimeout (n : Fin 256) (data : List Byte)
  /-- COUNTER_EDGE (R229): the filtered levels of S0 and S1 now, and the PORT clocks a capture counts. -/
  | counterEdge (n : Fin 256) (a : Bool) (b : Bool) (clocks : Nat)
  /-- COUNTER_INDEX (R229): the new level of S3. -/
  | counterIndex (n : Fin 256) (lvl : Bool)
  /-- PWM_PERIOD_BOUNDARY (R230). -/
  | pwmPeriodBoundary (n : Fin 256)
  /-- ONE_SHOT_END (R229). -/
  | oneShotEnd (n : Fin 256)
  /-- FREQ_WINDOW_END (R229). -/
  | freqWindowEnd (n : Fin 256)
  /-- BANK_CLASS_CHANGE (R200): bank group and its VIO in mV. -/
  | bankClassChange (g : Fin 16) (mv : Nat)
  /-- OUTPUT_FIGHT (R234): slot `k` of nib `n`. -/
  | outputFight (n : Fin 256) (k : Fin 4)
  /-- DEBOUNCE_SETTLE (R247): pin, level, and the ns since S first differed from F. -/
  | debounceSettle (p : Fin 512) (lvl : Bool) (ns : Nat)
  /-- STUCK_DETECT (R250). -/
  | stuckDetect (p : Fin 512)
  /-- DISCRETE_SHORT_PULSE (R251). -/
  | discreteShortPulse (p : Fin 512)
  /-- CHATTER_WINDOW_END (R251). -/
  | chatterWindowEnd (p : Fin 512)
  /-- STORM_WINDOW_END (R252). -/
  | stormWindowEnd (p : Fin 512)
  /-- DISCRETE_FILTER_WRITE (R254): `det`: XB_DDETp, else XB_DFLTp. -/
  | discreteFilterWrite (p : Fin 512) (det : Bool) (v : Word)
  /-- DISCRETE_LIMIT_WRITE (R254). -/
  | discreteLimitWrite (p : Fin 512) (v : Word)
  /-- DISCRETE_OUT_CLAIM (R255). -/
  | discreteOutClaim (p : Fin 512)
  /-- DISCRETE_OUT_RELEASE (R255). -/
  | discreteOutRelease (p : Fin 512)
  /-- DISCRETE_OUT_VAL_WRITE (R256): the VAL written. -/
  | discreteOutValWrite (p : Fin 512) (v : Bool)
  /-- DISCRETE_PULSE_END (R256). -/
  | discretePulseEnd (p : Fin 512)
  /-- DISCRETE_SAFE_WRITE (R257): the SAFE field written. -/
  | discreteSafeWrite (p : Fin 512) (v : Fin 4)
  /-- STROKE_ENABLE (R272). -/
  | strokeEnable
  /-- STROKE_DISABLE (R260). -/
  | strokeDisable
  /-- STROKE_COMMIT (R264). -/
  | strokeCommit
  /-- STROKE_CUTOFF (R264). -/
  | strokeCutoff
  /-- STROKE_INSTANT (R262): `late`: the schedule reached the port complex after the instant. -/
  | strokeInstant (late : Bool)
  /-- STROKE_FRAME (R270): a good frame delivered on ring `r`. -/
  | strokeFrame (r : Fin 2) (f : Frame)
  /-- STROKE_SCHEDULE_SWITCH (R270). -/
  | strokeScheduleSwitch
  /-- STROKE_CONFIG (R271): mailbox `m`. -/
  | strokeConfig (m : Fin 16)
  /-- QL_ENABLE (R306). -/
  | qlEnable (q : Fin 64)
  /-- QL_DISABLE (R308): `c` as in QL_CTL_FORCE. -/
  | qlDisable (q : Fin 64) (c : QlCut)
  /-- QL_CTL_SWAP (R303). -/
  | qlCtlSwap (q : Fin 64)
  /-- QL_SWAP_TAKE_EFFECT (R303). -/
  | qlSwapTakeEffect (q : Fin 64)
  /-- QL_CTL_FORCE (R304): `c`: how far the current step has come. -/
  | qlCtlForce (q : Fin 64) (c : QlCut)
  /-- QL_CTL_SWCAN (R305). -/
  | qlCtlSwcan (q : Fin 64)
  /-- QL_CTL_MARK (R294). -/
  | qlCtlMark (q : Fin 64)
  /-- QL_TX_WRITE (R295): requester `o` writes word `v`. -/
  | qlTxWrite (o : Origin) (q : Fin 64) (v : Word)
  /-- QL_RXD_READ (R296): requester `o`. -/
  | qlRxdRead (o : Origin) (q : Fin 64)
  /-- QL_QUEUE_TX_FETCH (R298). -/
  | qlQueueTxFetch (q : Fin 64)
  /-- NOP (R287): `lvl`: level of the pin a condition tests. -/
  | nop (q : Fin 64) (lvl : Bool)
  /-- SHOUT (R291): `lvl`: level of the pin a condition tests. -/
  | shout (q : Fin 64) (lvl : Bool)
  /-- SHIN (R291): `lvl` as in NOP; the samples of the bit slots. -/
  | shin (q : Fin 64) (lvl : Bool) (smp : List Bool)
  /-- SHXC (R291): `lvl` as in NOP; the samples of the bit slots. -/
  | shxc (q : Fin 64) (lvl : Bool) (smp : List Bool)
  /-- CONST (R287): `lvl`: level of the pin a condition tests. -/
  | const (q : Fin 64) (lvl : Bool)
  /-- LOAD (R287): `lvl`: level of the pin a condition tests. -/
  | load (q : Fin 64) (lvl : Bool)
  /-- STORE (R287): `lvl`: level of the pin a condition tests. -/
  | store (q : Fin 64) (lvl : Bool)
  /-- TALLY (R293): `lvl`: level of the pin a condition tests. -/
  | tally (q : Fin 64) (lvl : Bool)
  /-- DIR (R287): `lvl`: level of the pin a condition tests. -/
  | dir (q : Fin 64) (lvl : Bool)
  /-- IDLE (R284): `lvl`: level of the pin a condition tests. -/
  | idle (q : Fin 64) (lvl : Bool)
  /-- QL_ILLEGAL_STEP (R310). -/
  | qlIllegalStep (q : Fin 64)
  /-- QL_RESTART (R309). -/
  | qlRestart (q : Fin 64)
  /-- QL_LOAD (R311): mailbox `m`. -/
  | qlLoad (m : Fin 16)
  /-- QL_SWAP (R312): mailbox `m`; `c` as in QL_CTL_FORCE. -/
  | qlSwap (m : Fin 16) (c : QlCut)
  /-- CAN_ENABLE (R353). -/
  | canEnable (k : Fin 16)
  /-- CAN_DISABLE (R351). -/
  | canDisable (k : Fin 16)
  /-- CAN_BUS_INTEGRATED (R326). -/
  | canBusIntegrated (k : Fin 16)
  /-- CAN_SUBMISSION_TAKE (R331). -/
  | canSubmissionTake (k : Fin 16)
  /-- CAN_TX_ATTEMPT (R333). -/
  | canTxAttempt (k : Fin 16)
  /-- CAN_TX_SUCCESS (R330): loop delay measured in a frame with BRS = 1; overload frames of other nodes after it. -/
  | canTxSuccess (k : Fin 16) (delay : Nat) (ovl : Nat)
  /-- CAN_TX_FAIL (R333): bits sent; arbitration lost, or an error that ISO 11898-1 exempts; further steps of 8 it adds to TEC; the loop
  delay, once measured. -/
  | canTxFail (k : Fin 16) (sent : Nat) (arb : Bool) (exempt : Bool) (steps : Nat) (delay : Option Nat)
  /-- CAN_TXCAN_WRITE (R334): register `w` of the four. -/
  | canTxcanWrite (k : Fin 16) (w : Fin 4) (v : Word)
  /-- CAN_FRAME_RECEIVE (R336): words 0 and 1 as on the bus, data, TB0 at the start of frame; overload frames after it. -/
  | canFrameReceive (k : Fin 16) (w0 : Word) (w1 : Word) (data : List Byte) (sof : DWord) (ovl : Nat)
  /-- CAN_STAGING_ADMIT (R337). -/
  | canStagingAdmit (k : Fin 16)
  /-- CAN_HPWIN_READ (R338): requester `o`. -/
  | canHpwinRead (o : Origin) (k : Fin 16)
  /-- CAN_BUSOFF_RECOVER (R341). -/
  | canBusoffRecover (k : Fin 16)
  /-- CAN_STUCK_DOMINANT (R342): the controller was the transmitter; steps of 8 its error counter has still to take. -/
  | canStuckDominant (k : Fin 16) (tx : Bool) (steps : Nat)
  /-- CAN_CTL_FALLBACK (R344). -/
  | canCtlFallback (k : Fin 16)
  /-- CAN_WATCHDOG_EXPIRE (R345). -/
  | canWatchdogExpire (k : Fin 16)
  /-- CAN_WATCHDOG_KICK (R345): requester `o`. -/
  | canWatchdogKick (k : Fin 16) (o : Origin)
  /-- CAN_CTL_FBLEAVE (R347). -/
  | canCtlFbleave (k : Fin 16)
  /-- CAN_FB_SLOT_START (R346): basic cycle and slot of the schedule matrix. -/
  | canFbSlotStart (k : Fin 16) (c : Fin 8) (n : Fin 8)
  /-- CAN_FB_SLOT_LATE (R346): basic cycle and slot of the schedule matrix. -/
  | canFbSlotLate (k : Fin 16) (c : Fin 8) (n : Fin 8)
  /-- CANCLK_LOSS (R349). -/
  | canclkLoss
  /-- CANCLK_RECOVER (R349): the frequency measured. -/
  | canclkRecover (mhz : Nat)
  /-- PBP_ENABLE (R389). -/
  | pbpEnable
  /-- PBP_DISABLE (R388). -/
  | pbpDisable
  /-- WINDOW_ENABLE (R390): inbound or outbound window `w`. -/
  | windowEnable (inb : Bool) (w : Fin 16)
  /-- WINDOW_DISABLE (R376): inbound or outbound window `w`. -/
  | windowDisable (inb : Bool) (w : Fin 16)
  /-- PBP_OUTBOUND_CYCLE_START (R372). -/
  | pbpOutboundCycleStart
  /-- PBP_BUS_GRANT (R368). -/
  | pbpBusGrant
  /-- PBP_ARB_TIMEOUT (R368): place of the request in the order. -/
  | pbpArbTimeout (j : Nat)
  /-- PBP_CYCLE_ACK (R366): data lanes of a read. -/
  | pbpCycleAck (lanes : Word)
  /-- PBP_CYCLE_ERROR (R372). -/
  | pbpCycleError
  /-- PBP_BUS_TIMEOUT (R372). -/
  | pbpBusTimeout
  /-- PBP_CYCLE_RETRY (R367). -/
  | pbpCycleRetry
  /-- PBP_REQUEST_LIMIT (R374): place of the request in the order. -/
  | pbpRequestLimit (j : Nat)
  /-- PBP_PREFETCH_AGE (R376). -/
  | pbpPrefetchAge (w : Fin 16)
  /-- PBP_INBOUND_DECODE (R377): the cycle of another master: address, AM, bytes, direction, data lanes. -/
  | pbpInboundDecode (addr : Nat) (am : Fin 64) (width : Nat) (write : Bool) (lanes : Word)
  /-- PBP_POSTED_ADMIT (R378). -/
  | pbpPostedAdmit
  /-- PBP_HOLD_LIMIT_EXPIRE (R379). -/
  | pbpHoldLimitExpire
  /-- WIRE_LEVEL_CHANGE (R383). -/
  | wireLevelChange
  /-- WIRE_REFRESH (R383). -/
  | wireRefresh
  /-- WIRE_FRAME (R384): a good frame delivered on ring `r`. -/
  | wireFrame (r : Fin 2) (f : Frame)
  /-- WIRE_LOST (R384). -/
  | wireLost
  /-- TB_STEP_APPLY (R403): the word written to TB_STEP_HI. -/
  | tbStepApply (n : Fin 4) (v : Word)
  /-- TB_RATE_WRITE (R401). -/
  | tbRateWrite (n : Fin 4) (v : Word)
  /-- TB_BCTL_WRITE (R404). -/
  | tbBctlWrite (n : Fin 4) (v : Word)
  /-- TB_LO_READ (R402). -/
  | tbLoRead (n : Fin 4)
  /-- TB_ENABLE (R424). -/
  | tbEnable
  /-- TB_DISABLE (R414). -/
  | tbDisable
  /-- SYNC_SEND (R409). -/
  | syncSend
  /-- SYNC_FRAME (R411): a good copy on ring `r`; TB0 at its start block. -/
  | syncFrame (r : Fin 2) (f : Frame) (stamp : DWord)
  /-- SYNC_PAIR_TIMEOUT (R413): SYNCNO of the copy that came. -/
  | syncPairTimeout (no : Nat)
  /-- HOLDOVER_TIMEOUT (R414). -/
  | holdoverTimeout
  /-- STBY_COUNTER_REFRESH (R420). -/
  | stbyCounterRefresh
  /-- TIME_GET (R423): mailbox `m`. -/
  | timeGet (m : Fin 16)
  /-- TIME_STEP (R423): mailbox `m`. -/
  | timeStep (m : Fin 16)
  /-- TIME_RESTEP_ALLOW (R418): mailbox `m`. -/
  | timeRestepAllow (m : Fin 16)
  /-- TB_CONFIG (R423): mailbox `m`. -/
  | tbConfig (m : Fin 16)
  /-- KC_DOORBELL (R434): mailbox and requester. -/
  | kcDoorbell (m : Fin 16) (o : Origin)
  /-- KC_CTL_CLOSE (R433): mailbox and requester. -/
  | kcCtlClose (m : Fin 16) (o : Origin)
  /-- KC_SESSION_EXPIRE (R433). -/
  | kcSessionExpire (m : Fin 16)
  /-- JOB_STEP (R447): session, 16 for the jobs without one, and job slot; whether the work ends with this step, and whether its
  MRAM writes read back well. -/
  | jobStep (m : Fin 17) (j : Nat) (last : Bool) (ok : Bool)
  /-- JOB_OUTCOME_EXPIRE (R448): session and job slot. -/
  | jobOutcomeExpire (m : Fin 17) (j : Nat)
  /-- JOB_LOW_SUPPLY_RESUME (R450): session and job slot. -/
  | jobLowSupplyResume (m : Fin 17) (j : Nat)
  /-- HELLO (R443): mailbox `m`. -/
  | hello (m : Fin 16)
  /-- GOODBYE (R458): mailbox `m`. -/
  | goodbye (m : Fin 16)
  /-- GET_IDENTITY (R458): mailbox `m`. -/
  | getIdentity (m : Fin 16)
  /-- GET_CAPS (R458): mailbox `m`. -/
  | getCaps (m : Fin 16)
  /-- JOB_STATUS (R458): mailbox `m`. -/
  | jobStatus (m : Fin 16)
  /-- JOB_CANCEL (R449): mailbox `m`. -/
  | jobCancel (m : Fin 16)
  /-- CFG_READ (R459): mailbox `m`. -/
  | cfgRead (m : Fin 16)
  /-- CFG_WRITE (R459): mailbox `m`. -/
  | cfgWrite (m : Fin 16)
  /-- CFG_ENABLE (R459): mailbox `m`. -/
  | cfgEnable (m : Fin 16)
  /-- CFG_CHECK (R459): mailbox `m`. -/
  | cfgCheck (m : Fin 16)
  /-- CFG_SAVE (R596): mailbox `m`; `last` and `ok` as in JOB_STEP. -/
  | cfgSave (m : Fin 16) (last : Bool) (ok : Bool)
  /-- CFG_RESTORE (R596): mailbox `m`. -/
  | cfgRestore (m : Fin 16)
  /-- FW_BEGIN (R593): mailbox `m`. -/
  | fwBegin (m : Fin 16)
  /-- FW_CHUNK (R593): mailbox `m`. -/
  | fwChunk (m : Fin 16)
  /-- FW_VERIFY (R593): mailbox `m`; `last`: the work ends with its first step. -/
  | fwVerify (m : Fin 16) (last : Bool)
  /-- FW_ACTIVATE (R594): mailbox `m`. -/
  | fwActivate (m : Fin 16)
  /-- FW_SLOT_INFO (R600): mailbox `m`. -/
  | fwSlotInfo (m : Fin 16)
  /-- NV_COUNTERS (R600): mailbox `m`. -/
  | nvCounters (m : Fin 16)
  /-- BLT_FREEZE (R510): mailbox `m`. -/
  | bltFreeze (m : Fin 16)
  /-- BLT_READ (R518): mailbox `m`. -/
  | bltRead (m : Fin 16)
  /-- BLT_THAW (R510): mailbox `m`. -/
  | bltThaw (m : Fin 16)
  /-- BLT_CLEAR (R510): mailbox `m`. -/
  | bltClear (m : Fin 16)
  /-- MON_ARM (R516): mailbox `m`. -/
  | monArm (m : Fin 16)
  /-- MON_READ (R518): mailbox `m`. -/
  | monRead (m : Fin 16)
  /-- FLT_READ (R518): mailbox `m`. -/
  | fltRead (m : Fin 16)
  /-- FLT_CLEAR (R518): mailbox `m`. -/
  | fltClear (m : Fin 16)
  /-- HEARTBEAT_SEND (R467): role 0 ring manager, 1 time master. -/
  | heartbeatSend (r : Fin 2)
  /-- HEARTBEAT (R471): a good frame delivered on ring `r`. -/
  | heartbeat (r : Fin 2) (f : Frame)
  /-- AUTH_ACK (R467): a good frame delivered on ring `r`. -/
  | authAck (r : Fin 2) (f : Frame)
  /-- AUTHORITY_LEASE_EXPIRE (R467): role. -/
  | authorityLeaseExpire (r : Fin 2)
  /-- LAPSED_END (R467): role. -/
  | lapsedEnd (r : Fin 2)
  /-- HEARTBEAT_SILENCE (R468): role. -/
  | heartbeatSilence (r : Fin 2)
  /-- TAKE_REQ (R468): a good frame delivered on ring `r`. -/
  | takeReq (r : Fin 2) (f : Frame)
  /-- TAKE_ANS (R468): a good frame delivered on ring `r`. -/
  | takeAns (r : Fin 2) (f : Frame)
  /-- NO_HOLDER_TIMEOUT (R469): role. -/
  | noHolderTimeout (r : Fin 2)
  /-- WITNESS_HOST_TIMEOUT (R469): role. -/
  | witnessHostTimeout (r : Fin 2)
  /-- APPOINT (R466): a good frame delivered on ring `r`. -/
  | appoint (r : Fin 2) (f : Frame)
  /-- TABLE (R466): a good frame delivered on ring `r`. -/
  | table (r : Fin 2) (f : Frame)
  /-- STANDBY_PASS_OVER (R466): role. -/
  | standbyPassOver (r : Fin 2)
  /-- STANDBY_ACK_TIMEOUT (R473). -/
  | standbyAckTimeout
  /-- SWAP_REQ (R474): a good frame delivered on ring `r`. -/
  | swapReq (r : Fin 2) (f : Frame)
  /-- ROLE_SWAP_TIMEOUT (R474): role. -/
  | roleSwapTimeout (r : Fin 2)
  /-- CENSUS_RPT_SEND (R476). -/
  | censusRptSend
  /-- CENSUS_RPT (R476): a good frame delivered on ring `r`. -/
  | censusRpt (r : Fin 2) (f : Frame)
  /-- NODE_ABSENT (R476). -/
  | nodeAbsent (n : Fin 256)
  /-- SIZE_SET_SEND (R477). -/
  | sizeSetSend
  /-- SIZE_SET (R477): a good frame delivered on ring `r`. -/
  | sizeSet (r : Fin 2) (f : Frame)
  /-- LEASE_OP_ACQUIRE (R480): a good frame delivered on ring `r`. -/
  | leaseOpAcquire (r : Fin 2) (f : Frame)
  /-- LEASE_OP_RENEW (R480): a good frame delivered on ring `r`. -/
  | leaseOpRenew (r : Fin 2) (f : Frame)
  /-- LEASE_OP_RELEASE (R480): a good frame delivered on ring `r`. -/
  | leaseOpRelease (r : Fin 2) (f : Frame)
  /-- LEASE_OP_GRANT (R481): a good frame delivered on ring `r`. -/
  | leaseOpGrant (r : Fin 2) (f : Frame)
  /-- LEASE_OP_REFUSE (R481): a good frame delivered on ring `r`. -/
  | leaseOpRefuse (r : Fin 2) (f : Frame)
  /-- LEASE_EXPIRE (R481): the resource. -/
  | leaseExpire (res : Word)
  /-- LEASE_REQUEST_REPEAT (R481): the session that waits. -/
  | leaseRequestRepeat (m : Fin 16)
  /-- LEASE_ANSWER_TIMEOUT (R481): the session that waits. -/
  | leaseAnswerTimeout (m : Fin 16)
  /-- ROLE_SET_CONFIG (R491): mailbox `m`. -/
  | roleSetConfig (m : Fin 16)
  /-- ROLE_SET_GRANT (R469): mailbox `m`. -/
  | roleSetGrant (m : Fin 16)
  /-- ROLE_SET_DENY (R469): mailbox `m`. -/
  | roleSetDeny (m : Fin 16)
  /-- ROLE_SWAP (R474): mailbox `m`. -/
  | roleSwap (m : Fin 16)
  /-- LEASE_ACQUIRE (R487): mailbox `m`. -/
  | leaseAcquire (m : Fin 16)
  /-- LEASE_RENEW (R487): mailbox `m`. -/
  | leaseRenew (m : Fin 16)
  /-- LEASE_RELEASE (R487): mailbox `m`. -/
  | leaseRelease (m : Fin 16)
  /-- CENSUS_READ (R487): mailbox `m`. -/
  | censusRead (m : Fin 16)
  /-- MEMORY_UNCORRECTABLE (R494): the source of the memory, and its information word. -/
  | memoryUncorrectable (src : Fin 256) (info : Word) (corrected : Bool) (q : Fin 1024) (item cell : Nat)
  /-- FLT_STATUS_VALID_WRITE (R501). -/
  | fltStatusValidWrite
  /-- FLT_CTL_SAFE_EXIT (R503). -/
  | fltCtlSafeExit
  /-- FLT_UNQUAR_WRITE (R522). -/
  | fltUnquarWrite (v : Word)
  /-- FLT_INJ_WRITE (R504). -/
  | fltInjWrite (v : Word)
  /-- LOCKSTEP_MISMATCH (R494): pair K or M, and the step address. -/
  | lockstepMismatch (k : Bool) (at_ : Word)
  /-- CORE_WATCHDOG_EXPIRE (R494): pair K or M. -/
  | coreWatchdogExpire (k : Bool)
  /-- PLL_LOCK_LOSS (R494): 0 CORE, 1 CTRL, 2 PORT, 3 TIME. -/
  | pllLockLoss (p : Fin 4)
  /-- LOGIC_TEMP_LIMIT (R608): temperature in 1/16 °C. -/
  | logicTempLimit (t : Int)
  /-- BLT_CTL_FREEZE (R510). -/
  | bltCtlFreeze
  /-- BLT_CTL_THAW (R510). -/
  | bltCtlThaw
  /-- BLT_CLR_WRITE (R510). -/
  | bltClrWrite
  /-- MON_SAMPLE (R515): slot and value measured. -/
  | monSample (m : Fin 16) (v : Int)
  /-- MON_CTL_ARM (R516): slot. -/
  | monCtlArm (m : Fin 16)
  /-- MON_CTL_STOP (R516): slot. -/
  | monCtlStop (m : Fin 16)
  /-- CPH_PAGE_ENABLE (R533): requester and page. -/
  | cphPageEnable (o : Origin) (p : Fin 16)
  /-- CPH_PAGE_DISABLE (R534): requester and page. -/
  | cphPageDisable (o : Origin) (p : Fin 16)
  /-- CPH_CMD_LOAD (R527): requester, page, key slot, KSIZE, PERSIST; `nvOk`: the MRAM write reads back well. -/
  | cphCmdLoad (o : Origin) (p : Fin 16) (k : Fin 32) (ksize : Fin 4) (persist : Bool) (nvOk : Bool)
  /-- CPH_CMD_ERASE (R528): requester, page, key slot. -/
  | cphCmdErase (o : Origin) (p : Fin 16) (k : Fin 32)
  /-- CPH_JOB_START (R542). -/
  | cphJobStart
  /-- CPH_JOB_END (R540). -/
  | cphJobEnd
  /-- CPH_RESULT_ADMIT (R540). -/
  | cphResultAdmit (p : Fin 16)
  /-- CPH_DIN_WRITE (R541): requester, page and job bytes. -/
  | cphDinWrite (o : Origin) (p : Fin 16) (data : List Byte)
  /-- CPH_COUNTER_PERSIST (R538): key slot; whether the write reads back well. -/
  | cphCounterPersist (k : Fin 32) (ok : Bool)
  /-- KEY_LOAD (R543): mailbox `m`; `nvOk`: the MRAM write reads back well. -/
  | keyLoad (m : Fin 16) (nvOk : Bool)
  /-- KEY_ERASE (R528): mailbox `m`. -/
  | keyErase (m : Fin 16)
  /-- MAC_GEN (R535): mailbox `m`. -/
  | macGen (m : Fin 16)
  /-- MAC_VERIFY (R536): mailbox `m`. -/
  | macVerify (m : Fin 16)
  /-- COMPANION_TICK (R549): what the companion measures in the tick. -/
  | companionTick (t : TickIn)
  /-- FEED_GOOD (R551): feed 0 A, 1 B. -/
  | feedGood (x : Fin 2)
  /-- FEED_LOST (R551): feed. -/
  | feedLost (x : Fin 2)
  /-- FEED_OVERVOLTAGE (R553): feed and VIN in mV. -/
  | feedOvervoltage (x : Fin 2) (vin : Nat)
  /-- FEED_REVERSE_CURRENT (R553): feed. -/
  | feedReverseCurrent (x : Fin 2)
  /-- FEED_REVERSE_RECOVER (R553): feed. -/
  | feedReverseRecover (x : Fin 2)
  /-- FEED_IMBALANCE (R554): share of feed A in %. -/
  | feedImbalance (share : Nat)
  /-- INFAIL_ENTER (R555). -/
  | infailEnter
  /-- INFAIL_END (R555). -/
  | infailEnd
  /-- FEED_ENABLE (R556): feed. -/
  | feedEnable (x : Fin 2)
  /-- FEED_DISABLE (R556): feed. -/
  | feedDisable (x : Fin 2)
  /-- SLOT_ENABLE (R574): slot. -/
  | slotEnable (n : Fin 8)
  /-- SLOT_DISABLE (R557): slot. -/
  | slotDisable (n : Fin 8)
  /-- SLOT_ON_WRITE (R557): slot. -/
  | slotOnWrite (n : Fin 8)
  /-- SLOT_OFF_WRITE (R564): slot. -/
  | slotOffWrite (n : Fin 8)
  /-- SLOT_CTL_RETRY (R567): slot. -/
  | slotCtlRetry (n : Fin 8)
  /-- SLOT_INSERTION_DELAY_END (R557): slot. -/
  | slotInsertionDelayEnd (n : Fin 8)
  /-- SLOT_FAST_TRIP (R565): slot. -/
  | slotFastTrip (n : Fin 8)
  /-- SLOT_START_TIMER_EXPIRE (R566): slot. -/
  | slotStartTimerExpire (n : Fin 8)
  /-- SLOT_FAULT_TIMER_EXPIRE (R562): slot. -/
  | slotFaultTimerExpire (n : Fin 8)
  /-- SLOT_COOLDOWN_END (R567): slot. -/
  | slotCooldownEnd (n : Fin 8)
  /-- SLOT_LEAD_END (R564): slot. -/
  | slotLeadEnd (n : Fin 8)
  /-- SLOT_WARN_RELEASE (R563): slot. -/
  | slotWarnRelease (n : Fin 8)
  /-- SLOT_PG_UNDERVOLTAGE (R562): slot. -/
  | slotPgUndervoltage (n : Fin 8)
  /-- SLOT_RETRIES_CLEAR (R567): slot. -/
  | slotRetriesClear (n : Fin 8)
  /-- SLOT_BUS_OVERVOLTAGE (R560): slot. -/
  | slotBusOvervoltage (n : Fin 8)
  /-- COMPANION_THERMAL_SHUTDOWN (R577): temperature in 1/16 °C. -/
  | companionThermalShutdown (t : Int)
  /-- COMPANION_THERMAL_RECOVER (R577). -/
  | companionThermalRecover
  /-- COMPANION_TEMP_WARNING (R576): temperature in 1/16 °C. -/
  | companionTempWarning (t : Int)
  /-- NV_INHIBIT_ENTER (R570): bit 0 VCORE, bit 1 V3P3, bit 2 FEEDLOW. -/
  | nvInhibitEnter (causes : Fin 8)
  /-- NV_INHIBIT_END (R570). -/
  | nvInhibitEnd
  /-- CSEQ_OUTPUT_ASSERT (R571). -/
  | cseqOutputAssert
  /-- CSEQ_TIMEOUT (R571). -/
  | cseqTimeout
  /-- CSEQ_RETRY (R571). -/
  | cseqRetry
  /-- CSEQ_SHUTDOWN (R571). -/
  | cseqShutdown
  /-- CSEQ_PG_FALL (R571): sequencing input. -/
  | cseqPgFall (k : Fin 4)
  /-- PWR_STBY_SET_HI_WRITE (R572). -/
  | pwrStbySetHiWrite (v : Word)
  /-- PWR_STBY_CNT_LO_READ (R572). -/
  | pwrStbyCntLoRead
  /-- LOAD_SHED (R573). -/
  | loadShed
  /-- FEED_STATUS (R575): mailbox `m`. -/
  | feedStatus (m : Fin 16)
  /-- SLOT_ON (R575): mailbox `m`. -/
  | slotOn (m : Fin 16)
  /-- SLOT_OFF (R575): mailbox `m`. -/
  | slotOff (m : Fin 16)
  /-- SLOT_RETRY (R575): mailbox `m`. -/
  | slotRetry (m : Fin 16)
  /-- FIRMWARE_START (R589). -/
  | firmwareStart
  /-- BOOT_CONFIRM (R592). -/
  | bootConfirm
  /-- HOURS_PERSIST (R599). -/
  | hoursPersist
  /-- COMPANION_RESET_END (R571). -/
  | companionResetEnd
  /-- BAD_OPCODE (R441): mailbox `m`. -/
  | badOpcode (m : Fin 16)
  /-- CAN_RECEIVE_ERROR (R339): a protocol exception; further steps of 8 that ISO 11898-1 adds to REC. -/
  | canReceiveError (k : Fin 16) (pxe : Bool) (steps : Nat)
  deriving DecidableEq, Repr

end Sys2Proof
end

