-- ==== Sys2Proof/Machine/Table.lean ====
section
/-! DEFINITION. Sparse tables: reading, writing and mapping data held by key in one canonical form
(strictly rising keys, no entry equal to what an unlisted key reads as). -/
namespace Sys2Proof.Machine
open Sys2Proof

variable {α : Type}

/-- What key `k` holds; an unlisted key holds `d k`. -/
def tget (d : Nat → α) : Tbl α → Nat → α
  | [], k => d k
  | (j, v) :: t, k => if j = k then v else tget d t k

/-- Drop every entry of key `k`. -/
def tdel : Tbl α → Nat → Tbl α
  | [], _ => []
  | (j, v) :: t, k => if j = k then tdel t k else (j, v) :: tdel t k

/-- Put an entry before the first larger key. -/
def tins : Tbl α → Nat → α → Tbl α
  | [], k, v => [(k, v)]
  | (j, x) :: t, k, v => if k < j then (k, v) :: (j, x) :: t else (j, x) :: tins t k v

/-- Make key `k` hold `v`; a value equal to the unlisted one removes the entry. -/
def tset [DecidableEq α] (d : Nat → α) (t : Tbl α) (k : Nat) (v : α) : Tbl α :=
  if v = d k then tdel t k else tins (tdel t k) k v

/-- Change what key `k` holds. -/
def tmod [DecidableEq α] (d : Nat → α) (t : Tbl α) (k : Nat) (f : α → α) : Tbl α :=
  tset d t k (f (tget d t k))

/-- The canonical form: keys strictly rising above `lo`, no entry equal to the unlisted value. -/
def twf [DecidableEq α] (d : Nat → α) : Nat → Tbl α → Bool
  | _, [] => true
  | lo, (k, v) :: t => decide (lo ≤ k) && decide (v ≠ d k) && twf d (k + 1) t

/-- Keep the entries whose key satisfies `p`. -/
def tkeep (p : Nat → Bool) (t : Tbl α) : Tbl α := t.filter (fun e => p e.1)

/-- Byte `i` of a list, zero beyond its end. -/
def nthD (d : α) : List α → Nat → α
  | [], _ => d
  | x :: _, 0 => x
  | _ :: t, n + 1 => nthD d t n

/-- Replace element `i` of a list; an index beyond the end changes nothing. -/
def setNth : List α → Nat → α → List α
  | [], _, _ => []
  | _ :: t, 0, v => v :: t
  | x :: t, n + 1, v => x :: setNth t n v

/-- Sum of a list of numbers. -/
def sumN : List Nat → Nat
  | [] => 0
  | x :: t => x + sumN t

end Sys2Proof.Machine
end

