-- ==== Sys2Proof/Machine/Flags.lean ====
section
/-! DEFINITION. Bit-field helpers on register words: the fields, sticky event bits and saturating
counters every chapter's registers are made of (R17-R19). -/
namespace Sys2Proof.Machine
open Sys2Proof

/-- Bits [hi:lo] of a number. -/
def bitsOf (n hi lo : Nat) : Nat := (n / 2 ^ lo) % 2 ^ (hi + 1 - lo)

/-- Bit `i` of a number. -/
def bitOf (n i : Nat) : Bool := (n / 2 ^ i) % 2 == 1

/-- Field [hi:lo] of a word. -/
def fld (w : Word) (hi lo : Nat) : Nat := bitsOf w.toNat hi lo

/-- Bit `i` of a word. -/
def bit (w : Word) (i : Nat) : Bool := bitOf w.toNat i

/-- A word of a number, modulo 2^32. -/
def w32 (n : Nat) : Word := BitVec.ofNat 32 n

/-- The mask of bits [hi:lo]. -/
def maskOf (hi lo : Nat) : Word := w32 ((2 ^ (hi + 1 - lo) - 1) * 2 ^ lo)

/-- Word with field [hi:lo] holding `v`. -/
def setFld (w : Word) (hi lo v : Nat) : Word :=
  (w &&& ~~~ maskOf hi lo) ||| w32 ((v % 2 ^ (hi + 1 - lo)) * 2 ^ lo)

/-- Word with bit `i` set to `b`. -/
def setBit (w : Word) (i : Nat) (b : Bool) : Word := setFld w i i (if b then 1 else 0)

/-- 0 or 1. -/
def b2n (b : Bool) : Nat := if b then 1 else 0

/-- 32-bit saturating add, the rule of every counter register. -/
def satAdd (w : Word) (n : Nat) : Word :=
  if w.toNat + n < 4294967296 then w32 (w.toNat + n) else w32 4294967295

/-- 32-bit subtraction that stops at 0. -/
def satSub (w : Word) (n : Nat) : Word := w32 (w.toNat - n)

/-- Signed value of a word. -/
def sgn (w : Word) : Int := w.toInt

/-- A word of a signed number, modulo 2^32. -/
def wOfInt (i : Int) : Word := BitVec.ofInt 32 i

/-- Smallest multiple count covering `n` by `k`. -/
def ceilDiv (n k : Nat) : Nat := (n + k - 1) / k

end Sys2Proof.Machine
end

