-- ==== Sys2Proof/Machine/CanBits.lean ====
section
/-! DEFINITION. The bits of a CAN frame on the bus, in the format of ISO 11898-1, which R321 names and does not repeat (log entry 38,
PRESUMED): stuff bits, stuff count, CRC and the frame's fields. A bit is true for recessive, the level high (R322). -/
namespace Sys2Proof.Machine
open Sys2Proof

/-- The low `n` bits of a number, most significant first. -/
def msbBits (n v : Nat) : List Bool := (List.range n).map (fun i => bitOf v (n - 1 - i))

/-- One bit into a CRC register of `w` bits. -/
def canCrcStep (w poly c : Nat) (b : Bool) : Nat :=
  let c2 := 2 * c % 2 ^ w
  if bitOf c (w - 1) != b then c2 ^^^ poly else c2

def canCrc (w poly init : Nat) (l : List Bool) : Nat := l.foldl (canCrcStep w poly) init

/-- Dynamic stuffing: after five equal bits the complement; `n` bits equal to `last` stand before. `tail` says whether a run that
ends the list is stuffed too, as in a Classical CAN frame's CRC. -/
def canStuff (tail : Bool) : Option Bool → Nat → List Bool → List Bool
  | _, _, [] => []
  | last, n, b :: t =>
    let m := if last = some b then n + 1 else 1
    if m = 5 && (tail || !t.isEmpty) then b :: (!b) :: canStuff tail (some (!b)) 1 t
    else b :: canStuff tail (some b) m t

/-- Stuff bits removed, to the end of the list; none at six equal bits, a stuff error. -/
def canDestuff : Option Bool → Nat → List Bool → Option (List Bool)
  | _, _, [] => some []
  | last, n, b :: t =>
    if last = some b then (if n = 5 then none else (canDestuff (some b) (n + 1) t).map (b :: ·))
    else if n = 5 then canDestuff (some b) 1 t
    else (canDestuff (some b) 1 t).map (b :: ·)

/-- The stuff count of an ISO CAN FD frame: the number of stuff bits modulo 8 in Gray code, and even parity. -/
def stuffCount (n : Nat) : List Bool :=
  let g := msbBits 3 ((n % 8) ^^^ (n % 8 / 2))
  g ++ [g.foldl (· != ·) false]

/-- The CRC field of a CAN FD frame: a fixed stuff bit first and after every fourth bit, each the complement of the bit before it. -/
def fixedStuff : Nat → Bool → List Bool → List Bool
  | _, _, [] => []
  | 0, last, b :: t => (!last) :: b :: fixedStuff 3 b t
  | n + 1, _, b :: t => b :: fixedStuff n b t

/-- Start of frame to the end of the data, before stuffing: words 0 and 1 as in a record (R328). -/
def canHead (w0 w1 : Word) (data : List Byte) : List Bool :=
  let id := fld w0 28 0
  let rtr := bit w0 30
  let fdf := bit w0 29
  let arb := if bit w0 31 then msbBits 11 (id / 2 ^ 18) ++ [true, true] ++ msbBits 18 id ++ [rtr]
    else msbBits 11 id ++ [rtr, false]
  let ctl := if fdf then [true, false, bit w1 27, bit w1 26] else if bit w0 31 then [false, false] else [false]
  (false :: arb) ++ ctl ++ msbBits 4 (fld w1 23 20) ++ data.flatMap (fun b => msbBits 8 b.toNat)

/-- Stuffed data part and CRC field of a frame (R321: ISO CAN FD with stuff count). -/
def canBody (w0 w1 : Word) (data : List Byte) : List Bool :=
  let h := canHead w0 w1 data
  if bit w0 29 then
    let st := canStuff false none 0 h
    let sc := stuffCount (st.length - h.length)
    let crc := if data.length ≤ 16 then msbBits 17 (canCrc 17 0x1685B 0x10000 (st ++ sc))
      else msbBits 21 (canCrc 21 0x102899 0x100000 (st ++ sc))
    st ++ fixedStuff 0 (st.getLastD true) (sc ++ crc)
  else canStuff true none 0 (h ++ msbBits 15 (canCrc 15 0x4599 0 h))

/-- A whole frame as its transmitter drives it: CRC delimiter, acknowledgement slot left recessive, delimiter, end of frame. -/
def canBits (w0 w1 : Word) (data : List Byte) : List Bool := canBody w0 w1 data ++ List.replicate 10 true

/-- An active error flag or an overload flag: six dominant bits; a passive error flag: six recessive bits. Eight recessive bits
follow as delimiter. -/
def flagLevels (active : Bool) : List Bool := List.replicate 6 (!active) ++ List.replicate 8 true

end Sys2Proof.Machine
end

