-- ==== Sys2Proof/Config.lean ====
section
/-! DEFINITION. What the spec leaves open: free values, opaque so that nothing can be proved of one. -/
namespace Sys2Proof.Config
open Sys2Proof

/-- A 32-bit value the spec leaves open, fresh at each use of the model's counter. -/
opaque freeWord : Nat → Word

/-- The direction a quadrature step counts when S0 leads S1: the spec gives the phase steps no sign (R229). -/
opaque quadLeadsUp : Bool

/-- The ROM version that GET_IDENTITY word 6 gives (R458): the spec states no value. -/
opaque romVersion : Word

end Sys2Proof.Config
end

