-- ==== Sys2Proof/Machine/Operands.lean ====
section
/-! DEFINITION. Operand forms: byte order of words (R17), the frame header and its CRC-32 (R84-R86), the CRC-8 of the SPI
target (R157), the CRC-16 of a blotter record (R506), and the legal splits of an access (R128, R153). -/
namespace Sys2Proof.Machine
open Sys2Proof

/-- The four bytes of a word, least significant first (R17). -/
def wordBytes (w : Word) : List Byte :=
  [BitVec.ofNat 8 w.toNat, BitVec.ofNat 8 (w.toNat / 256), BitVec.ofNat 8 (w.toNat / 65536),
   BitVec.ofNat 8 (w.toNat / 16777216)]

/-- A number of bytes, least significant first. -/
def leBytes : Nat → Nat → List Byte
  | 0, _ => []
  | k + 1, n => BitVec.ofNat 8 n :: leBytes k (n / 256)

/-- The number of a little-endian byte list. -/
def leNat : List Byte → Nat
  | [] => 0
  | b :: t => b.toNat + 256 * leNat t

/-- The word at byte position `i` of a list, zero beyond its end. -/
def wordAt (d : List Byte) (i : Nat) : Word := w32 (leNat ((d.drop i).take 4))

/-- The words of a byte list. -/
def bytesWords : Nat → List Byte → List Word
  | 0, _ => []
  | n + 1, d => wordAt d 0 :: bytesWords n (d.drop 4)

/-- The four header words of a frame (R84, R85). -/
def headerWords (f : Frame) : List Word :=
  [w32 ((f.dst % 256) * 16777216 + (f.src % 256) * 65536 + (f.typ % 16) * 4096 + (f.cls % 4) * 1024
      + b2n f.ts * 512 + b2n f.pri * 256 + b2n f.last * 128 + b2n f.single * 64 + b2n f.ring * 32 + b2n f.uw * 16 + f.rsv % 16),
   w32 ((f.seq % 65536) * 65536 + (f.tag % 1024) * 64 + f.len % 64),
   w32 ((f.hop % 256) * 16777216 + f.addr % 16777216),
   w32 (f.addr / 16777216)]

/-- One bit of a reflected CRC. -/
def crcBits (poly : Nat) : Nat → Nat → Nat
  | 0, c => c
  | k + 1, c => crcBits poly k (if c % 2 = 1 then (c / 2) ^^^ poly else c / 2)

/-- A reflected CRC over bytes. -/
def crcReflected (poly : Nat) : Nat → List Byte → Nat
  | c, [] => c
  | c, b :: t => crcReflected poly (crcBits poly 8 (c ^^^ b.toNat)) t

/-- CRC-32 of IEEE 802.3 (R86). -/
def crc32 (d : List Byte) : Word := w32 (crcReflected 0xEDB88320 0xFFFFFFFF d ^^^ 0xFFFFFFFF)

/-- The CRC a frame must carry: header bytes 0–15 with HOP taken as 0, and the payload (R86). -/
def frameCrc (f : Frame) : Word :=
  crc32 ((headerWords { f with hop := 0 }).flatMap wordBytes ++ f.payload)

/-- A frame with its right CRC. -/
def withCrc (f : Frame) : Frame := { f with crc := frameCrc f }

/-- A frame whose covered bytes a hub has changed: the CRC is updated by the change, so a bad one stays bad (R86). -/
def reseal (old new : Frame) : Frame := { new with crc := old.crc ^^^ frameCrc old ^^^ frameCrc new }

/-- One step of a CRC that is not reflected, of width `w`. -/
def crcUpBits (w poly : Nat) : Nat → Nat → Nat
  | 0, c => c
  | k + 1, c => crcUpBits w poly k (if c / 2 ^ (w - 1) % 2 = 1 then (c * 2 % 2 ^ w) ^^^ poly else c * 2 % 2 ^ w)

def crcUp (w poly : Nat) : Nat → List Byte → Nat
  | c, [] => c
  | c, b :: t => crcUp w poly (crcUpBits w poly 8 (c ^^^ (b.toNat * 2 ^ (w - 8)))) t

/-- CRC-8, polynomial 0x07, initial value 0 (R157). -/
def crc8 (d : List Byte) : Byte := BitVec.ofNat 8 (crcUp 8 0x07 0 d)

/-- CRC-16/CCITT of a blotter record (R506). -/
def crc16 (d : List Byte) : Nat := crcUp 16 0x1021 0xFFFF d

/-- Credit units a frame of `len` 8-byte units is charged (R91). -/
def frameUnits (len : Nat) : Nat := ceilDiv (20 + 8 * len) 64

/-- Blocks a frame occupies (R83). -/
def frameBlocks (f : Frame) : Nat := f.len + 3

/-- Class of a frame type (R88); none = a reserved type. -/
def classOf : Nat → Option Nat
  | 0 => some 2 | 1 => some 2 | 2 => some 2 | 3 => some 1 | 4 => some 1 | 5 => some 3
  | 6 => some 0 | 7 => some 0 | 8 => some 0 | 9 => some 0 | 10 => some 0 | 11 => some 0
  | _ => none

/-- The size and alignment of an access are legal (R128), and it stays within a 4 KiB page. An 8-byte read of a quill's QL_RXD and
QL_RXS, which R296 gives at an offset that R128 does not allow, is legal (DESIGN CHOICE, log entry 37). -/
def legalAccess (a : Access) : Bool :=
  let c := a.count
  let sized :=
    if c == 1 then true
    else if c == 2 then a.addr % 2 == 0
    else if c == 4 then a.addr % 4 == 0
    else if c == 8 then a.addr % 8 == 0 || (a.kind == .rd && 0x200000 ≤ a.addr && a.addr < 0x240000 && a.addr % 0x1000 == 0x44)
    else 16 ≤ c && c ≤ (if a.kind = .wrN then 248 else 256) && c % 8 == 0 && a.addr % 8 == 0
  sized && a.addr % 4096 + c ≤ 4096

/-- Largest legal size at `addr` for `n` bytes left (R128, R153). -/
def largestSize (kind : AccKind) (addr n : Nat) : Nat :=
  let room := 4096 - addr % 4096
  let n := min n room
  if addr % 8 == 0 && 8 ≤ n then min (n / 8 * 8) (if kind = .wrN then 248 else 256)
  else if addr % 4 == 0 && 4 ≤ n then 4
  else if addr % 2 == 0 && 2 ≤ n then 2
  else 1

/-- Split a run of bytes at `addr` into the largest legal accesses, in ascending order (R153). -/
def splitRun (kind : AccKind) : Nat → Nat → Nat → List Byte → List Access
  | 0, _, _, _ => []
  | fuel + 1, addr, n, d =>
    if n = 0 then []
    else
      let c := largestSize kind addr n
      ⟨kind, addr, c, if kind = .rd then [] else d.take c⟩ :: splitRun kind fuel (addr + c) (n - c) (d.drop c)

end Sys2Proof.Machine
end

