-- ==== Sys2Proof/Machine/RegMap.lean ====
section
/-! DEFINITION. The node-local register map (R35): every register of the spec's register tables with its access
type, its reset value and the bits a write can change (R17-R19), and the named offsets the meanings use. -/
namespace Sys2Proof.Machine
open Sys2Proof

/-- One row of a register table: first offset, number of registers, stride, access type, reset value, and the mask of
the bits that are not reserved. -/
structure RegRow where
  off  : Nat
  n    : Nat
  stride : Nat
  acc  : Acc
  rst  : Nat
  mask : Nat
  deriving DecidableEq, Repr

/-- The row of a table that offset `o` falls in. -/
def findRow : List RegRow → Nat → Option RegRow
  | [], _ => none
  | r :: t, o =>
    if r.off ≤ o && (o - r.off) % r.stride == 0 && (o - r.off) / r.stride < r.n then some r else findRow t o


/-- HUB_ registers (R36, R158, R162, R491). -/
def hubRows : List RegRow := [
  ⟨0x000, 1, 4, .ro, 0x92560210, 0xFFFFFFFF⟩, ⟨0x004, 1, 4, .ro, 0, 0x7FF⟩, ⟨0x008, 1, 4, .rw, 0, 0x11⟩,
  ⟨0x00C, 1, 4, .ro, 0, 0xF1F⟩, ⟨0x010, 1, 4, .ro, 0, 0xFF⟩, ⟨0x014, 1, 4, .ros, 1, 0xFF⟩,
  ⟨0x018, 1, 4, .rw, 0, 0xFFFF⟩, ⟨0x01C, 1, 4, .ro, 0, 0xFFFF⟩, ⟨0x040, 16, 4, .rc, 0, 0xFFFFFFFF⟩,
  ⟨0x080, 32, 4, .rw, 0, 0x1F⟩,
  ⟨0x100, 1, 4, .rw, 0x8, 0x10F⟩, ⟨0x104, 1, 4, .rw, 0x7D0, 0xFFFFFF⟩, ⟨0x108, 1, 4, .rw, 0x33, 0xFF⟩,
  ⟨0x10C, 1, 4, .ro, 0, 0x7FF07FF⟩, ⟨0x110, 1, 4, .rw, 0, 0xFFFFFFFF⟩, ⟨0x114, 1, 4, .rw, 0, 1⟩,
  ⟨0x118, 1, 4, .w1c, 0, 0x80000000⟩, ⟨0x11C, 1, 4, .ro, 0, 0xFFFFFFFF⟩, ⟨0x120, 1, 4, .rw, 0, 1⟩,
  ⟨0x140, 11, 4, .rc, 0, 0xFFFFFFFF⟩,
  ⟨0x400, 16, 0x40, .rw, 0, 0xFFFFF000⟩, ⟨0x404, 16, 0x40, .rw, 0, 0xFFFFFF⟩,
  ⟨0x408, 16, 0x40, .rw, 0, 0xFFFFF000⟩, ⟨0x40C, 16, 0x40, .rw, 0, 0xFFFFFF⟩, ⟨0x410, 16, 0x40, .rw, 0, 7⟩,
  ⟨0x420, 16, 0x40, .rw, 0, 0xFFFFFFFF⟩, ⟨0x424, 16, 0x40, .rw, 0, 0xFFFFFFFF⟩,
  ⟨0x428, 16, 0x40, .rw, 0, 0xFFFFFFFF⟩, ⟨0x42C, 16, 0x40, .rw, 0, 0xFFFFFFFF⟩,
  ⟨0x430, 16, 0x40, .rw, 0, 0xFFFFFFFF⟩, ⟨0x434, 16, 0x40, .rw, 0, 0xFFFFFFFF⟩,
  ⟨0x438, 16, 0x40, .rw, 0, 0xFFFFFFFF⟩, ⟨0x43C, 16, 0x40, .rw, 0, 0xFFFFFFFF⟩,
  ⟨0x800, 1, 4, .rw, 0xFE50, 0xFF83FFF0⟩, ⟨0x804, 1, 4, .ro, 0, 0xFF⟩, ⟨0x808, 1, 4, .w1c, 0, 0xFF⟩,
  ⟨0x80C, 1, 4, .rw, 0, 0xFF⟩, ⟨0x810, 1, 4, .ro, 0, 0xFFFFFFFF⟩, ⟨0x814, 1, 4, .ro, 0, 0xFFFFFFFF⟩,
  ⟨0x818, 1, 4, .ro, 0, 0xFFFFFFFF⟩, ⟨0x81C, 1, 4, .ro, 0, 0xFFFFFFFF⟩, ⟨0x830, 4, 4, .rc, 0, 0xFFFFFFFF⟩]

/-- FLT_ registers at 0x1000 (R520–R522); FLT_SEVn takes its reset value from `sevReset`. -/
def fltRows : List RegRow := [
  ⟨0x000, 1, 4, .rw, 1, 1⟩, ⟨0x004, 1, 4, .w1c, 0, 0x80000000⟩, ⟨0x008, 1, 4, .ro, 0, 0x3FF⟩,
  ⟨0x00C, 1, 4, .ro, 0, 0xFFFFFFFF⟩, ⟨0x010, 1, 4, .ro, 0, 0xFFFFFFFF⟩, ⟨0x014, 1, 4, .ro, 0, 0xFFFFFFFF⟩,
  ⟨0x018, 1, 4, .ro, 0, 0xFFFFFFFF⟩, ⟨0x01C, 1, 4, .ro, 0, 0x3FF⟩, ⟨0x020, 1, 4, .wo, 0, 0xF000FFFF⟩,
  ⟨0x024, 1, 4, .wo, 0, 0xFF⟩, ⟨0x028, 1, 4, .rw, 0, 0xFFFFFFFF⟩, ⟨0x040, 8, 4, .w1c, 0, 0xFFFFFFFF⟩,
  ⟨0x400, 256, 4, .rw, 0, 0x13⟩, ⟨0x800, 256, 4, .rc, 0, 0xFFFFFFFF⟩]

/-- RING_ registers at 0x30000 (R116–R122). -/
def ringRows : List RegRow := [
  ⟨0x000, 1, 4, .rw, 0x8FE, 0xFFF⟩, ⟨0x004, 1, 4, .ro, 0, 0xFF1F⟩, ⟨0x008, 1, 4, .w1c, 0, 0x7F⟩,
  ⟨0x00C, 1, 4, .ro, 0, 0xFFFF⟩, ⟨0x010, 1, 4, .ro, 0, 0xFFFFFFFF⟩, ⟨0x014, 1, 4, .ro, 0, 0xFFFFFFFF⟩,
  ⟨0x018, 1, 4, .ro, 0, 0x133⟩, ⟨0x040, 24, 4, .rc, 0, 0xFFFFFFFF⟩, ⟨0x100, 16, 4, .ro, 0, 0xFFFFFFFF⟩]

/-- LANE_ registers, West at 0x38000 and East at 0x39000 (R75–R81). -/
def laneRows : List RegRow := [
  ⟨0x000, 1, 4, .rw, 0x19, 0x1D⟩, ⟨0x004, 1, 4, .ro, 1, 0x3F7F⟩, ⟨0x008, 1, 4, .w1c, 0, 0x3F⟩,
  ⟨0x00C, 1, 4, .ro, 0, 0xFF⟩, ⟨0x010, 1, 4, .rw, 0xA0602, 0xF0F0F⟩, ⟨0x014, 1, 4, .ro, 0, 0xFFF⟩,
  ⟨0x018, 1, 4, .ro, 0, 0x3F3F3F⟩, ⟨0x01C, 1, 4, .ro, 0, 0xFFFF⟩, ⟨0x020, 7, 4, .rc, 0, 0xFFFFFFFF⟩,
  ⟨0x040, 1, 4, .rw, 0, 0x3F⟩, ⟨0x044, 1, 4, .rc, 0, 0xFFFFFFFF⟩, ⟨0x048, 2, 4, .ro, 0, 0xFFFFFFFF⟩]

/-- INK_ registers at 0x20000 (R188, R189) and the registers of one queue (R190–R192). -/
def inkRows : List RegRow := [
  ⟨0x000, 1, 4, .rw, 0, 0⟩, ⟨0x004, 1, 4, .ro, 0, 1⟩, ⟨0x008, 1, 4, .ro, 0, 0x3FF00FF⟩,
  ⟨0x00C, 1, 4, .rw, 0x800, 0x3FFF⟩, ⟨0x010, 1, 4, .ro, 0, 0x3FFF⟩, ⟨0x014, 1, 4, .ro, 0x58000000, 0xFFFFFFFF⟩,
  ⟨0x018, 1, 4, .ro, 0x8000, 0xFFFF⟩, ⟨0x01C, 1, 4, .ro, 0, 0xFFFF⟩, ⟨0x020, 1, 4, .ro, 0, 0xFFFF⟩,
  ⟨0x024, 1, 4, .w1c, 0, 3⟩, ⟨0x040, 4, 4, .rc, 0, 0xFFFFFFFF⟩, ⟨0x100, 64, 4, .rw, 0, 0x800003FF⟩]

def queueRows : List RegRow := [
  ⟨0x00, 1, 4, .rw, 0x1F40000, 0x3FFF0301⟩, ⟨0x04, 1, 4, .rw, 0, 0xFF0103FF⟩,
  ⟨0x08, 1, 4, .rw, 0x1000008, 0xFFFFFFFF⟩, ⟨0x0C, 1, 4, .rw, 0, 0xFFFFF⟩, ⟨0x10, 1, 4, .ro, 0, 0xFFFFFFFF⟩,
  ⟨0x14, 1, 4, .w1c, 0, 7⟩, ⟨0x18, 2, 4, .rc, 0, 0xFFFFFFFF⟩]

/-- BLT_ registers at 0x50000 (R523) and the registers of one monitor slot (R524). -/
def bltRows : List RegRow := [
  ⟨0x000, 1, 4, .rw, 2, 3⟩, ⟨0x004, 1, 4, .ro, 0, 0x80001FFF⟩, ⟨0x008, 1, 4, .wo, 0, 1⟩,
  ⟨0x00C, 1, 4, .rw, 0, 0x1F⟩, ⟨0x010, 3, 4, .rc, 0, 0xFFFFFFFF⟩, ⟨0x1000, 1024, 4, .ro, 0, 0xFFFFFFFF⟩]

def monRows : List RegRow := [
  ⟨0x00, 1, 4, .rw, 0, 0⟩, ⟨0x04, 1, 4, .rw, 0, 0xF000FFFF⟩, ⟨0x08, 1, 4, .rw, 0, 0xFFFFF⟩,
  ⟨0x0C, 1, 4, .rw, 0, 0xFFFFFFFF⟩, ⟨0x10, 1, 4, .rw, 1, 0xFFFFFFFF⟩, ⟨0x14, 1, 4, .rw, 0, 0xFFFFFFFF⟩,
  ⟨0x18, 1, 4, .ro, 0, 0xFFFFFFFF⟩, ⟨0x1C, 1, 4, .ro, 0x7FFFFFFF, 0xFFFFFFFF⟩,
  ⟨0x20, 1, 4, .ro, 0x80000000, 0xFFFFFFFF⟩, ⟨0x24, 1, 4, .ro, 0, 0xFFFFFFFF⟩,
  ⟨0x28, 32, 4, .ro, 0, 0xFFFFFFFF⟩]

/-- One nib page (R235–R243). -/
def nibRows : List RegRow := [
  ⟨0x000, 1, 4, .rw, 0, 0x1F3⟩, ⟨0x004, 1, 4, .ro, 0, 0xFC007F7F⟩, ⟨0x008, 1, 4, .ro, 0, 0x300FF⟩,
  ⟨0x00C, 1, 4, .w1c, 0, 0x3FF⟩, ⟨0x010, 1, 4, .rw, 0, 0x3FF⟩, ⟨0x014, 1, 4, .rwl, 0x6C82, 0x38FFFFFF⟩,
  ⟨0x018, 1, 4, .rwl, 0x20100, 0xFFF1FFF⟩, ⟨0x020, 4, 4, .rwl, 0, 0x800101FF⟩,
  ⟨0x040, 1, 4, .rwl, 0x1000008, 0xFFFF3F7F⟩, ⟨0x050, 1, 4, .rwl, 0, 0xF003F00⟩,
  ⟨0x060, 1, 4, .rwl, 0xFF011100, 0xFFFFFFC7⟩, ⟨0x070, 1, 4, .rwl, 0xFF190000, 0xFFFF0380⟩,
  ⟨0x074, 1, 4, .rwl, 0, 0x83FF⟩, ⟨0x080, 1, 4, .rwl, 0, 0xFFE0000⟩, ⟨0x084, 1, 4, .rw, 0, 0xFFFFFFFF⟩,
  ⟨0x088, 1, 4, .rw, 0, 0xFFFFFFFF⟩, ⟨0x08C, 1, 4, .ro, 0, 0xFFFFFFFF⟩, ⟨0x090, 1, 4, .ro, 0, 0xFFFFFFFF⟩,
  ⟨0x094, 1, 4, .rw, 0xFFFFFFFF, 0xFFFFFFFF⟩, ⟨0x0C0, 10, 4, .rc, 0, 0xFFFFFFFF⟩]

/-- Pin crossbar and bank groups at 0x300000 (R244, R245), and the per-pin discrete controls (R275–R279). -/
def xbRows : List RegRow := [
  ⟨0x000, 512, 4, .rwl, 0x20, 0x3F⟩, ⟨0x800, 16, 0x10, .rwl, 0, 1⟩, ⟨0x804, 16, 0x10, .ro, 3, 3⟩,
  ⟨0x808, 16, 0x10, .w1c, 0, 1⟩,
  ⟨0x1000, 512, 0x20, .rw, 0, 0xF007FF⟩, ⟨0x1004, 512, 0x20, .rw, 0, 0xFFFFFFFF⟩,
  ⟨0x1008, 512, 0x20, .rw, 0xA00, 0xFFFF⟩, ⟨0x100C, 512, 0x20, .rw, 0x200, 0x8FFFF313⟩,
  ⟨0x1010, 512, 0x20, .w1c, 0, 0x60⟩, ⟨0x1014, 512, 0x20, .rc, 0, 0xFFFFFFFF⟩,
  ⟨0x1018, 512, 0x20, .rc, 0, 0xFFFFFFFF⟩, ⟨0x5000, 16, 4, .ro, 0, 0xFFFFFFFF⟩,
  ⟨0x5040, 16, 4, .ro, 0, 0xFFFFFFFF⟩, ⟨0x5080, 16, 4, .ro, 0, 0xFFFFFFFF⟩]

/-- STK_ registers at 0x6000 (R280–R282). -/
def stkRows : List RegRow := [
  ⟨0x000, 1, 4, .rw, 0, 0xFF000005⟩, ⟨0x004, 1, 4, .ro, 0, 0x3F⟩, ⟨0x008, 1, 4, .ro, 0, 0xFF⟩,
  ⟨0x00C, 1, 4, .w1c, 0, 0x3F⟩, ⟨0x010, 1, 4, .rwl, 0xF4240, 0xFFFFFFFF⟩, ⟨0x014, 1, 4, .rwl, 0, 0xFFFFFFFF⟩,
  ⟨0x018, 2, 4, .ro, 0, 0xFFFFFFFF⟩, ⟨0x020, 5, 4, .rc, 0, 0xFFFFFFFF⟩, ⟨0x034, 2, 4, .ro, 0, 0xFFFFFFFF⟩,
  ⟨0x040, 32, 4, .rw, 0, 0x800000FF⟩, ⟨0x100, 16, 0x10, .rwl, 0, 0x8000FFFF⟩, ⟨0x104, 16, 0x10, .rwl, 0, 0xFFFF⟩,
  ⟨0x108, 16, 0x10, .rwl, 0, 0xFFFFFFFF⟩, ⟨0x200, 16, 4, .rw, 0, 0xFFFFFFFF⟩, ⟨0x240, 16, 4, .ro, 0, 0xFFFFFFFF⟩,
  ⟨0x300, 6, 4, .ro, 0, 0xFFFFFFFF⟩, ⟨0x318, 48, 4, .ro, 0, 0xFFFFFFFF⟩]

/-- One quill page (R315–R320). -/
def qlRows : List RegRow := [
  ⟨0x000, 1, 4, .rw, 0, 3⟩, ⟨0x004, 1, 4, .ro, 0, 0xFE7FFFFC⟩, ⟨0x008, 1, 4, .ro, 0, 0x7F0FFF⟩,
  ⟨0x00C, 1, 4, .w1c, 0, 0xFF⟩, ⟨0x010, 1, 4, .rw, 0, 0xFF⟩, ⟨0x014, 1, 4, .rwl, 0, 0x1F0C⟩,
  ⟨0x018, 1, 4, .rw, 0, 0xFFFFFFFF⟩, ⟨0x01C, 1, 4, .rwl, 0, 0x83FF83FF⟩, ⟨0x040, 1, 4, .wo, 0, 0xFFFFFFFF⟩,
  ⟨0x044, 1, 4, .ro, 0, 0xFFFFFFFF⟩, ⟨0x048, 1, 4, .ro, 0, 0x8000003F⟩, ⟨0x04C, 2, 4, .ro, 0, 0xFFFFFFFF⟩,
  ⟨0x060, 5, 4, .rc, 0, 0xFFFFFFFF⟩, ⟨0x080, 16, 4, .rwl, 0, 0x800101FF⟩, ⟨0x100, 32, 4, .rw, 0, 0xFFFFFF⟩,
  ⟨0x180, 16, 4, .rw, 0, 0xFFFFFFFF⟩, ⟨0x400, 256, 4, .rw, 0, 0xFFFFFFFF⟩]

/-- One CAN controller page (R356). -/
def canRows : List RegRow := [
  ⟨0x000, 1, 4, .rw, 0, 0xD⟩, ⟨0x004, 1, 4, .ro, 0, 0xFF8000FF⟩, ⟨0x008, 1, 4, .ro, 0, 0x7F00FF⟩,
  ⟨0x00C, 1, 4, .w1c, 0, 0x7FF⟩, ⟨0x010, 1, 4, .rw, 0, 0x7FF⟩, ⟨0x014, 1, 4, .rwl, 0x3E7E3E00, 0xFEFFFEFF⟩,
  ⟨0x018, 1, 4, .rwl, 0x901C9000, 0xF01FF01F⟩, ⟨0x01C, 1, 4, .rwl, 0x1E0000, 0x807F0000⟩,
  ⟨0x020, 1, 4, .rwl, 0xC0000000, 0xF8000000⟩, ⟨0x024, 3, 4, .ro, 0, 0xFFFFFFFF⟩, ⟨0x030, 1, 4, .rw, 0x64, 0xC000FFFF⟩,
  ⟨0x034, 1, 4, .rwl, 0x3E8, 0x80FFFFFF⟩, ⟨0x038, 1, 4, .rwl, 0, 0xFFFFFFFF⟩, ⟨0x03C, 1, 4, .rwl, 0x64, 0x8000FFFF⟩,
  ⟨0x040, 4, 4, .w1s, 0, 0xFFFFFFFF⟩, ⟨0x050, 4, 4, .ro, 0, 0xFFFFFFFF⟩, ⟨0x060, 1, 4, .ro, 0, 0xF⟩,
  ⟨0x080, 14, 4, .rc, 0, 0xFFFFFFFF⟩, ⟨0x100, 4, 0x10, .rwl, 0, 0xDFFFFFFF⟩, ⟨0x104, 4, 0x10, .rwl, 0, 0xDFFFFFFF⟩,
  ⟨0x108, 4, 0x10, .rwl, 0, 1⟩, ⟨0x140, 20, 4, .ro, 0, 0xFFFFFFFF⟩, ⟨0x200, 64, 4, .rwl, 0, 0x8FFFFFFF⟩,
  ⟨0x300, 320, 4, .rwl, 0, 0xFFFFFFFF⟩, ⟨0x800, 128, 0x10, .rwl, 0, 3⟩, ⟨0x804, 128, 0x10, .rwl, 0, 0xDFFFFFFF⟩,
  ⟨0x808, 128, 0x10, .rwl, 0, 0xDFFFFFFF⟩, ⟨0x80C, 128, 0x10, .ro, 0, 0xF000FFFF⟩]

/-- TB_ registers at 0x4000 (R427), base n at 0x4100 + 0x40·n. TB_OFS_ and SLAVE of base 0 are reserved. -/
def tbRows : List RegRow := [
  ⟨0x000, 1, 4, .rw, 0, 1⟩, ⟨0x004, 1, 4, .ro, 0, 0x7FF⟩, ⟨0x008, 1, 4, .ro, 0, 0xFF⟩, ⟨0x00C, 1, 4, .w1c, 0, 0x1FF⟩,
  ⟨0x010, 1, 4, .rw, 0x3E8, 0x1FFFF⟩, ⟨0x014, 1, 4, .rwl, 0x3E8, 0xFFFFFFFF⟩, ⟨0x018, 1, 4, .rwl, 0x32, 0xFFFF⟩,
  ⟨0x01C, 1, 4, .rwl, 0x32, 0x3FF⟩, ⟨0x020, 1, 4, .rwl, 0x19, 0x3FF⟩, ⟨0x024, 3, 4, .ro, 0, 0xFFFFFFFF⟩,
  ⟨0x030, 1, 4, .ro, 0xFFFFFFFF, 0xFFFFFFFF⟩, ⟨0x034, 1, 4, .ro, 0, 0xFFFFFFFF⟩, ⟨0x038, 1, 4, .rw, 0, 0x1FF⟩,
  ⟨0x040, 5, 4, .rc, 0, 0xFFFFFFFF⟩,
  ⟨0x100, 1, 4, .rw, 0, 1⟩, ⟨0x140, 3, 0x40, .rw, 0, 3⟩, ⟨0x104, 4, 0x40, .ro, 0, 0xFFFFFFFF⟩,
  ⟨0x108, 4, 0x40, .ro, 0, 0xFFFFFFFF⟩, ⟨0x10C, 4, 0x40, .rw, 0, 0xFFFFFFFF⟩, ⟨0x110, 4, 0x40, .wo, 0, 0xFFFFFFFF⟩,
  ⟨0x114, 4, 0x40, .wo, 0, 0xFFFFFFFF⟩, ⟨0x158, 3, 0x40, .rw, 0, 0xFFFFFFFF⟩, ⟨0x15C, 3, 0x40, .rw, 0, 0xFFFFFFFF⟩]

/-- PBP_ registers at 0x400000 (R393), windows at 0x401000 and 0x401200 (R397, R398). -/
def pbpRows : List RegRow := [
  ⟨0x000, 1, 4, .rw, 0, 1⟩, ⟨0x004, 1, 4, .ro, 0, 0xF00000FF⟩, ⟨0x008, 1, 4, .w1c, 0, 0x1FF⟩, ⟨0x00C, 1, 4, .rw, 0, 0x1FF⟩,
  ⟨0x010, 1, 4, .rwl, 0x1029, 0x3F7FF⟩, ⟨0x014, 1, 4, .rwl, 0x4040404, 0xFFFFFFFF⟩, ⟨0x018, 1, 4, .rw, 0x14, 0x3FF⟩,
  ⟨0x01C, 1, 4, .rw, 0x32, 0x3FF⟩, ⟨0x020, 1, 4, .rw, 0x64, 0x3FFF⟩, ⟨0x024, 1, 4, .rw, 0xA, 0x3FF⟩,
  ⟨0x030, 1, 4, .rw, 0, 0x7FFFFF⟩, ⟨0x034, 1, 4, .rw, 0, 0xFFFF⟩, ⟨0x038, 1, 4, .ro, 0, 0x7FFF⟩,
  ⟨0x03C, 1, 4, .ro, 0, 0x80007FFF⟩, ⟨0x040, 8, 4, .rwl, 0, 0x800001FF⟩, ⟨0x060, 7, 4, .ro, 0, 0xE0F0FFFF⟩,
  ⟨0x080, 14, 4, .rc, 0, 0xFFFFFFFF⟩,
  ⟨0x1000, 16, 0x20, .rw, 0, 1⟩, ⟨0x1004, 16, 0x20, .ro, 0, 0x1FF⟩, ⟨0x1008, 16, 0x20, .rwl, 0, 0xFFFFFFF⟩,
  ⟨0x100C, 16, 0x20, .rwl, 0xC, 0x3F⟩, ⟨0x1010, 16, 0x20, .rwl, 0, 0xFFFFF000⟩, ⟨0x1014, 16, 0x20, .rwl, 0, 0xFF0000EF⟩,
  ⟨0x1200, 8, 0x20, .rw, 0, 1⟩, ⟨0x1204, 8, 0x20, .ro, 0, 0xFF⟩, ⟨0x1208, 8, 0x20, .rwl, 0, 0xFFFFF000⟩,
  ⟨0x120C, 8, 0x20, .rwl, 0xC, 0x3F⟩, ⟨0x1210, 8, 0x20, .rwl, 0, 0xFFFFF000⟩, ⟨0x1214, 8, 0x20, .rwl, 0, 0xFFFFFFFF⟩,
  ⟨0x1218, 8, 0x20, .rwl, 0, 0xFF01002F⟩]

/-- BOOT_ and NVM_ registers at 0x8000 (R604). -/
def bootRows : List RegRow := [
  ⟨0x000, 1, 4, .ro, 0, 0xF3FFFFFF⟩, ⟨0x004, 1, 4, .w1c, 0, 0x1F⟩, ⟨0x008, 1, 4, .rw, 0, 0x1F⟩, ⟨0x00C, 6, 4, .ro, 0, 0xFFFFFFFF⟩,
  ⟨0x100, 1, 4, .ro, 0, 0x80000001⟩, ⟨0x104, 3, 4, .rc, 0, 0xFFFFFFFF⟩, ⟨0x110, 1, 4, .ro, 0, 0x3FFFFF⟩]

/-- The registers of one mailbox page (R461). -/
def kcRows : List RegRow := [
  ⟨0x000, 2, 4, .wo, 0, 1⟩, ⟨0x008, 1, 4, .ro, 0, 0xF7FFFFFF⟩, ⟨0x00C, 1, 4, .w1c, 0, 0xF⟩, ⟨0x010, 1, 4, .ro, 0, 0xC00000FF⟩,
  ⟨0x014, 1, 4, .ro, 0, 0xFFF0FFF⟩, ⟨0x020, 4, 4, .rc, 0, 0xFFFFFFFF⟩]

/-- PWR_ and FEED_ registers at 0x40000, slot feeds at 0x41000 + 0x40·n (R580). -/
def pwrRows : List RegRow := [
  ⟨0x000, 1, 4, .ro, 0, 0xF000007F⟩, ⟨0x004, 1, 4, .w1c, 0, 0x1FF⟩, ⟨0x008, 1, 4, .rw, 0, 0x1FF⟩,
  ⟨0x00C, 1, 4, .rw, 0xDEA82328, 0xFFFFFFFF⟩, ⟨0x010, 1, 4, .rw, 0xF0132, 0xFFFFF⟩, ⟨0x014, 1, 4, .ro, 0, 0x73F000F⟩,
  ⟨0x018, 1, 4, .rw, 0, 0x8000FFFF⟩, ⟨0x01C, 1, 4, .ro, 0, 0xFFFF⟩, ⟨0x020, 1, 4, .ro, 0, 3⟩, ⟨0x024, 2, 4, .ro, 0, 0xFFFFFFFF⟩,
  ⟨0x02C, 1, 4, .wo, 0, 0xFFFFFFFF⟩, ⟨0x030, 1, 4, .wo, 0, 0xFFFF⟩, ⟨0x040, 2, 4, .rc, 0, 0xFFFFFFFF⟩,
  ⟨0x100, 2, 0x40, .rw, 1, 1⟩, ⟨0x104, 2, 0x40, .ro, 0, 0xF80000FF⟩, ⟨0x108, 2, 0x40, .w1c, 0, 0x1F⟩, ⟨0x10C, 2, 0x40, .rw, 0, 0x1F⟩,
  ⟨0x110, 2, 0x40, .rw, 1, 1⟩, ⟨0x114, 2, 0x40, .rw, 0xDEA82328, 0xFFFFFFFF⟩, ⟨0x118, 2, 0x40, .rw, 0x27D82580, 0xFFFFFFFF⟩,
  ⟨0x11C, 2, 0x40, .rw, 0x3E8, 0xFFFFF⟩, ⟨0x120, 2, 0x40, .ro, 0, 0xFFFF⟩, ⟨0x124, 2, 0x40, .ro, 0, 0xFFFFFFFF⟩,
  ⟨0x128, 2, 0x40, .rc, 0, 0xFFFFFFFF⟩, ⟨0x12C, 2, 0x40, .rc, 0, 0xFFFFFFFF⟩,
  ⟨0x1000, 8, 0x40, .rw, 0, 3⟩, ⟨0x1004, 8, 0x40, .ro, 0, 0xEFFFF0FF⟩, ⟨0x1008, 8, 0x40, .w1c, 0, 0x7F⟩,
  ⟨0x100C, 8, 0x40, .rw, 0, 0x7F⟩, ⟨0x1010, 8, 0x40, .rwl, 0x35A32, 0xC0FFFFFF⟩, ⟨0x1014, 8, 0x40, .rwl, 0x64, 0xFFFFFF⟩,
  ⟨0x1018, 8, 0x40, .rwl, 0x641414, 0xFFFFFFFF⟩, ⟨0x101C, 8, 0x40, .rwl, 0xA, 0xFFFF⟩, ⟨0x1020, 8, 0x40, .rwl, 0x1388, 0xFFFFF⟩,
  ⟨0x1024, 8, 0x40, .ro, 0, 0xFFFF⟩, ⟨0x1028, 8, 0x40, .ro, 0, 0xFFFFFFFF⟩, ⟨0x102C, 8, 0x40, .ro, 0, 0xFFFFFFFF⟩,
  ⟨0x1030, 8, 0x40, .rc, 0, 0xFFFFFFFF⟩, ⟨0x1034, 8, 0x40, .rc, 0, 0xFFFFFFFF⟩, ⟨0x1038, 8, 0x40, .rc, 0, 0xFFFFFFFF⟩]

/-- One page of the keyed check engine (R547); CPH_PAGE_CTL and CPH_SLOT_OWNs take their reset values from `resetOf`. -/
def cphRows : List RegRow := [
  ⟨0x000, 1, 4, .rw, 0, 1⟩, ⟨0x004, 1, 4, .ro, 0, 0xC00000FF⟩, ⟨0x008, 1, 4, .w1c, 0, 0x3F⟩, ⟨0x00C, 1, 4, .rw, 0, 0x3F⟩,
  ⟨0x010, 1, 4, .ro, 0, 0xFFFFFFFF⟩, ⟨0x014, 1, 4, .wo, 0, 0xF01F1300⟩, ⟨0x018, 1, 4, .ro, 0, 0xFFFFFF⟩,
  ⟨0x020, 8, 4, .wo, 0, 0xFFFFFFFF⟩, ⟨0x040, 5, 4, .rc, 0, 0xFFFFFFFF⟩, ⟨0x100, 32, 0x10, .ro, 0, 0xF000FFFF⟩,
  ⟨0x104, 32, 0x10, .ro, 0, 0xFFFFFFFF⟩, ⟨0x108, 32, 0x10, .ro, 0, 0xFFFFFFFF⟩, ⟨0x400, 64, 4, .wo, 0, 0xFFFFFFFF⟩,
  ⟨0x500, 8, 4, .ro, 0, 0xFFFFFFFF⟩]

def cphOwnRows : List RegRow := [⟨0x800, 32, 4, .rw, 0, 0x8000000F⟩]


/-! ## Fault classes (R497, R498) -/

/-- Fixed class of a fault source: 0 corrected, 1 uncorrected but contained, 2 fatal; none = reserved source (R493, R497). -/
def fixedClass (n : Nat) : Option Nat :=
  if n ≤ 7 then some 1
  else if n = 8 then some 2
  else if n ≤ 10 then some 0
  else if n = 11 then some 2
  else if n ≤ 14 then some 0
  else if n < 32 then none
  else if n ≤ 37 then some 0
  else if n ≤ 39 then some 2
  else if n ≤ 44 then some 0
  else if n ≤ 46 then some 1
  else if n < 64 then none
  else if n ≤ 66 then some 2
  else if n = 67 then some 0
  else if n < 96 then none
  else if n = 96 then some 1
  else if n ≤ 100 then some 0
  else if n < 128 then none
  else if n ≤ 131 then some 1
  else if n < 144 then none
  else if n = 144 then some 2
  else if n = 145 then some 1
  else if n ≤ 149 then some 0
  else if n < 160 then none
  else if n = 160 then some 1
  else if n ≤ 163 then some 0
  else if n = 165 then some 0
  else if n < 176 then none
  else if n = 176 then some 2
  else if n ≤ 181 then some 0
  else if n < 184 then none
  else if n = 184 then some 2
  else if n = 185 then some 0
  else if n = 186 then some 1
  else if n < 192 then none
  else if n = 193 then some 1
  else if n ≤ 220 then some 0
  else if n < 224 then none
  else if n = 224 then some 1
  else if n ≤ 226 then some 0
  else if n < 240 then none
  else if n ≤ 245 then some 0
  else if n = 246 then some 2
  else if n = 247 then none
  else if n ≤ 254 then some 0
  else if n = 255 then some 1
  else none

/-- Locked sources: node-safe in both modes (R498). -/
def locked (n : Nat) : Bool := n == 38 || n == 39 || n == 64 || n == 65 || n == 66 || n == 144

/-- Reset value of FLT_SEVn: LOCKED, FIXED, and the severity of the fixed class (R496, R522). -/
def sevReset (n : Nat) : Nat :=
  match fixedClass n with
  | none => 0
  | some c => (if locked n then 0x80000000 else 0) + c * 0x20000000 + (c + 1)

/-! ## Named offsets -/

abbrev hubStrap := 0x004
abbrev hubCtl := 0x008
abbrev hubStatus := 0x00C
abbrev hubReason := 0x010
abbrev hubRstCause := 0x014
abbrev hubNpin := 0x018
abbrev hubNpend := 0x01C
abbrev hubTxCfg := 0x100
abbrev hubTxCto := 0x104
abbrev hubTxRtt := 0x108
abbrev hubTxTags := 0x10C
abbrev hubApSel := 0x110
abbrev hubPrmCtl := 0x114
abbrev hubErrLog := 0x118
abbrev hubErrAddr := 0x11C
abbrev hubSpiCfg := 0x120
abbrev hubCntCto := 0x140
abbrev hubCntNohost := 0x144
abbrev hubCntBusyIn := 0x148
abbrev hubCntBusyOut := 0x14C
abbrev hubCntUr := 0x150
abbrev hubCntUa := 0x154
abbrev hubCntDenied := 0x158
abbrev hubCntLateCpl := 0x15C
abbrev hubCntPopu := 0x160
abbrev hubCntAckLate := 0x164
abbrev hubCntWrpFail := 0x168
abbrev fltCtl := 0x1000
abbrev fltStatus := 0x1004
abbrev fltFirstSrc := 0x1008
abbrev fltFirstInfo := 0x100C
abbrev fltFirstTimeLo := 0x1010
abbrev fltFirstTimeHi := 0x1014
abbrev fltFirstCnt := 0x1018
abbrev fltLastSrc := 0x101C
abbrev fltInjInfo := 0x1028
def fltActive (k : Nat) : Nat := 0x1040 + 4 * k
def fltSev (n : Nat) : Nat := 0x1400 + 4 * n
def fltCnt (n : Nat) : Nat := 0x1800 + 4 * n
def ringReg (o : Nat) : Nat := 0x30000 + o
abbrev ringCfg := 0x30000
abbrev ringStatus := 0x30004
abbrev ringEvt := 0x30008
abbrev ringSeq := 0x3000C
abbrev ringAudit := 0x30018
def laneReg (l o : Nat) : Nat := 0x38000 + 0x1000 * l + o
def inkReg (o : Nat) : Nat := 0x20000 + o
abbrev inkStatus := 0x20004
abbrev inkReason := 0x20008
abbrev inkCplRsv := 0x2000C
abbrev inkEvt := 0x20024
def qReg (q o : Nat) : Nat := 0x28000 + 0x20 * q + o
abbrev bltCtl := 0x50000
abbrev bltStatus := 0x50004
abbrev bltRefused := 0x50010
abbrev bltMissed := 0x50014
abbrev bltWritten := 0x50018
def monReg (m o : Nat) : Nat := 0x54000 + 0x100 * m + o
def nibReg (n o : Nat) : Nat := 0x100000 + 0x1000 * n + o
def xbPin (p : Nat) : Nat := 0x300000 + 4 * p
def bankCfg (g : Nat) : Nat := 0x300800 + 0x10 * g
def bankStatus (g : Nat) : Nat := 0x300804 + 0x10 * g
def bankEvt (g : Nat) : Nat := 0x300808 + 0x10 * g
def dReg (p o : Nat) : Nat := 0x301000 + 0x20 * p + o
def stkReg (o : Nat) : Nat := 0x6000 + o
abbrev stkCtl := 0x6000
abbrev stkStatus := 0x6004
abbrev stkReason := 0x6008
abbrev stkEvt := 0x600C
def qlReg (q o : Nat) : Nat := 0x200000 + 0x1000 * q + o
def canReg (c o : Nat) : Nat := 0x80000 + 0x1000 * c + o
def tbReg (o : Nat) : Nat := 0x4000 + o
abbrev tbStatus := 0x4004
abbrev tbCtl := 0x4000
abbrev tbReason := 0x4008
abbrev tbEvt := 0x400C
abbrev tbMaster := 0x4024
abbrev tbEpoch := 0x4028
abbrev tbOffset := 0x402C
abbrev tbCtot := 0x4030
abbrev tbPathA := 0x4034
abbrev tbNmask := 0x4038
def tbBase (n o : Nat) : Nat := 0x4100 + 0x40 * n + o

def pbpReg (o : Nat) : Nat := 0x400000 + o
abbrev pbpCtl := 0x400000
abbrev pbpStatus := 0x400004
abbrev pbpEvtR := 0x400008
abbrev pbpCfg := 0x400010
def winO (w o : Nat) : Nat := 0x401000 + 0x20 * w + o
def winI (i o : Nat) : Nat := 0x401200 + 0x20 * i + o
def bootReg (o : Nat) : Nat := 0x8000 + o
abbrev bootStatus := 0x8000
abbrev bootEvtR := 0x8004
abbrev bootSlots := 0x800C
abbrev nvmStatus := 0x8100
def kcReg (m o : Nat) : Nat := 0x10000 + 0x1000 * m + o
def kcStat (m : Nat) : Nat := kcReg m 0x008
def pwrReg (o : Nat) : Nat := 0x40000 + o
abbrev pwrStatus := 0x40000
abbrev pwrEvtR := 0x40004
def feedReg (x o : Nat) : Nat := 0x40100 + 0x40 * x + o
def slotReg' (n o : Nat) : Nat := 0x41000 + 0x40 * n + o
def cphReg (p o : Nat) : Nat := 0x60000 + 0x1000 * p + o
def cphOwn (k : Nat) : Nat := 0x60800 + 4 * k
abbrev roleCfg := 0x800
abbrev roleReason := 0x804
abbrev roleEvtR := 0x808
abbrev roleNmask := 0x80C

/-! ## The map (R35) -/

/-- The register row that node-local offset `k` falls in, or none at a reserved offset (R20). -/
def regRow (k : Nat) : Option RegRow :=
  if k % 4 ≠ 0 then none
  else if k < 0x1000 then findRow hubRows k
  else if k < 0x4000 then findRow fltRows (k - 0x1000)
  else if k < 0x6000 then findRow tbRows (k - 0x4000)
  else if k < 0x8000 then findRow stkRows (k - 0x6000)
  else if k < 0x9000 then findRow bootRows (k - 0x8000)
  else if k < 0x10000 then none
  else if k < 0x20000 then findRow kcRows (k % 0x1000)
  else if k < 0x28000 then findRow inkRows (k - 0x20000)
  else if k < 0x30000 then findRow queueRows ((k - 0x28000) % 0x20)
  else if k < 0x38000 then findRow ringRows (k - 0x30000)
  else if k < 0x3A000 then findRow laneRows ((k - 0x38000) % 0x1000)
  else if k < 0x40000 then none
  else if k < 0x50000 then findRow pwrRows (k - 0x40000)
  else if k < 0x54000 then findRow bltRows (k - 0x50000)
  else if k < 0x55000 then findRow monRows ((k - 0x54000) % 0x100)
  else if k < 0x60000 then none
  else if k < 0x70000 then (findRow cphRows (k % 0x1000)).or (if k < 0x61000 then findRow cphOwnRows (k - 0x60000) else none)
  else if k < 0x80000 then none
  else if k < 0x90000 then findRow canRows ((k - 0x80000) % 0x1000)
  else if k < 0x100000 then none
  else if k < 0x200000 then findRow nibRows ((k - 0x100000) % 0x1000)
  else if k < 0x240000 then findRow qlRows ((k - 0x200000) % 0x1000)
  else if k < 0x300000 then none
  else if k < 0x308000 then findRow xbRows (k - 0x300000)
  else if k < 0x400000 then none
  else if k < 0x402000 then findRow pbpRows (k - 0x400000)
  else none

/-- Reset value of the register at `k`. -/
def resetOf (k : Nat) : Word :=
  if 0x1400 ≤ k && k < 0x1800 then w32 (sevReset ((k - 0x1400) / 4))
  else if k = 0x60000 then 1
  else if k = 0x60800 || k = 0x60804 then 0x80000000
  else match regRow k with
    | some r => w32 r.rst
    | none => 0

end Sys2Proof.Machine
end

