-- ==== Sys2Proof/Machine/State.lean ====
section
/-! DEFINITION. The state of the block as plain data: one sparse register file for every register of the node-local map,
and for each unit the state the spec gives it that is no register; the queue of waiting commands. -/
namespace Sys2Proof.Machine
open Sys2Proof

/-! ## Shared pieces -/

/-- One count per class C0–C3 (R91). -/
structure Quad where
  c0 : Nat := 0
  c1 : Nat := 0
  c2 : Nat := 0
  c3 : Nat := 0
  deriving DecidableEq, Repr

/-- A reaction the fault collector or the notice path has ordered and that is carried out at the end of the
command (R495: within 40 ns; R45). -/
inductive Post where
  /-- A notice to create: group, event, unit, information word, TB0 of the event (R45). -/
  | notice (g ev unit : Nat) (info : Word) (tb : DWord)
  /-- A contain raise of source `src`, injected or not (R504): quarantine the unit its information word names (R499). -/
  | quar (src : Nat) (info : Word) (inj : Bool)
  /-- A node-safe raise: put every block in node safe state (R502). -/
  | safe
  /-- A notice of group 0 to the notice queue of session `n`, which no route governs (R460). -/
  | session (n ev : Nat) (info : Word) (tb : DWord)
  deriving DecidableEq, Repr

/-! ## Hub, chapter 1 -/

/-- Hub state that is no register of the map. -/
structure HubSt where
  /-- Straps at the pins (R38, R588): NODE_ID, BOOT_MODE, TEST_MODE. -/
  pinNode  : Nat
  pinBoot  : Nat
  pinTest  : Bool
  /-- The 64-bit device number (R106, R458). -/
  devNum   : DWord
  /-- LPOR is held; RST_N is held low (R32). -/
  lporHeld : Bool
  rstHeld  : Bool
  /-- Companion-side writes not yet acknowledged, oldest first (R22): who asked, the access. -/
  d2dWait  : List (Origin × Access)
  /-- Notices coalesced since the last coalesce notice, by session (R47). -/
  coal     : Tbl Nat
  /-- NOTICE_N is driven low (R48). -/
  noticePin : Bool
  /-- MSI-X vectors sent, oldest first (R48, R49); vectors whose pending bit is set; the words of the MSI-X table (R48). -/
  msix     : List Nat
  msixPend : List Nat
  msixTab  : Tbl Word
  /-- CANCLK as measured, in MHz; 0 = absent or out of tolerance (R349, R350). -/
  canClk   : Nat
  /-- The two level wires from the companion (R21). -/
  feedLow  : Bool
  cprst    : Bool
  /-- The local interconnect has met an uncorrectable error: the next access completes POISON (FS7). -/
  icBad    : Bool
  /-- FS13 has been raised and the die has not cooled by 5 °C since (R608). -/
  tjHot    : Bool
  /-- Time in ns since the state began, advanced with the bases; the model's own measure of real time. -/
  now      : Nat
  deriving DecidableEq, Repr

/-! ## Lanes, chapter 2 -/

/-- The test pattern units of a lane (R72, R73): the generator's last bits and the bits it sent, oldest first; the checker's
predicted bits, how many it has taken since it reseeded, its run of matches, and the last 256 comparisons under lock, newest
first (true: a mismatch). -/
structure PrbsSt where
  gen   : Nat := 0
  sent  : List Bool := []
  chk   : Nat := 0
  taken : Nat := 0
  run   : Nat := 0
  win   : List Bool := []
  deriving DecidableEq, Repr

/-- Lane state that is no register of the map (R53–R73). -/
structure LaneSt where
  /-- STAGE this lane sends: 0 OFFER, 1 ACK, 2 UP (R58). -/
  stage    : Nat := 0
  /-- Consecutive partner commas with one VER, and that VER (R63). -/
  verRun   : Nat := 0
  lastVer  : Nat := 0
  /-- Partner ACKs received, consecutive partner UPs received while sending UP (R63). -/
  ackRun   : Nat := 0
  upRun    : Nat := 0
  /-- Consecutive commas with the correct SIDE within a miswire episode (R62). -/
  sideRun  : Nat := 0
  /-- The rate switch waits for the next own superframe boundary (R63, state 4). -/
  ratePend : Bool := false
  /-- The agreed version V (R63); LANE_STATUS.VER shows it from the end of NEGOTIATE on (R77). -/
  agreed   : Nat := 0
  /-- A comma with STAGE = ACK has been sent since training began (R64). -/
  ackSent  : Bool := false
  /-- Transmit equaliser in effect (R68, R79). -/
  txeq     : Word := 0x000A0602#32
  /-- The five DFE taps in mV, the first of which LANE_RXEQ shows (R68, R80). -/
  dfe      : List Int := [0, 0, 0, 0, 0]
  /-- The last comma type byte sent (R58, R60). -/
  sentComma : Nat := 0
  /-- Scrambler and descrambler state (R55). -/
  txScr    : Nat := 0
  rxScr    : Nat := 0
  /-- Blocks that commands have put on the line, as they stand there, oldest first (R50). -/
  line     : List Block := []
  /-- The block boundary in bits, and the valid headers in a row at it (R56). -/
  slip     : Nat := 0
  hdrRun   : Nat := 0
  /-- Blocks of the present window of 64 under block lock, and the invalid headers among them (R57). -/
  winN     : Nat := 0
  winBad   : Nat := 0
  /-- Blocks since the last comma position (none: no comma to count from), and the commas missing in a row (R61). -/
  pos      : Option Nat := none
  missRun  : Nat := 0
  /-- The elastic buffer, the block read next first (R69). -/
  elastic  : List Block := []
  /-- PRBS bits compared, high word; its captured copy is LANE_PRBS_BITS_HI (R73). -/
  prbsHi   : Word := 0
  prbs     : PrbsSt := {}
  deriving DecidableEq, Repr

/-! ## Ring MAC, chapter 3 -/

/-- A frame being received: the identity under which a forwarded copy is known, its header, and what R103 decided. -/
structure RxFrame where
  id      : Nat
  hdr     : Frame
  deliver : Bool
  forward : Bool
  strip   : Bool
  /-- Discarded at its header, counted already (R89). -/
  dead    : Bool := false
  /-- TB0 at its start block (R406). -/
  tb      : DWord := 0
  deriving DecidableEq, Repr

/-- A frame waiting to leave on a lane. `src` is the lane it came in on for a pass-through frame (none for a local
one), `open_` says that its end has not arrived yet (cut-through, R103). -/
structure OutFrame where
  id    : Nat
  f     : Frame
  from_ : Option Nat
  open_ : Bool
  /-- A pass-through frame whose credits belong to the present link-up of the lane it came in on (R66, R91). -/
  owes  : Bool := true
  deriving DecidableEq, Repr

/-- A good C2 or C3 frame for this node that waits in its receive pool for room in the completion-out buffer (R102): its ring, TB0
at its start block; `owes` as in OutFrame. -/
structure SinkWait where
  ring  : Nat
  f     : Frame
  tb    : DWord
  owes  : Bool := true
  deriving DecidableEq, Repr

/-- One link end of the ring MAC: what leaves and what arrives on one lane (R91–R96). -/
structure LinkSt where
  rx       : Option RxFrame := none
  pass     : List OutFrame := []
  loc      : List OutFrame := []
  /-- Sending side: granted total (mod 2^16) of the last credit update received, charged total, units received
  through updates (mod 2^32), credited frames sent (mod 2^32). -/
  granted  : Quad := {}
  charged  : Quad := {}
  unitsIn  : Quad := {}
  framesTx : Quad := {}
  /-- Receiving side: units granted in all, units reported by updates sent, credited frames received. -/
  given    : Quad := {}
  told     : Quad := {}
  framesRx : Quad := {}
  /-- Audit: own number, last partner number, frames received at its arrival, the last two latches. -/
  auditNo  : Nat := 0
  partner  : Nat := 0
  echoR    : Quad := {}
  latches  : List (Nat × Quad) := []
  /-- A credit update waits to be sent (R94 rule 1). -/
  updDue   : Bool := false
  /-- C3 share counter and pass-through runs per class (R94, R95). -/
  sh       : Nat := 0
  run      : Quad := {}
  /-- Frames put on the wire, oldest first. -/
  wire     : List OutFrame := []
  deriving DecidableEq, Repr

/-- A duplicate-filter window entry: highest SEQ accepted, and the seen map, bit i for SEQ h − i (R98). -/
structure Win where
  h    : Nat
  seen : Nat
  deriving DecidableEq, Repr

/-- Ring MAC state that is no register of the map. -/
structure RingSt where
  links   : Tbl LinkSt := []
  wins    : Tbl (Option Win) := []
  /-- Sources whose frames are discarded after FS45 (R114). -/
  discard : List Nat := []
  nextId  : Nat := 0
  /-- Isolation entered (R108). -/
  isolated : Bool := false
  /-- MSG items refused: SRC, TAG, and the 8-byte units their further frames still bring, bit i for unit i (R100). -/
  refused : List (Nat × Nat × Nat) := []
  /-- Frames for this node that wait for room in the completion-out buffer, oldest first (R102). -/
  sinks   : List SinkWait := []
  deriving DecidableEq, Repr

/-! ## Transactions, chapter 4 -/

/-- What a tag is doing (R130, R136). -/
inductive TagUse where
  | free
  | out
  | quarantine
  deriving DecidableEq, Repr

/-- One of the 1024 tags (R130). -/
structure Tag where
  use    : TagUse := .free
  /-- 0 RD, 1 WR_N, 2 MSG. -/
  kind   : Nat := 0
  dest   : Nat := 0
  org    : Origin := .spi
  acc    : Access := ⟨.rd, 0, 0, []⟩
  /-- A MSG item's source queue, destination queue and SINGLE flag at its first offer (R177). -/
  queue  : Nat := 0
  dq     : Nat := 0
  single : Bool := false
  cells  : Nat := 0
  /-- BUSY retries made (R142); the retry is waiting. -/
  tries  : Nat := 0
  waiting : Bool := false
  /-- Copies sent and copies returned (R138). -/
  copies : Nat := 0
  back   : Nat := 0
  /-- A MSG item offered again after a completion timeout (R101). -/
  resent : Bool := false
  /-- The SPI master has abandoned this read: its outcome goes to nobody (R157). -/
  gone   : Bool := false
  deriving DecidableEq, Repr

/-- What a commit-on-delivery read holds pending (R145). -/
inductive Commit where
  /-- An RC count of register `off`. -/
  | count (off v : Nat)
  /-- A fragment of `n` bytes of the head item of queue `q`. -/
  | frag (q n : Nat)
  /-- The head RX word of quill `q` (R296). -/
  | quillRx (q : Nat)
  /-- The oldest high-priority record of CAN controller `c` (R338). -/
  | canHp (c : Nat)
  deriving DecidableEq, Repr

/-- A pending commit-on-delivery read: who read, and every value it read. -/
structure Pend where
  org  : Origin
  what : List Commit
  deriving DecidableEq, Repr

/-- A request being served at this node, or waiting to be retried there: the BUSY retries made, and that it waits for the next
(R133, R142). -/
structure OwnReq where
  org   : Origin
  acc   : Access
  tries : Nat := 0
  waits : Bool := false
  deriving DecidableEq, Repr

/-- A request of the own node waiting for a tag or completion cells (R132). -/
structure WaitReq where
  org  : Origin
  node : Nat
  acc  : Access
  deriving DecidableEq, Repr

/-- One fabric access of a PCIe request: the target, the access, its outcome once known. -/
structure PcieAcc where
  node : Nat
  acc  : Access
  res  : Option (Status × List Byte) := none
  /-- The tag its ACK will name, when it read a commit-on-delivery register of another node (R146, R154). -/
  ack  : Option Nat := none
  /-- Its completion has been sent to the host. -/
  sent : Bool := false
  deriving DecidableEq, Repr

/-- A PCIe memory request being answered (R153, R154). -/
structure PcieReq where
  id    : Nat
  read  : Bool
  accs  : List PcieAcc
  ended : Bool := false
  deriving DecidableEq, Repr

/-- What the endpoint sends to the host: a completion with data (EP set or not), or an error completion. -/
inductive PcieCpl where
  | data (req idx : Nat) (ep : Bool) (bytes : List Byte)
  | ur (req : Nat)
  | ca (req : Nat)
  deriving DecidableEq, Repr

/-- SPI management target (R155–R157). -/
structure SpiSt where
  /-- Writes not finished, oldest first, each with its accesses still to issue; an access of the oldest is outstanding. -/
  writes  : List (List (Nat × Access)) := []
  busy    : Bool := false
  /-- Outcome of the last write, frame errors (R156). -/
  first   : Status := .ok
  badCrc  : Bool := false
  partial_ : Bool := false
  /-- A read frame is open; the bytes the master sent in it, for its CRC-8 (R157); its access's outcome, once it is there. -/
  readOpen : Bool := false
  hdr     : List Byte := []
  res     : Option (Status × List Byte) := none
  /-- Cells that hold this outcome's data from another node until the frame ends (R169). -/
  cells   : Nat := 0
  /-- Reads abandoned whose outcome is still to come from the bridge (R157). -/
  stale   : Nat := 0
  /-- Bytes the target shifted out in its last frame that returned any. -/
  out     : List Byte := []
  deriving DecidableEq, Repr

/-- Transaction state that is no register of the map. -/
structure TxSt where
  tags    : Tbl Tag := []
  pend    : List Pend := []
  /-- Reads held behind a pending value of a register (R147). -/
  held    : List (Origin × Access) := []
  /-- Requests being served here that have a completion to come, and requests that wait behind an earlier one of their requester's
  hub, in the order of their arrival (R133). -/
  own     : List OwnReq := []
  order   : List (Origin × Access) := []
  /-- Items that have ended while copies of their frames still wait: frames, and cells held for them (R97). -/
  linger  : List (List Nat × Nat) := []
  /-- Entries of the non-posted sink in use, by SRC and TAG (R140). -/
  sink    : List (Nat × Nat) := []
  wait    : List WaitReq := []
  pcie    : List PcieReq := []
  pcieOut : List PcieCpl := []
  nextReq : Nat := 0
  spi     : SpiSt := {}
  /-- Completions delivered to pairs K and M, oldest first. -/
  core    : List (Origin × Status × List Byte) := []
  deriving DecidableEq, Repr

/-! ## Inkwell, chapter 5 -/

/-- An item (R164): its bytes, user word, flags, read position; `bad` lists its cells whose data holds an uncorrectable error, each by
its place in the item and its cell index (R165, R186); `ref`: a refused move already counted, `met`: the error met by the unit that
consumes the queue, which does not try again (R177). -/
structure Item where
  bytes   : List Byte
  user    : Word := 0
  trunc   : Bool := false
  tailcut : Bool := false
  pos     : Nat := 0
  bad     : List (Nat × Nat) := []
  ref     : Bool := false
  met     : Bool := false
  deriving DecidableEq, Repr

/-- An incoming MSG item (R100, R170): `got` has bit i set when the 8-byte unit i has been written. -/
structure InMsg where
  src  : Nat
  tag  : Nat
  len  : Nat
  user : Word
  buf  : List Byte
  got  : Nat
  deriving DecidableEq, Repr

/-- A held pop (R178). -/
structure HeldPop where
  org   : Origin
  addr  : Nat
  count : Nat
  deriving DecidableEq, Repr

/-- One of the 1024 queues: closed items in closing order, the item pushes build, the item another producer builds,
incoming MSG items, the pending fragment's length, held pops, tail timer fired. -/
structure Queue where
  items : List Item := []
  push  : Option Item := none
  prod  : Option Item := none
  inc   : List InMsg := []
  pend  : Option Nat := none
  held  : List HeldPop := []
  fired : Bool := false
  deriving DecidableEq, Repr

/-- Inkwell state that is no register of the map: the queues, the active copy of the staged registers (R171), and
the hardware cell counts (R163, R184). -/
structure InkSt where
  queues   : Tbl Queue := []
  active   : Tbl Word := []
  free     : Nat := 32768
  queued   : Nat := 0
  inflight : Nat := 0
  cplUsed  : Nat := 0
  deriving DecidableEq, Repr

/-! ## Blotter and monitors, chapter 14 -/

/-- A blotter record (R505), its fields before the CRC; `bad` marks an uncorrectable memory error (R506). -/
structure BltRec where
  typ    : Nat
  source : Nat
  secs   : Nat
  flags  : Nat
  hours  : Nat
  seq    : Nat
  pcyc   : Nat
  node   : Nat
  tb0    : Word
  w4     : Word
  w5     : Word
  w6     : Word
  bad    : Bool := false
  deriving DecidableEq, Repr

/-- Blotter and fault-collector state that is no register of the map. -/
structure FltSt where
  recs  : List BltRec := []
  /-- Operating hours, seconds within the hour, power cycles, as pair M last set them (R511). -/
  hours : Nat := 0
  secs  : Nat := 0
  pcyc  : Nat := 0
  /-- The raise under way is injected (R504). -/
  inj   : Bool := false
  /-- Units in quarantine: KIND and index (R499). -/
  quar  : List (Nat × Nat) := []
  deriving DecidableEq, Repr

/-- Settings a monitor slot took at its last ARM (R516). -/
structure MonSt where
  cfg   : Word := 0
  per   : Word := 0
  ofs   : Word := 0
  width : Word := 1#32
  lim   : Word := 0
  /-- `hub.now` at ARM; the period in which the last sample was taken (R514). -/
  start : Nat := 0
  last  : Option Nat := none
  deriving DecidableEq, Repr

/-! ## Pins, nibs, stroke, quills (chapters 6–8) -/

/-- A general I/O pin: the filtered level F (R247), what its owner drives, and the detectors' windows (R250–R252). -/
structure PinSt where
  f      : Bool := false
  oe     : Bool := false
  out    : Bool := false
  /-- When F became active, in the block's own time (R253). -/
  since  : Nat := 0
  /-- Chatter window: transitions, a short pulse. -/
  trans  : Nat := 0
  short  : Bool := false
  /-- Limiter window: events that made notices, events suppressed. -/
  evts   : Nat := 0
  supp   : Nat := 0
  deriving DecidableEq, Repr

/-- What waits in a nib's RX FIFO: a byte of the open item, what its first bytes are at its end (the header of an I2C item, R226), or
the close of the item with its user word and TRUNC. -/
inductive RxEnt where
  | byte (b : Byte)
  | hdr (d : List Byte)
  | close (user : Word) (trunc : Bool)
  deriving DecidableEq, Repr

/-- What a nib put on its pins, oldest first; levels are those at the pin. `brk`: a break of so many character times and one of mark
(R216). `halves`: TXD of a UART in each half bit time (R213). `bits`: TXD of the synchronous mode, or MISO of the SPI target, in each
bit. `abort`: eight 1s (R220). `csFall`, `csRise`: CS_N with its CSGAP, CSSU and CSHD; `wave`: SCK and MOSI in each half-period
(R221). `start`, `wr`, `acks`, `stop`, `pause`, `recovery`: an I2C START with its address bytes, bytes written, the nib's own
acknowledge bits (true = ACK), a STOP, SCL held low, the bus recovery (R225–R228). `pulse`: S2 goes high (R229). -/
inductive NibOut where
  | brk (chars : Nat)
  | halves (l : List Bool)
  | bits (l : List Bool)
  | abort
  | csFall (gap su : Nat)
  | wave (l : List (Bool × Bool))
  | csRise (hd : Nat)
  | start (addr : List Byte)
  | wr (d : List Byte)
  | acks (l : List Bool)
  | stop
  | pause (tens : Nat)
  | recovery
  | pulse
  deriving DecidableEq, Repr

/-- Nib state that is no register of the map. -/
structure NibSt where
  /-- The head item of Q(2n) is under way. -/
  tx      : Bool := false
  /-- The head item was at the head at the last cutoff (R265). -/
  chosen  : Bool := false
  fifo    : List RxEnt := []
  /-- Start-event time tag of the open RX item (R207), taken with its first byte. -/
  tag     : Option Nat := none
  /-- Bytes of the open item already placed in the queue or the FIFO. -/
  rxLen   : Nat := 0
  /-- Under DISCARD: the rest of the item is discarded (R183). -/
  disc    : Bool := false
  /-- A skid byte was lost from the item whose bytes are in the FIFO (R209). -/
  lost    : Bool := false
  /-- UART: DE is active; a break has been taken and RXD has not been at mark since (R215). -/
  de      : Bool := false
  waitMark : Bool := false
  /-- Synchronous: the level of the last bit at TXD, before slot inversion (R218). -/
  lvl     : Bool := true
  /-- Bytes of the SPI transaction's item, or of the I2C command, that have been shifted. -/
  prog    : Nat := 0
  /-- I2C controller: command position, START sent, the RX item's header has been placed and stands in the open item still. -/
  cmdPos  : Nat := 0
  i2cOn   : Bool := false
  hdr     : Option Bool := none
  /-- I2C target: a transfer is running, it is a read, it is a general call, a byte was NACKed. -/
  tgt     : Bool := false
  tgtRead : Bool := false
  tgtGc   : Bool := false
  nacked  : Bool := false
  /-- SPI: CS_N is low. -/
  csLow   : Bool := false
  /-- SPI and I2C target: the transaction began with TXHOLD = 0 (R205). -/
  feed    : Bool := false
  /-- Counter: last S0 and S1 levels, period and duty in effect, the one-shot runs,
  edges of the frequency window. -/
  lastA   : Bool := false
  lastB   : Bool := false
  period  : Word := 0
  duty    : Word := 0
  shot    : Bool := false
  edges   : Nat := 0
  /-- PWM: when S2 goes low, in the block's own time. -/
  fall    : Option Nat := none
  out     : List NibOut := []
  deriving DecidableEq, Repr

/-- Stroke unit state that is no register of the map (R259–R270). -/
structure StkSt where
  /-- T of the last instant acted on. -/
  last      : Option Nat := none
  /-- Committed and armed output sets: 16 words (R264). -/
  committed : Option (List Word) := none
  armed     : Option (List Word) := none
  /-- The set the staged pins follow: the armed set of the last instant acted on (R264). -/
  applied   : Option (List Word) := none
  /-- The cutoff of the next instant has passed. -/
  cut       : Bool := false
  /-- Pending announcement: EFF, PERIOD, PHASE, STOP (R270). -/
  pend      : Option (Nat × Nat × Nat × Bool) := none
  /-- Channels whose previous record was dropped (R268). -/
  gap       : List Nat := []
  deriving DecidableEq, Repr

/-- A word in a quill's RX FIFO (R296, R299): its value, BITS, the time tag of its STORE, and whether the bound item closes
after it. -/
structure QlRx where
  w     : Word
  bits  : Nat
  tag   : Nat
  close : Bool
  deriving DecidableEq, Repr

/-- What the window pins of a quill showed for some PORT clocks: output enables and levels before inversion, bit k for pin k (R290,
R291). -/
structure QlSeg where
  oe     : Nat
  lvl    : Nat
  clocks : Nat
  deriving DecidableEq, Repr

/-- Quill state that is no register of the map (R284–R309); step, FILL, counts and latches are fields of QL_STATUS, the
shifter and the tally are QL_SHIFT and QL_TALLY. -/
structure QuillSt where
  txf    : List Word := []
  rxf    : List QlRx := []
  /-- Bit slots of the current shift step already done, its strobe level at the start, an auto-store still to do. -/
  slot   : Nat := 0
  strobe0 : Bool := false
  storePend : Bool := false
  /-- RUN was 0 or the node was in safe state: the quill waits for its restart (R309). -/
  idle   : Bool := false
  /-- Outputs of the 16 window pins: output enables and levels, bit k for pin k. -/
  oe     : Nat := 0
  lvl    : Nat := 0
  /-- What the window pins showed while steps ran, oldest first. -/
  wave   : List QlSeg := []
  /-- Words of the items of TXQ, from the head, already fetched; words of the head item loaded into the shifter (R298). -/
  fetched : Nat := 0
  loaded : Nat := 0
  /-- Time tag of the open bound RX item (R299), and that a word of the item has been lost and counted (R183). -/
  rxTag  : Nat := 0
  lost   : Bool := false
  deriving DecidableEq, Repr

/-! ## Time (chapter 11) -/

/-- A time base: its value in ns, the fraction, and the captured high word (R400–R402). -/
structure BaseSt where
  ns   : DWord := 0
  frac : Word := 0
  hi   : Word := 0
  stepLo : Word := 0
  deriving DecidableEq, Repr

/-- A SYNC copy waiting for its pair (R413), or an own copy at the master (R412): when it came, in the block's own time; X or the total,
in 2^-16 ns. -/
structure SyncCopy where
  no    : Nat
  since : Nat
  ring  : Nat
  x     : Int
  hop   : Nat
  ctot  : Nat
  fresh : Bool
  deriving DecidableEq, Repr

/-- Time unit state that is no register of the map (chapter 11). Offsets and the path are kept exactly, in 2^-17 ns. -/
structure TimeSt where
  bases  : Tbl BaseSt := []
  /-- Steps of TB0: when, in the block's own time, and by how much (R403). -/
  steps  : List (Nat × DWord) := []
  /-- A master has been adopted (R411). -/
  adopted : Bool := false
  /-- TB_PATH_A, while measured for the adopted master (R413). -/
  path   : Option Int := none
  /-- MAXSTEP of the one step armed (R418). -/
  restep : Option Nat := none
  /-- Consecutive used offsets within the threshold, above it, outliers, updates at the limit (R414–R416). -/
  good   : Nat := 0
  bad    : Nat := 0
  outl   : Nat := 0
  atMax  : Nat := 0
  pend   : List SyncCopy := []
  /-- Master: own copies that came back, SYNCs since the last measurement, the next SYNCNO, ASYM (R408, R412). -/
  own    : List SyncCopy := []
  since  : Nat := 100
  syncNo : Nat := 0
  /-- When the last SYNC was sent as this master, and the last rate update applied, in the block's own time (R409, R414). -/
  syncAt : Option Nat := none
  rateAt : Nat := 0
  asym   : Bool := false
  deriving DecidableEq, Repr

/-- A frame in a CAN record or submission (R328): words 0 and 1, the USER word, the data bytes. -/
structure CanFrame where
  w0   : Word := 0
  w1   : Word := 0
  user : Word := 0
  data : List Byte := []
  deriving DecidableEq, Repr

/-- What a controller has on the bus: a TX object's frame, or a fall-back slot's (R333, R346). -/
inductive CanBus where
  | obj (i : Nat)
  | slot (n : Nat)
  deriving DecidableEq, Repr

/-- What a controller drives on CAN_TXD (R321, R322, R325). -/
inductive CanOut where
  /-- A frame: its bits as far as they were sent, recessive true; the point at which each bit of its data phase is checked, in CAN
  clock periods from the bit's start (R324). -/
  | frame (f : CanFrame) (bits : List Bool) (check : Nat)
  /-- A dominant acknowledgement bit. -/
  | ack
  /-- An error flag, active or passive, and its delimiter. -/
  | error (active : Bool)
  /-- The answer to an overload frame. -/
  | overload
  deriving DecidableEq, Repr

/-- CAN controller state that is no register of the map; object states are CAN_OBJi_STAT. -/
structure CanSt where
  /-- Frames loaded into TX objects. -/
  objs   : Tbl CanFrame := []
  /-- Held objects found loaded at the last cutoff (R335). -/
  chosen : List Nat := []
  /-- Receive staging area: user word and record, oldest first (R337). -/
  stage  : List (Word × List Byte) := []
  /-- High-priority buffer: records, oldest first (R338). -/
  hp     : List (List Byte) := []
  bus    : Option CanBus := none
  /-- TB0 at the start of the frame on the bus. -/
  sof    : DWord := 0
  /-- Restricted by node safe state; the restriction waits for the end of the frame under way (R327). -/
  safeR  : Bool := false
  safeW  : Bool := false
  /-- Fall-back slots whose start has come and whose frame waits, with `hub.now` at the start, in the order of service (R346). -/
  slots  : List (Nat × Nat) := []
  /-- A kick has come since the last expiry (R347). -/
  kicked : Bool := false
  /-- `hub.now` when the watchdog last started or was kicked (R345). -/
  wdogAt : Nat := 0
  /-- The level of CAN_TXD, high for recessive; during a frame of its own, that of the start-of-frame bit (R322). -/
  txd    : Bool := true
  /-- What was driven on CAN_TXD, oldest first. -/
  line   : List CanOut := []
  deriving DecidableEq, Repr

/-! ## Backplane bridge (chapter 10) -/

/-- An outbound request at the bridge (R371–R376): who asked, its access, its window (none: the IACK area), posted, the
cycles done, the bytes fetched, the 10 ms limit passed (R374), a prefetching read answered already (R375). -/
structure OutReq where
  org    : Origin
  acc    : Access
  win    : Option Nat
  posted : Bool := false
  done   : Nat := 0
  got    : List Byte := []
  late   : Bool := false
  told   : Bool := false
  deriving DecidableEq, Repr

/-- A prefetch buffer (R375): block start as window offset and as backplane address, bytes, bit set of the bytes returned. -/
structure PfBuf where
  off   : Nat
  addr  : Nat
  bytes : List Byte
  ret   : Nat
  deriving DecidableEq, Repr

/-- A held inbound cycle (R377, R378): window, target, access; `issued` once its request is out. -/
structure HeldIn where
  win    : Nat
  node   : Nat
  acc    : Access
  issued : Bool
  deriving DecidableEq, Repr

/-- What the hub does on the backplane, oldest first. -/
inductive PbpBus where
  /-- A cycle the hub runs: interrupt acknowledge, write, address, AM code, bytes, data lanes of a write; PORT clocks for which an
  OE_N stays high before and after a direction change, 0 without one (R363); the lengths of its phases in PORT clocks (R366, R367). -/
  | cycle (iack write : Bool) (addr am width : Nat) (lanes : Word) (turn : Nat) (phases : List Nat)
  /-- The end of an inbound cycle: 0 acknowledge, 1 error, 2 retry; data lanes of a read. -/
  | ended (how : Nat) (lanes : Word)
  deriving DecidableEq, Repr

/-- Bridge state that is no register of the map. -/
structure PbpSt where
  todo   : List OutReq := []
  held   : Option HeldIn := none
  /-- The one inbound request outstanding (R377): window, and whether it reads. -/
  out    : Option (Nat × Bool) := none
  result : Option (Nat × Status × List Byte) := none
  pf     : Tbl (Option PfBuf) := []
  /-- Inbound posted writes in their queues, in order: window, target node, access (R378). -/
  posts  : List (Nat × Nat × Access) := []
  bus    : List PbpBus := []
  /-- WGEN of the next WIRE frame, levels last sent; WGEN last accepted (R382–R384). -/
  wgen   : Nat := 0
  wsent  : Nat := 0
  rxGen  : Option Nat := none
  deriving DecidableEq, Repr

/-! ## Kilco mailboxes (chapter 12) -/

/-- The stepped commands (R457), and the migration of a store (R597). -/
inductive JobKind where
  | cfgSave
  | cfgRestore (prev : Bool)
  | fwVerify (slot gen : Nat)
  | fwActivate (slot : Nat)
  | lanePrbs (l : Nat)
  | roleSwap (role : Nat)
  | migrate
  deriving DecidableEq, Repr

/-- A job (R446, R448): STATE 1 RUNNING, 2 LOW_SUPPLY, 3 DONE, 4 CANCELLED. `fixed` says that it cannot be cancelled any
more (R449). -/
structure Job where
  slot   : Nat
  handle : Word
  kind   : JobKind
  note   : Bool
  state  : Nat := 1
  steps  : Nat := 0
  status : Nat := 0
  reason : Nat := 0
  result : List Word := []
  fixed  : Bool := false
  /-- When it began, and once it has ended, when it ended, in the block's own time. -/
  since  : Nat := 0
  deriving DecidableEq, Repr

/-- A mailbox (R430–R436): request area, reply, packet rung and not answered, packet last executed, who rang, jobs, the
time in ns at which the idle time ends. -/
structure Mbox where
  req    : Tbl Byte := []
  rpl    : List Byte := []
  pkt    : Option (List Byte) := none
  copy   : Option (List Byte) := none
  ringer : Word := 0
  jobs   : List Job := []
  due    : Nat := 0
  /-- Job slot of the last step run (R447). -/
  last   : Nat := 3
  deriving DecidableEq, Repr

/-- Kilco state that is no register of the map: the mailboxes, the job count of R446, jobs without a session. -/
structure KcSt where
  boxes : Tbl Mbox := []
  count : Nat := 0
  loose : List Job := []
  /-- The session that had the last turn with work in it (R447). -/
  turn  : Nat := 15
  deriving DecidableEq, Repr

/-! ## Roles and leases (chapter 13) -/

/-- A request the witness holds for its host's decision (R469). -/
structure HostReq where
  node  : Nat
  /-- When it came, in the block's own time. -/
  since : Nat
  deriving DecidableEq, Repr

/-- One role at this node (R464–R475), beside HUB_RM_ and HUB_TM_: at the witness the epoch granted and the last heartbeat
heard; at a standby the silence; at the active holder its authority, its appointment and its handover. -/
structure RoleSt where
  granted : Bool := false
  wEpoch  : Nat := 0
  /-- A heartbeat of the witness's epoch has been heard, and what the last one said. -/
  heard   : Bool := false
  hbStby  : Nat := 0
  hbSync  : Bool := false
  hbHand  : Bool := false
  /-- When the witness last heard a heartbeat of its current epoch, or granted it; when this node last accepted a heartbeat; when it was
  last refused: in the block's own time (R468, R469). -/
  witAt   : Nat := 0
  hbAt    : Nat := 0
  refAt   : Option Nat := none
  host    : Option HostReq := none
  /-- A TAKE_REQ is out: its SWAP bit (R468). -/
  asked   : Option Bool := none
  /-- Active: TB0 at send of the newest heartbeat acknowledged, before the first at the grant (R467); TB0 at which the standby place fell vacant; the witness has
  acknowledged a later heartbeat (R473). -/
  authTb  : DWord := 0
  vacTb   : DWord := 0
  witAck  : Bool := false
  /-- The standby place: the node appointed, segments sent and acknowledged, nodes passed over (R466). -/
  stby    : Nat := 0
  synced  : Bool := false
  segs    : Nat := 0
  acked   : List Nat := []
  passed  : List Nat := []
  /-- Handover under way (R474). -/
  hand    : Bool := false
  /-- Appointed: segments of the table received, and the number of segments once the last has come. -/
  got     : Tbl (List Byte) := []
  gotN    : Nat := 0
  deriving DecidableEq, Repr

/-- A node as the census knows it (R476). -/
structure CensusEnt where
  status : Word
  seen   : List Word
  roles  : Word
  at_    : Nat
  deriving DecidableEq, Repr

/-- A lease at its arbiter (R479, R480): resource, holder node and session, expiry on TB0. -/
structure LeaseEnt where
  res    : Word
  node   : Nat
  sess   : Nat
  expiry : DWord
  deriving DecidableEq, Repr

/-- A lease command of this hub that waits for its answer (R481): session, OP, resource, D, request number, TB0 and the block's own
time at issue. `arb` is the arbiter. -/
structure LeaseWait where
  sess : Nat
  since : Nat
  op   : Nat
  res  : Word
  d    : Nat
  tag  : Nat
  tb   : DWord
  arb  : Nat
  deriving DecidableEq, Repr

/-- An ink lock the ring manager has entered and not yet granted (R473): the request's source and number, duration. -/
structure LockWait where
  ent  : LeaseEnt
  src  : Nat
  tag  : Nat
  d    : Nat
  deriving DecidableEq, Repr

/-- Role and lease state that is no register of the map. -/
structure RolesSt where
  rm      : RoleSt := {}
  tm      : RoleSt := {}
  census  : Tbl (Option CensusEnt) := []
  leases  : List LeaseEnt := []
  /-- Leases held through this hub's sessions: resource, session, arbiter (R481). -/
  mine    : List (Word × Nat × Nat) := []
  waits   : List LeaseWait := []
  locks   : List LockWait := []
  /-- Last counter accepted, by SRC (R484). -/
  ctrs    : Tbl Nat := []
  nextTag : Nat := 0
  deriving DecidableEq, Repr


/-! ## Keyed check engine (chapter 15) -/

/-- A key slot (R526, R529, R538): key bytes (none: empty), generation, next counter value; what MRAM holds of it. `halt`
says that it issues nothing more; `due` that its MRAM copy is still to be cleared. -/
structure KeySlot where
  key    : Option (List Byte) := none
  pers   : Bool := false
  gen    : Nat := 0
  ctr    : Nat := 65536
  halt   : Bool := false
  /-- Counter value last written to MRAM, key and generation in the key store. -/
  ctrNv  : Nat := 0
  keyNv  : Option (List Byte × Nat) := none
  due    : Bool := false
  /-- The copy in the key store can no longer be read (FS226). -/
  nvBad  : Bool := false
  deriving DecidableEq, Repr

/-- A job the engine runs (R535–R541): page, header and message, the snapshot of key and generation, the counter it took,
its direct requester (none: from the queue), the reason it is rejected for; KEY_GONE ordered. -/
structure CphJob where
  page  : Nat
  item  : List Byte
  key   : List Byte
  gen   : Nat
  ctr   : Nat
  from_ : Option (Origin × Access)
  rej   : Nat := 0
  gone  : Bool := false
  deriving DecidableEq, Repr

/-- A page: key input, the direct job waiting, a result item the output queue refused, and its user word. -/
structure CphPage where
  keyin  : List Word := []
  direct : Option (Origin × Access) := none
  result : Option (List Byte × Word) := none
  deriving DecidableEq, Repr

structure CphSt where
  slots : Tbl KeySlot := []
  pages : Tbl CphPage := []
  job   : Option CphJob := none
  /-- Page served last (R542). -/
  last  : Nat := 15
  deriving DecidableEq, Repr

/-! ## Power companion (chapter 16) -/

/-- What the companion will report in its next status frame: a fault raise, a blotter record, an event bit. -/
inductive CompEv where
  | flt (n : Nat) (info : Word)
  | rcd (typ : Nat) (w4 w5 w6 : Word)
  | evt (unit bit : Nat)
  deriving DecidableEq, Repr

/-- An input feed (R551–R555), counts in ticks. -/
structure FeedSt where
  inWin   : Nat := 0
  outWin  : Nat := 0
  rev     : Bool := false
  revOn   : Nat := 0
  imbal   : Nat := 0
  /-- VIN is below EWARN, below NVW, as the comparators with their hysteresis see it (R552, R555); ticks at or above EWARN. -/
  ewLow   : Bool := false
  nvLow   : Bool := false
  ewOk    : Nat := 0
  deriving DecidableEq, Repr

/-- A slot feed (R557–R567), counts in ticks. -/
structure SlotSt where
  /-- The gate is driven. -/
  gate    : Bool := false
  ramped  : Bool := false
  wait    : Nat := 0
  ontime  : Nat := 0
  limit   : Nat := 0
  under   : Nat := 0
  cool    : Nat := 0
  lead    : Nat := 0
  /-- SLOT_WARN_N: ticks since the last cause ended. -/
  warnEnd : Nat := 0
  pgHeld  : Nat := 0
  /-- A fast trip to record in the next tick (R565), VOUT before it. -/
  fast    : Bool := false
  deriving DecidableEq, Repr

/-- Power state that is no register of the map: the companion's own registers, by map offset, its units and what it has to
report. -/
structure PwrSt where
  comp    : Tbl Word := []
  feeds   : Tbl FeedSt := []
  slots   : Tbl SlotSt := []
  evq     : List CompEv := []
  vfeed   : Nat := 0
  /-- VFEED is above, below the bus window, with the hysteresis of R552 (R557). -/
  busHi   : Bool := false
  busLo   : Bool := false
  inf     : Nat := 0
  hot     : Bool := false
  /-- Ticks of the die-to-die link's loss as the companion counts them, trips and feed changes in it (R578). -/
  lostT   : Nat := 0
  lostTrip : Nat := 0
  lostFeed : Nat := 0
  /-- Carrier sequencing (R571): outputs in order, the one waited for; unsequenced supply supervisors (R569, R570). -/
  seqK    : Nat := 0
  nvCause : Nat := 0
  /-- Carrier sequencing: the PWR_SEQ_CFG of the sequence that runs; outputs are being taken away; ticks since the last output
  changed, since every input was good, and with both feeds below UV (R571). -/
  seqCfg  : Word := 0
  seqDn   : Bool := false
  seqT    : Nat := 0
  seqG    : Nat := 0
  seqLow  : Nat := 0
  /-- `hub.now` when the causes of the NV inhibit last changed (R570). -/
  nvAt    : Nat := 0
  /-- Standby island (R572): the counter when it was last loaded or restarted, and `hub.now` then. -/
  stby    : Nat := 0
  stbyAt  : Nat := 0
  stbySet : Word := 0
  shedN   : Nat := 0
  deriving DecidableEq, Repr

/-! ## Start-up, firmware and MRAM (chapter 17) -/

/-- An image slot's MRAM content (R586): colophon and body so far; offset of the last chunk. -/
structure ImgSt where
  colo : List Byte := []
  body : List Byte := []
  last : Option Nat := none
  deriving DecidableEq, Repr

/-- A configuration store (R596): generation, format, its registers that do not hold their reset value; none: invalid. -/
structure StoreSt where
  gen  : Nat
  fmt  : Nat
  regs : Tbl Word
  deriving DecidableEq, Repr

/-- The boot record without its sequence number (R585). -/
structure BootRec where
  active : Nat := 0
  trial  : Option Nat := none
  fails  : Nat := 0
  floor  : Nat := 0
  deriving DecidableEq, Repr

/-- One of the two copies of the boot record in MRAM, by its place; `bad`: it fails its CRC-32 (R585). -/
structure RecCopy where
  rcd   : BootRec := {}
  place : Nat := 0
  bad   : Bool := false
  deriving DecidableEq, Repr

/-- The counts of a journal entry without its sequence number (R599). -/
structure JCounts where
  hours : Nat := 0
  secs  : Nat := 0
  pcyc  : Nat := 0
  boots : Nat := 0
  deriving DecidableEq, Repr

/-- An entry of the journal's ring of 256, by its place; `bad`: it fails its CRC. -/
structure JEntry where
  cnt   : JCounts := {}
  place : Nat := 0
  bad   : Bool := false
  deriving DecidableEq, Repr

/-- Start-up state that is no register of the map, and the contents of the MRAM (R584). -/
structure BootSt where
  img0   : ImgSt := {}
  img1   : ImgSt := {}
  st0    : Option StoreSt := none
  st1    : Option StoreSt := none
  /-- The boot record and the counts in force, and what MRAM holds of them, newest first: two copies, up to 256 entries. -/
  rcd    : BootRec := {}
  jnl    : JCounts := {}
  copies : List RecCopy := [{}, { place := 1 }]
  ring   : List JEntry := [{}]
  /-- Writes of the boot record, of the journal, wait for the end of the NV inhibit (R589). -/
  rcdDue : Bool := false
  jnlDue : Bool := false
  /-- MRAM words written (R600). -/
  words  : Nat := 0
  /-- The slot ROM has chosen (R590); none before the choice and in recovery mode. -/
  chosen : Option Nat := none
  /-- Version that runs and the one before it; the trial window is open; a live activation or revert is under way: whether it
  is a revert, and the source that caused it. -/
  ver    : Word := 0
  former : Word := 0
  window : Bool := false
  /-- `hub.now` at the last firmware start (R592). -/
  started : Nat := 0
  live   : Option (Bool × Nat) := none
  /-- The reset under way ended node safe state: SAFE_EXIT is recorded at its end (R503). -/
  wasSafe : Bool := false
  deriving DecidableEq, Repr


/-! ## The whole state -/

/-- Why the machine stops with a fault: no command of this block does. -/
inductive Fault where
  /-- Raised by no meaning: the constructor only gives the type a name. Safe. -/
  | unreachable
  deriving DecidableEq, Repr

/-- Why a command has no meaning. -/
inductive Refusal where
  /-- A command that the model has not reached. Raised by the arm of exec for that command. Safe: nothing is proved of it. -/
  | notModelled (mnemonic : String)
  deriving DecidableEq, Repr

/-- The state of the block. -/
structure State where
  /-- Commands waiting, first in, first out. -/
  pending : List Instr
  /-- Every register of the node-local map that does not read its reset value. -/
  regs    : Tbl Word
  /-- The model's own counter behind the free values. -/
  free    : Nat
  /-- Reactions ordered and not yet carried out; empty between commands. -/
  post    : List Post
  hub     : HubSt
  lanes   : Tbl LaneSt
  ring    : RingSt
  tx      : TxSt
  ink     : InkSt
  flt     : FltSt
  mons    : Tbl MonSt
  pins    : Tbl PinSt
  nibs    : Tbl NibSt
  stk     : StkSt
  quills  : Tbl QuillSt
  time    : TimeSt
  pbp     : PbpSt
  cans    : Tbl CanSt
  kc      : KcSt
  roles   : RolesSt
  cph     : CphSt
  pwr     : PwrSt
  boot    : BootSt
  deriving DecidableEq, Repr

/-- The hub straps, clock and level inputs of the block at reset (DESIGN CHOICE, log entry 1): node 1, normal boot, CANCLK 80 MHz. -/
def HubSt.reset : HubSt :=
  { pinNode := 1, pinBoot := 0, pinTest := false, devNum := 0, lporHeld := false, rstHeld := false, d2dWait := [], coal := [],
    noticePin := false, msix := [], msixPend := [], msixTab := [], canClk := 80, feedLow := false, cprst := false, icBad := false, tjHot := false, now := 0 }

/-- Key slot 1 as Noldocor loads it before shipment (R587); the key's value is the model's (DESIGN CHOICE, log entry 1). -/
def imageKey : KeySlot :=
  { key := some (List.replicate 16 0), pers := true, gen := 1, keyNv := some (List.replicate 16 0, 1) }

/-- The state right after a logic power-on reset of a new part (R32, R36, R589): every register at its reset value, HUB_STRAP
sampled from the strap pins, nothing in any buffer, MRAM without images or stores, no command waiting. -/
def State.reset : State :=
  { pending := [], regs := [(4, 1)], free := 0, post := [], hub := HubSt.reset, lanes := [], ring := {}, tx := {}, ink := {},
    flt := {}, mons := [], pins := [], nibs := [], stk := {}, quills := [], time := {}, pbp := {}, cans := [], kc := {},
    roles := {}, cph := { slots := [(1, imageKey)] }, pwr := {}, boot := {} }

end Sys2Proof.Machine
end

