-- ==== Sys2Proof/Machine/Ops.lean ====
section
/-! DEFINITION. The named operations every meaning is built from: the register file, notices and the blotter, raising a
fault, originating a frame, the inkwell's accounting, completions and commit-on-delivery. -/
namespace Sys2Proof.Machine
open Sys2Proof

/-! ## Registers -/

/-- What the register at node-local offset `k` holds. -/
def rd (s : State) (k : Nat) : Word := tget resetOf s.regs k

/-- Put `v` into the register at `k`, whatever its access type. -/
def wr (k : Nat) (v : Word) (s : State) : State := { s with regs := tset resetOf s.regs k v }

/-- Field [hi:lo] of the register at `k`. -/
def rf (s : State) (k hi lo : Nat) : Nat := fld (rd s k) hi lo

/-- Bit `i` of the register at `k`. -/
def rb (s : State) (k i : Nat) : Bool := bit (rd s k) i

/-- Write field [hi:lo] of the register at `k`. -/
def wf (k hi lo v : Nat) (s : State) : State := wr k (setFld (rd s k) hi lo v) s

/-- Write bit `i` of the register at `k`. -/
def wb (k i : Nat) (b : Bool) (s : State) : State := wr k (setBit (rd s k) i b) s

/-- Count `n` in the 32-bit saturating counter at `k`. -/
def bump (k n : Nat) (s : State) : State := wr k (satAdd (rd s k) n) s

/-- Remove the head RX word of quill `q` (R296). -/
def quillRxDrop (q : Nat) (s : State) : State :=
  let k := tget (fun _ => {}) s.quills q
  wf (qlReg q 0x04) 6 4 (k.rxf.drop 1).length
    { s with quills := tset (fun _ => {}) s.quills q { k with rxf := k.rxf.drop 1 } }

/-- Remove the oldest high-priority record of CAN controller `c` (R338). -/
def canHpDrop (c : Nat) (s : State) : State :=
  let k := tget (fun _ => {}) s.cans c
  { s with cans := tset (fun _ => {}) s.cans c { k with hp := k.hp.drop 1 } }

/-- The own node ID, HUB_STRAP.NODE_ID (R38). -/
def ownNode (s : State) : Nat := rf s hubStrap 7 0

/-- The ring core runs as a repeater: an invalid NODE_ID or isolation (R107, R108). -/
def repeater (s : State) : Bool := ownNode s == 0 || ownNode s == 255 || s.ring.isolated

/-- TB0 in ns. -/
def tb0 (s : State) : DWord := (tget (fun _ => {}) s.time.bases 0).ns

/-- TB0 as it was `ns` ns ago: a step since then is taken off (R403). -/
def tb0Ago (ns : Nat) (s : State) : DWord :=
  (s.time.steps.filter (fun e => s.hub.now < e.1 + ns)).foldl (fun a e => a - e.2) (tb0 s - BitVec.ofNat 64 ns)

/-- Low and high word of a 64-bit value. -/
def loW (d : DWord) : Word := d.setWidth 32
def hiW (d : DWord) : Word := (d >>> 32).setWidth 32
def dword (hi lo : Word) : DWord := (hi.zeroExtend 64 <<< 32) ||| lo.zeroExtend 64

/-- A free value of width 32: the model's own counter advances, so every use reads a fresh value. -/
def fresh (s : State) : Word × State := (Config.freeWord s.free, { s with free := s.free + 1 })

/-! ## MSI-X (R48, R49) -/

/-- Reset value of the word at offset `k` of the MSI-X table: every vector is masked (PRESUMED, log entry 27: PCI Express). -/
def msixReset (k : Nat) : Word := if k % 16 = 12 then 1 else 0

/-- Vector `v` is masked: bit 0 of its vector control word. -/
def vecMasked (v : Nat) (s : State) : Bool := bit (tget msixReset s.hub.msixTab (16 * v + 12)) 0

/-- Send MSI-X vector `v`; a masked one sets its pending bit (R48). -/
def sendVec (v : Nat) (s : State) : State :=
  let h := s.hub
  if vecMasked v s then { s with hub := { h with msixPend := if h.msixPend.contains v then h.msixPend else h.msixPend ++ [v] } }
  else { s with hub := { h with msix := h.msix ++ [v] } }

/-! ## Notices and blotter records (R45, R505–R512) -/

/-- Order a notice of group `g`: it is created at the end of the command, if its route is enabled (R45, R46). -/
def notify (g ev unit : Nat) (info : Word) (s : State) : State :=
  { s with post := s.post ++ [.notice g ev unit info (tb0 s)] }

/-- TB0 is neither LOCKED nor MASTER (R505, R414). -/
def unlocked (s : State) : Bool := !(rf s tbStatus 2 0 == 3 || rf s tbStatus 2 0 == 6)

/-- A record of the blotter stamped with the time, hours and node (R505, R511). -/
def mkRec (typ source : Nat) (w4 w5 w6 : Word) (s : State) : BltRec :=
  { typ := typ, source := source, secs := s.flt.secs, hours := s.flt.hours, pcyc := s.flt.pcyc,
    flags := b2n (unlocked s) + 2 * b2n (!rb s hubStatus 1) + 4 * b2n s.flt.inj,
    seq := rf s bltStatus 12 0 % 256, node := ownNode s, tb0 := loW (tb0 s), w4 := w4, w5 := w5, w6 := w6 }

/-- Write a blotter record: missed and counted while frozen (R510), refused and counted while full (R509), else appended
at the next index (R508); the record that fills the blotter sets FULL and creates notice 0x06 once (R509). -/
def blot (typ source : Nat) (w4 w5 w6 : Word) (s : State) : State :=
  if s.hub.lporHeld || s.hub.rstHeld then s
  else if rb s bltCtl 0 then bump bltMissed 1 s
  else if rb s bltStatus 31 then bump bltRefused 1 s
  else
    let n := rf s bltStatus 12 0
    let s := { s with flt := { s.flt with recs := s.flt.recs ++ [mkRec typ source w4 w5 w6 s] } }
    let s := bump bltWritten 1 (wf bltStatus 12 0 (n + 1) s)
    if n + 1 = 4096 then notify 1 0x06 0 0 (wb bltStatus 31 true s) else s

/-! ## Raising a fault (R493–R502) -/

/-- Severity a raise of source `n` is handled at (R496, R498): 0 count-only, 1 notice, 2 contain, 3 node-safe. -/
def severityOf (n : Nat) (s : State) : Nat :=
  if locked n then 3
  else if rb s fltCtl 0 then (fixedClass n).getD 0 + 1
  else rf s (fltSev n) 1 0

/-- First-error latching and merging of a raise at notice or above (R500). -/
def latchFault (n sev : Nat) (info : Word) (s : State) : State :=
  let s := wr fltLastSrc (w32 (sev * 256 + n)) s
  let s := if rf s fltStatus 25 24 < sev then wf fltStatus 25 24 sev s else s
  if rb s fltStatus 31 then
    if rf s fltFirstSrc 7 0 = n then bump fltFirstCnt 1 (wb fltStatus 29 true s) else wb fltStatus 30 true s
  else
    let s := wr fltFirstSrc (w32 (sev * 256 + n)) (wb fltStatus 31 true s)
    let s := wr fltFirstTimeHi (hiW (tb0 s)) (wr fltFirstTimeLo (loW (tb0 s)) (wr fltFirstInfo info s))
    let s := wr fltFirstCnt 1 s
    notify 1 0x01 n info (sendVec 48 s)

/-- Enter node safe state, or be kept in it (R502, R498). -/
def enterSafe (n : Nat) (info : Word) (s : State) : State :=
  let s := wb hubStatus 4 true (wb fltStatus 28 true s)
  let s := if locked n then wb fltStatus 27 true s else s
  let s := blot 0x04 n info 0 0 s
  let s := notify 1 0x04 n info s
  { s with post := s.post ++ [.safe] }

/-- Raise fault source `n` with information word `info` (R495, R496, R499, R500, R502). A reserved source is never
raised (R493). The quarantine and the blocks' behaviour in safe state are carried out at the end of the command. -/
def raise (n : Nat) (info : Word) (s : State) : State :=
  match if s.hub.lporHeld || s.hub.rstHeld then none else fixedClass n with
  | none => s
  | some _ =>
    let sev := severityOf n s
    let was := rb s (fltActive (n / 32)) (n % 32)
    let s := wb (fltActive (n / 32)) (n % 32) true (bump (fltCnt n) 1 s)
    let latched := sev ≠ 0 && !rb s fltStatus 31
    let merged := sev ≠ 0 && rb s fltStatus 31 && rf s fltFirstSrc 7 0 == n
    let s := if sev = 0 then s else latchFault n sev info s
    let s := if 2 ≤ sev || rb s (fltSev n) 4 then
        blot 0x01 n info (w32 (sev + 256 * b2n latched + 512 * b2n merged)) (rd s (fltCnt n)) s else s
    if sev = 1 then (if was then s else notify 1 0x02 n info s)
    else if sev = 2 then { s with post := s.post ++ [.quar n info s.flt.inj] }
    else if sev = 3 then enterSafe n info s
    else s

/-! ## Register stores -/

/-- Store the bits of `v` under `mask` into the register at `k`; the other bits stay (R18, R19). -/
def stm (k : Nat) (mask : Word) (v : Word) (s : State) : State := wr k ((rd s k &&& ~~~mask) ||| (v &&& mask)) s

/-- The local data path runs: HUB_CTL.RUN = 1 and no node safe state (R40, R502). -/
def dataPath (s : State) : Bool := rb s hubCtl 0 && !rb s hubStatus 4

/-- A notice with a time of its own (R253). -/
def notifyAt (g ev unit : Nat) (info : Word) (tb : DWord) (s : State) : State :=
  { s with post := s.post ++ [.notice g ev unit info tb] }

/-- Set sticky bit `i` of the event register `ev` when it reads 0, creating the unit's notice (event code i + 1) if the
same bit of `nmask` is set; a bit already set creates nothing (R233, R314, R454). -/
def unitEvent (ev nmask i g unit : Nat) (info : Word) (s : State) : State :=
  if rb s ev i then s
  else
    let s := wb ev i true s
    if rb s nmask i then notify g (i + 1) unit info s else s

/-- The time tag of a start event: bits [33:10] of TB0 (R207), and that of an event `ns` ns ago. -/
def timeTag (s : State) : Nat := bitsOf (tb0 s).toNat 33 10
def tagAgo (ns : Nat) (s : State) : Nat := bitsOf (tb0Ago ns s).toNat 33 10

/-- The value a quarantine code, a check code and the slot at fault give a reason register. -/
def reason (code : Nat) (sub : Nat) (at_ : Nat) : Word := w32 (code + sub * 2 ^ at_)

/-- Indices of the cells with an uncorrectable error that a read of `n` bytes of item `i` from byte `lo` on meets (R165). -/
def badCells (i : Item) (lo n : Nat) : List Nat :=
  (i.bad.filter (fun e => 64 * e.1 < lo + n && lo < 64 * e.1 + 64)).map (fun e => e.2)

/-- Item `i` has data that cannot be read. -/
def itemBad (i : Item) : Bool := !i.bad.isEmpty

/-- A read has met these cells: FS65 for each, with the cell's index (R165, R186). -/
def raiseCells : List Nat → State → State
  | [], s => s
  | c :: t, s => raiseCells t (raise 65 (w32 c) s)

/-! ## Ring: origination (R86, R97, R105, R107) -/

/-- Lane `l` (0 West, 1 East) is in UP (R63). -/
def laneUp (l : Nat) (s : State) : Bool := rf s (laneReg l 0x004) 2 0 == 6

/-- RING_STATUS as it reads: NODE, ISOLATED, UP_E and UP_W follow the strap and the lanes; the CLOSED bits are
the stored ones (R118). -/
def ringStatusVal (s : State) : Word :=
  w32 (256 * ownNode s + 16 * b2n (repeater s) + 8 * b2n (laneUp 1 s) + 4 * b2n (laneUp 0 s) + rf s ringStatus 1 0)

/-- Ring A leaves on the East lane, ring B on the West lane (R82). `ring` is the RING flag. -/
def outLane (ring : Bool) : Nat := if ring then 0 else 1

/-- Link end of lane `l`, and its change. -/
def link (l : Nat) (s : State) : LinkSt := tget (fun _ => {}) s.ring.links l
def setLink (l : Nat) (k : LinkSt) (s : State) : State :=
  { s with ring := { s.ring with links := tset (fun _ => {}) s.ring.links l k } }

/-- Queue one copy of a local frame on the lane of its ring. -/
def queueCopy (f : Frame) (s : State) : State :=
  let l := outLane f.ring
  let k := link l s
  let s := setLink l { k with loc := k.loc ++ [{ id := s.ring.nextId, f := withCrc f, from_ := none, open_ := false }] } s
  let s := { s with ring := { s.ring with nextId := s.ring.nextId + 1 } }
  bump (ringReg (if f.ring then 0x044 else 0x040)) 1 s

/-- Node `n` is seen on a ring: bit 2i + ring of RING_SEEN (R122). -/
def seenOn (n ring : Nat) (s : State) : Bool := rb s (ringReg (0x100 + 4 * (n / 16))) (2 * (n % 16) + ring)

/-- Originate a frame (R97): the next SEQ, and a copy for each ring whose outbound lane is in UP; a SINGLE frame takes
SEQ 0 and one ring. A frame for this node never enters the ring. A repeater originates nothing (R107), but an isolated hub its
presence frames (R108). The number
of copies queued is the first component. -/
def originate (f : Frame) (s : State) : Nat × State :=
  let presence := s.ring.isolated && f.typ == 9 && f.dst == 255 && f.addr % 256 == 0x10
  if (ownNode s == 0 || ownNode s == 255) || (s.ring.isolated && !presence) || f.dst == 0 || f.dst == ownNode s then (0, s)
  else if f.single then
    let r := !seenOn f.dst 0 s
    if laneUp (outLane r) s then (1, queueCopy { f with src := ownNode s, seq := 0, hop := 0, ring := r } s) else (0, s)
  else
    let q := rf s ringSeq 15 0
    let s := wr ringSeq (w32 ((q + 1) % 65536)) s
    let f := { f with src := ownNode s, seq := q, hop := 0 }
    let (a, s) := if laneUp 1 s then (1, queueCopy { f with ring := false } s) else (0, s)
    if laneUp 0 s then (a + 1, queueCopy { f with ring := true } s) else (a, s)

/-- A frame with everything zero but type, class and destination. -/
def mkFrame (dst typ cls tag addr : Nat) (payload : List Byte) : Frame :=
  { dst := dst, src := 0, typ := typ, cls := cls, ts := false, pri := false, last := false, single := false,
    ring := false, uw := false, seq := 0, tag := tag, len := ceilDiv payload.length 8, hop := 0, addr := addr,
    payload := payload ++ List.replicate (8 * ceilDiv payload.length 8 - payload.length) 0, crc := 0 }

/-! ## Inkwell: accounting (R163–R172) -/

/-- Cells of an item: one per 64 bytes (R164). -/
def itemCells (i : Item) : Nat := ceilDiv i.bytes.length 64

/-- Q_COUNT.CELLS: every QUEUED cell of the queue, the open items' included (R164). -/
def queueCells (q : Queue) : Nat :=
  sumN (q.items.map itemCells) + (q.push.map itemCells).getD 0 + (q.prod.map itemCells).getD 0
    + sumN (q.inc.map (fun m => ceilDiv m.len 64))

def queue (q : Nat) (s : State) : Queue := tget (fun _ => {}) s.ink.queues q

/-- Put a queue's content; the cells it gains leave the free list, the cells it loses return to it (R163). The tail timer of a queue
that holds no cell is armed (R180). -/
def putQueue (q : Nat) (v : Queue) (s : State) : State :=
  let old := queueCells (queue q s)
  let new := queueCells v
  let t := tset (fun _ => {}) s.ink.queues q { v with fired := v.fired && new != 0 }
  { s with ink := { s.ink with queues := t, free := s.ink.free + old - new, queued := s.ink.queued + new - old } }

/-- Reserve and cap of queue `q` in a set of staged registers. -/
def rsvIn (t : Tbl Word) (q : Nat) : Nat := fld (tget resetOf t (qReg q 0x08)) 15 0
def capIn (t : Tbl Word) (q : Nat) : Nat := fld (tget resetOf t (qReg q 0x08)) 31 16
def cplRsvIn (t : Tbl Word) : Nat := fld (tget resetOf t inkCplRsv) 13 0

/-- The offset is some queue's Q_LIM. -/
def isQLim (k : Nat) : Bool := 0x28000 ≤ k && k < 0x30000 && k % 32 == 8

/-- Σ RSV_q over the 1024 queues. -/
def sumRsv (t : Tbl Word) : Nat :=
  let ls := t.filter (fun e => isQLim e.1)
  8 * (1024 - ls.length) + sumN (ls.map (fun e => fld e.2 15 0))

/-- Shared region size S of a set (0 where the set over-commits). -/
def sharedS (t : Tbl Word) : Nat := 32768 - (cplRsvIn t + sumRsv t)

/-- Shared cells in use U under a set. -/
def sharedU (t : Tbl Word) (s : State) : Nat :=
  sumN (s.ink.queues.map (fun e => queueCells e.2 - rsvIn t e.1))

/-- Admission of `n` more cells to queue `q` (R167), without the count of a refusal. -/
def admits (q n : Nat) (s : State) : Bool :=
  let t := s.ink.active
  let occ := queueCells (queue q s)
  occ + n ≤ capIn t q &&
  (occ + n - rsvIn t q) - (occ - rsvIn t q) ≤ sharedS t - sharedU t s

/-- Count a refusal for queue `q` (R167). -/
def countRefusal (q : Nat) (s : State) : State :=
  wb (qReg q 0x14) 0 true (bump (qReg q 0x1C) 1 (bump (inkReg 0x044) 1 s))

/-- An RX overflow of `n` bytes for queue `q`, one truncated or never created item (R183). -/
def rxOverflow (q n : Nat) (s : State) : State :=
  let s := bump (inkReg 0x040) 1 (bump (qReg q 0x18) n s)
  let s := wb inkEvt 0 true (raise 67 (w32 q) s)
  if rb s (qReg q 0x14) 1 then s
  else notify 3 0x01 q (rd s (qReg q 0x18)) (wb (qReg q 0x14) 1 true s)

/-! ## Completions (R127, R139, R148, R154, R156–R158) -/

/-- The data area of a read at `addr` (R126): the bytes at their place in 8-byte units, unused bytes 0. -/
def dataArea (addr : Nat) (d : List Byte) : List Byte := List.replicate (addr % 8) 0 ++ d

/-- Record a non-OK outcome of a PCIe or SPI request (R154, R161). -/
def errLog (spi : Bool) (node : Nat) (a : Access) (st : Status) (s : State) : State :=
  if st = .ok || rb s hubErrLog 31 then s
  else
    let k := match a.kind with | .rd => 0 | .wrN => 1 | .wrP => 2
    wr hubErrAddr (w32 a.addr)
      (wr hubErrLog (w32 (0x80000000 + k * 16777216 + node * 65536 + b2n spi * 256 + st.code)) s)

/-- Count an outcome at this hub (R158): `local_` for a request served on the own node. -/
def countStatus (local_ : Bool) (st : Status) (s : State) : State :=
  match st with
  | .ur => bump hubCntUr 1 s
  | .ua => bump hubCntUa 1 s
  | .busy => if local_ then bump hubCntBusyIn 1 s else bump hubCntBusyOut 1 s
  | _ => s

/-- The own node, where a request names node 0 (R123). -/
def targetNode (node : Nat) (s : State) : Nat := if node = 0 then ownNode s else node

/-- Drop one entry of the non-posted sink. -/
def sinkFree (src tag : Nat) (s : State) : State :=
  { s with tx := { s.tx with sink := s.tx.sink.erase (src, tag) } }

/-- The register is held on the companion (R550): FEED_, SLOT_ and the companion-side PWR_ registers. -/
def compReg (k : Nat) : Bool :=
  (0x40100 ≤ k && k < 0x50000) || k == 0x40008 || k == 0x4000C || k == 0x40010 || k == 0x40014 || k == 0x4001C || k == 0x40044

/-- A committed count leaves its counter; of a counter the companion holds, at the companion as well (R145, R22). -/
def subCount (off v : Nat) (s : State) : State :=
  let s := wr off (satSub (rd s off) v) s
  if compReg off then
    let c := satSub (tget resetOf s.pwr.comp off) v
    { s with pwr := { s.pwr with comp := tset resetOf s.pwr.comp off c } }
  else s

/-- A read has left notice queue `q` non-empty: the vector is sent again (R48). -/
def noticeAgain (q : Nat) (s : State) : State :=
  if 608 ≤ q && q < 624 && !(queue q s).items.isEmpty then sendVec (q - 608) s else s

/-- The head item of queue `q` has left it: a nib's choice of it for the stroke is void (R265), and Q(2n) of an enabled nib n that has
become empty sets NIB_EVT.TXEMPTY (R239). -/
def headGone (q : Nat) (s : State) : State :=
  let n := q / 2
  let k := tget (fun _ => {}) s.nibs n
  let s := if q < 512 && q % 2 == 0 && k.chosen then { s with nibs := tset (fun _ => {}) s.nibs n { k with chosen := false } } else s
  if q < 512 && q % 2 == 0 && rb s (nibReg n 0) 0 && (queue q s).items.isEmpty then
    unitEvent (nibReg n 0x0C) (nibReg n 0x10) 5 (4 + n / 32) n (rd s (nibReg n 0x04)) s
  else s

/-- The fragment of `n` bytes that was pending in queue `q` is consumed (R145). -/
def commitFrag (q n : Nat) (s : State) : State :=
  let k := queue q s
  match k.items with
  | [] => putQueue q { k with pend := none } s
  | i :: rest =>
    if i.bytes.length ≤ i.pos + n then headGone q (putQueue q { k with items := rest, pend := none, fired := false } s)
    else putQueue q { k with items := { i with pos := i.pos + n } :: rest, pend := none, fired := false } s

/-- Apply a commit of one pending value (R145 step 5). -/
def commitOne (c : Commit) (s : State) : State :=
  match c with
  | .count off v => subCount off v s
  | .frag q n => noticeAgain q (commitFrag q n s)
  | .quillRx q => quillRxDrop q s
  | .canHp c => canHpDrop c s

/-- Give one pending value back (R145 step 6): a fragment's item is the head again. -/
def returnOne (c : Commit) (s : State) : State :=
  match c with
  | .frag q _ => putQueue q { queue q s with pend := none } s
  | _ => s

def commitAll : List Commit → State → State
  | [], s => s
  | c :: t, s => commitAll t (commitOne c s)

def returnAll : List Commit → State → State
  | [], s => s
  | c :: t, s => returnAll t (returnOne c s)

/-- The pending read of a requester, if any. -/
def pendOf (o : Origin) (s : State) : Option Pend := s.tx.pend.find? (fun p => p.org = o)

def dropPend (o : Origin) (s : State) : State :=
  { s with tx := { s.tx with pend := s.tx.pend.filter (fun p => p.org ≠ o) } }

/-- Commit what requester `o` read. -/
def commitOrg (o : Origin) (s : State) : State :=
  match pendOf o s with
  | none => s
  | some p => commitAll p.what (dropPend o s)

/-- The POP_UNCERTAIN record of one pending value (R507). -/
def popUncertain (o : Origin) (c : Commit) (s : State) : State :=
  let (node, tag, who) := match o with
    | .ring src tag => (src, tag, 0)
    | .pcie _ _ => (ownNode s, 0, 1)
    | _ => (ownNode s, 0, 2)
  let (what, isReg) := match c with
    | .frag q _ => (q, 0)
    | .count off _ => (off, 1)
    | .quillRx q => (qlReg q 0x044, 1)
    | .canHp k => (canReg k 0x140, 1)
  blot 0x10 0 (w32 (node + tag * 65536)) (w32 what) (w32 (isReg + 16 * who)) (bump hubCntPopu 1 s)

def popUncertainAll (o : Origin) : List Commit → State → State
  | [], s => s
  | c :: t, s => popUncertainAll o t (popUncertain o c s)

/-- Return what requester `o` read, counted and recorded once per read (R145 step 6: "a burst is returned as a whole",
one count and one record, of its first value). -/
def returnOrg (o : Origin) (s : State) : State :=
  match pendOf o s with
  | none => s
  | some p => popUncertainAll o (p.what.take 1) (returnAll p.what (dropPend o s))

def returnOrgs : List Pend → State → State
  | [], s => s
  | p :: t, s => returnOrgs t (returnOrg p.org s)

/-- A unit is reset: every pending read of one of its values returns at once (R149). -/
def returnWhere (p : Commit → Bool) (s : State) : State := returnOrgs (s.tx.pend.filter (fun e => e.what.any p)) s

/-- The pending value is one of the unit whose registers stand from `lo` to below `hi` and whose queues are `qs` (R149). -/
def unitValue (lo hi : Nat) (qs : List Nat) (c : Commit) : Bool :=
  match c with
  | .count off _ => lo ≤ off && off < hi
  | .frag q _ => qs.contains q
  | .quillRx q => lo ≤ qlReg q 0 && qlReg q 0 < hi
  | .canHp k => lo ≤ canReg k 0 && canReg k 0 < hi

/-- The unit with its page at `lo` and with queues `qs` is reset (R149). -/
def unitForget (lo : Nat) (qs : List Nat) (s : State) : State := returnWhere (unitValue lo (lo + 0x1000) qs) s

/-- Return what requester `o` read without count or record (R154). -/
def returnSilent (o : Origin) (s : State) : State :=
  match pendOf o s with
  | none => s
  | some p => returnAll p.what (dropPend o s)

/-! ### PCIe answers (R154) -/

/-- How a status of a read is answered. -/
inductive PcieAns where
  | sc (ep : Bool) (d : List Byte)
  | ur
  | ca
  deriving DecidableEq, Repr

def pcieAns (errmode : Bool) (count : Nat) (st : Status) (d : List Byte) : PcieAns :=
  if st = .ok then .sc false d
  else if errmode then .sc false (List.replicate count 0xFF)
  else match st with
    | .poison => .sc true d
    | .ur | .ua | .denied => .ur
    | _ => .ca

/-- What one walk over a PCIe read gives: the accesses, the completions, whether the request has ended, the indices whose
values are not delivered, and the ACKs of those that are (R146, R154). -/
structure PcieStep where
  accs  : List PcieAcc := []
  cpl   : List PcieCpl := []
  ended : Bool := false
  lost  : List Nat := []
  acks  : List (Nat × Nat) := []
  deriving DecidableEq, Repr

/-- Answer what is ready of one PCIe read, in ascending address order. -/
def pcieWalk (errmode : Bool) (id : Nat) : Nat → Bool → Bool → List PcieAcc → PcieStep
  | _, _, ended, [] => { ended := ended }
  | i, blocked, ended, a :: t =>
    match a.res, blocked || a.sent with
    | some (st, d), false =>
      let rest (e : Bool) := pcieWalk errmode id (i + 1) false e t
      let a' := { a with sent := true }
      if ended then let r := rest true; { r with accs := a' :: r.accs, lost := i :: r.lost }
      else match pcieAns errmode a.acc.count st d with
        | .sc ep d' =>
          let r := rest false
          let k := match a.ack with | some tag => [(a.node, tag)] | none => []
          { r with accs := a' :: r.accs, cpl := .data id i ep d' :: r.cpl, acks := k ++ r.acks }
        | .ur => let r := rest true; { r with accs := a' :: r.accs, cpl := .ur id :: r.cpl }
        | .ca => let r := rest true; { r with accs := a' :: r.accs, cpl := .ca id :: r.cpl }
    | none, _ => let r := pcieWalk errmode id (i + 1) true ended t; { r with accs := a :: r.accs }
    | some _, _ => let r := pcieWalk errmode id (i + 1) blocked ended t; { r with accs := a :: r.accs }

def returnSilentIdx (id : Nat) : List Nat → State → State
  | [], s => s
  | i :: t, s => returnSilentIdx id t (returnSilent (.pcie id i) s)

/-- Send the ACK of a completion (R146). -/
def sendAck (node tag : Nat) (s : State) : State := (originate (mkFrame node 10 0 tag 1 []) s).2

def sendAcks : List (Nat × Nat) → State → State
  | [], s => s
  | a :: t, s => sendAcks t (sendAck a.1 a.2 s)

/-- Answer what is ready of request `id`, and forget the request when every access has been dealt with. -/
def pcieFlush (id : Nat) (s : State) : State :=
  match s.tx.pcie.find? (fun r => r.id = id) with
  | none => s
  | some r =>
    if r.read then
      let w := pcieWalk (rb s hubTxCfg 8) id 0 false r.ended r.accs
      let r' := { r with accs := w.accs, ended := w.ended }
      let rest := s.tx.pcie.filter (fun x => x.id ≠ id)
      let keep := if w.accs.all (fun a => a.sent) then rest else rest ++ [r']
      sendAcks w.acks (returnSilentIdx id w.lost { s with tx := { s.tx with pcie := keep, pcieOut := s.tx.pcieOut ++ w.cpl } })
    else
      if r.accs.all (fun a => a.res.isSome) then
        { s with tx := { s.tx with pcie := s.tx.pcie.filter (fun x => x.id ≠ id) } }
      else s

/-- Bytes `d` made up to `n` bytes: a byte that nothing brings has no stated value. -/
def padBytes : Nat → List Byte → State → List Byte × State
  | 0, _, s => ([], s)
  | n + 1, b :: t, s =>
    let r := padBytes n t s
    (b :: r.1, r.2)
  | n + 1, [], s =>
    let (w, s) := fresh s
    let r := padBytes n [] s
    (w.setWidth 8 :: r.1, r.2)

/-- Note the outcome of access `idx` of PCIe request `id`, with the tag of the ACK it calls for, if any. Data that is returned with
EP set and that its completion did not bring has no stated value (R127, R154). -/
def pcieResult (id idx : Nat) (st : Status) (d : List Byte) (ack : Option Nat) (s : State) : State :=
  match s.tx.pcie.find? (fun r => r.id = id) with
  | none => s
  | some r =>
    match nthD none (r.accs.map some) idx with
    | none => s
    | some a =>
      let (d, s) := if st = .poison then padBytes a.acc.count d s else (d, s)
      let r' := { r with accs := setNth r.accs idx { a with res := some (st, d), ack := ack } }
      let s := { s with tx := { s.tx with pcie := s.tx.pcie.map (fun x => if x.id = id then r' else x) } }
      pcieFlush id (errLog false a.node a.acc st s)

/-! ### SPI answers (R156, R157) -/

/-- The bytes the target returns in a read frame: `waits` wait bytes, marker, status, data (zero bytes unless OK), and the CRC-8
over every byte of the frame, the wait bytes included, if enabled (R157). -/
def spiAnswer (crcOn : Bool) (hdr : List Byte) (waits : Nat) (st : Status) (d : List Byte) : List Byte :=
  let all := List.replicate waits 0 ++ 0x5A#8 :: BitVec.ofNat 8 st.code :: d
  if crcOn then all ++ [crc8 (hdr ++ all)] else all

/-- Note the outcome of the SPI target's access `a` at `node`. -/
def spiResult (node : Nat) (a : Access) (st : Status) (d : List Byte) (s : State) : State :=
  let s := errLog true node a st s
  match a.kind with
  | .rd =>
    let p := s.tx.spi
    let p := if 0 < p.stale then { p with stale := p.stale - 1 }
      else { p with
        res := some (st, if st = .ok then d else List.replicate a.count 0),
        cells := if st = .ok && node != ownNode s then ceilDiv a.count 64 else 0 }
    { s with tx := { s.tx with spi := p } }
  | _ =>
    let p := s.tx.spi
    let writes := match p.writes with
      | w :: t => (if st = .ok then w else []) :: t
      | [] => []
    let p := { p with busy := false, first := if p.first = .ok && p.writes.length ≤ 1 then st else p.first, writes := writes }
    { s with tx := { s.tx with spi := p } }

/-- The request of `o` that was being served here is served. -/
def unserve (o : Origin) (s : State) : State :=
  { s with tx := { s.tx with own := s.tx.own.eraseP (fun e => e.org = o && !e.waits) } }

/-- Complete access `a`, asked by `o`, with a status and data. A ring requester gets its completion frame (R127); a control
pair commits at delivery (R148); the outcome is counted (R158). `node` is the target of a request of the own node. -/
def complete (o : Origin) (node : Nat) (a : Access) (st : Status) (d : List Byte) (s : State) : State :=
  let s := unserve o s
  match o with
  | .ring src tag =>
    let s := countStatus false st (sinkFree src tag s)
    match st, a.kind with
    | .ok, .rd => (originate (mkFrame src 4 1 tag 0 (dataArea a.addr d)) s).2
    | _, _ => (originate (mkFrame src 3 1 tag st.code []) s).2
  | .pcie id idx => pcieResult id idx st d none s
  | .spi => spiResult node a st d s
  | .bridge w => if a.kind = .wrP then s else { s with pbp := { s.pbp with result := some (w, st, d) } }
  | .pairK => commitOrg .pairK { s with tx := { s.tx with core := s.tx.core ++ [(.pairK, st, d)] } }
  | .pairM => commitOrg .pairM { s with tx := { s.tx with core := s.tx.core ++ [(.pairM, st, d)] } }

/-! ## Answering a request served on this node (R127, R141, R142, R158) -/

/-- The requester sits on this hub. -/
def isLocal : Origin → Bool
  | .ring _ _ => false
  | _ => true

/-- Node a requester is known by at this target (R141, R143). -/
def orgNode (o : Origin) (s : State) : Nat :=
  match o with
  | .ring src _ => src
  | _ => ownNode s

/-- The hub retries a BUSY answer of this requester: PCIe or SPI (R142). -/
def retries : Origin → Bool
  | .pcie _ _ | .spi => true
  | .ring _ _ | .pairK | .pairM | .bridge _ => false

/-- A WR_P whose effect is refused: counted and recorded, one of PCIe in HUB_TX_ERRLOG too (R141, R154). -/
def refuseP (o : Origin) (a : Access) (st : Status) (s : State) : State :=
  let s := match o with
    | .pcie _ _ => errLog false (ownNode s) a st s
    | _ => s
  let s := if st = .denied then bump hubCntDenied 1 s else countStatus (isLocal o) st s
  blot 0x11 0 (w32 (orgNode o s + 256 * st.code)) (w32 a.addr) (w32 (a.addr / 2 ^ 32)) (bump hubCntWrpFail 1 s)

/-- A request of PCIe or SPI that this node has answered BUSY waits for its next retry, where one is left (R142). -/
def retryOwn (o : Origin) (s : State) : Option State :=
  match s.tx.own.find? (fun e => e.org = o && !e.waits) with
  | some e =>
    if retries o && e.tries < rf s hubTxCfg 3 0 then
      some { s with tx := { s.tx with own := s.tx.own.map (fun x => if x.org = o then { x with waits := true } else x) } }
    else none
  | none => none

/-- Answer access `a` of requester `o` with its outcome at this target. -/
def answer (o : Origin) (a : Access) (st : Status) (d : List Byte) (s : State) : State :=
  match a.kind with
  | .wrP =>
    let s := if st = .ok then s else refuseP o a st s
    if isLocal o then complete o (ownNode s) a st d s else s
  | _ =>
    let s := if isLocal o then countStatus true st s else s
    if st = .busy then (retryOwn o s).getD (complete o (ownNode s) a st d s) else complete o (ownNode s) a st d s

/-! ## Inkwell: items, pops, moves (R164, R174–R180) -/

/-- The 8-byte descriptor of a pop or peek (R174). -/
def descriptor (i : Item) (fin : Bool) (off : Nat) (pend : Bool) : List Byte :=
  wordBytes (w32 (0x80000000 + b2n fin * 0x40000000 + b2n i.trunc * 0x20000000 + b2n i.tailcut * 0x10000000
    + off * 65536 + b2n pend * 32768 + i.bytes.length)) ++ wordBytes i.user

/-- The head item of queue `q` is under way to a remote subscriber (R101, R134). -/
def sending (q : Nat) (s : State) : Bool := s.tx.tags.any (fun e => e.2.use == .out && e.2.kind == 2 && e.2.queue == q)

/-- Try to serve a pop of `count` bytes of queue `q` for `o` (R175): none = it is held (R178). A pop whose data holds an
uncorrectable error raises FS65 and completes POISON, its data for a requester that takes it with the error (R154, R165). -/
def tryPop (q count : Nat) (o : Origin) (s : State) : Option (Status × List Byte × State) :=
  let k := queue q s
  if sending q s then none else
  match k.pend, k.items with
  | none, i :: _ =>
    let f := min (count - 8) (i.bytes.length - i.pos)
    let body := descriptor i (i.bytes.length ≤ i.pos + f) i.pos false ++ (i.bytes.drop i.pos).take f
    let d := body ++ List.replicate (count - body.length) 0
    match badCells i i.pos f with
    | [] =>
      let s := putQueue q { k with pend := some f } s
      some (.ok, d, { s with tx := { s.tx with pend := s.tx.pend ++ [⟨o, [.frag q f]⟩] } })
    | cs => some (.poison, d, raiseCells cs s)
  | _, _ => none

/-- Answer held pops of queue `q` in arrival order while an item can be returned (R178). -/
def releasePops (q : Nat) : Nat → State → State
  | 0, s => s
  | n + 1, s =>
    match (queue q s).held with
    | [] => s
    | h :: rest =>
      match tryPop q h.count h.org s with
      | none => s
      | some (st, d, s') =>
        let s' := putQueue q { queue q s' with held := rest } s'
        releasePops q n (complete h.org (ownNode s') ⟨.rd, h.addr, h.count, []⟩ st d s')

/-- Q_SUB of queue `q` in the active set: enabled, node, queue. -/
def subOf (q : Nat) (s : State) : Bool × Nat × Nat :=
  let w := tget resetOf s.ink.active (qReg q 0x04)
  (bit w 16, fld w 31 24, fld w 9 0)

/-- Queue `q` has a local subscriber: its queue number (R177). -/
def localSub (q : Nat) (s : State) : Option Nat :=
  let (en, node, d) := subOf q s
  if en && (node == 0 || node == ownNode s) then some d else none

/-- Queue `q` has a remote subscriber: node and queue (R177). -/
def remoteSub (q : Nat) (s : State) : Option (Nat × Nat) :=
  let (en, node, d) := subOf q s
  if en && !(node == 0 || node == ownNode s) then some (node, d) else none

/-- A move of the head item of `n` cells from `q` to `d` is admitted (R177). -/
def moveAdmits (q d n : Nat) (s : State) : Bool :=
  let t := s.ink.active
  let od := queueCells (queue d s)
  let oq := queueCells (queue q s)
  let need := (od + n - rsvIn t d) - (od - rsvIn t d)
  let rel := (oq - rsvIn t q) - (oq - n - rsvIn t q)
  od + n ≤ capIn t d && need - rel ≤ sharedS t - sharedU t s

/-- A notice queue or stroke publication queue that turned non-empty, or stays so after a read, signals by MSI-X (R48, R49). -/
def signalQueue (q : Nat) (s : State) : State :=
  if 608 ≤ q && q < 624 then sendVec (q - 608) s
  else if 624 ≤ q && q < 640 then sendVec (q - 592) s
  else s

/-- Place a closed item behind every item that closed before it (R164), with the MSI-X of a queue that turns non-empty. -/
def enqueue (q : Nat) (i : Item) (s : State) : State :=
  let k := queue q s
  let s := putQueue q { k with items := k.items ++ [i] } s
  if k.items.isEmpty then signalQueue q s else s

/-- The head item of queue `q` holds an uncorrectable error: the unit that would take it reads it once, and not again (R165, R177). -/
def meetBad (q : Nat) (s : State) : State :=
  let k := queue q s
  match k.items with
  | [] => s
  | i :: rest =>
    if i.met then s
    else raiseCells (badCells i 0 i.bytes.length) (putQueue q { k with items := { i with met := true } :: rest } s)

/-- Move closed head items of `q` to its local subscriber as far as they are admitted, and on along a chain of
subscribers (R177); queues without a subscriber answer their held pops (R178). -/
def flow : Nat → Nat → State → State
  | 0, _, s => s
  | fuel + 1, q, s =>
    let k := queue q s
    let free := releasePops q k.held.length
    match localSub q s with
    | none => free s
    | some d =>
      if sending q s then s else
      match k.pend, k.items with
      | none, i :: rest =>
        if itemBad i then free (meetBad q s)
        else if moveAdmits q d (itemCells i) s then
          let s := putQueue q { k with items := rest } s
          let s := enqueue d { i with ref := false, pos := 0 } s
          flow fuel d (flow fuel q s)
        else if i.ref then free s
        else free (putQueue q { k with items := { i with ref := true } :: rest }
          (wb (qReg d 0x14) 0 true (bump (qReg d 0x1C) 1 (bump (inkReg 0x044) 1 s))))
      | _, _ => s

/-- Close an item into queue `q` and let it flow on (R164, R177, R178). -/
def closeItem (q : Nat) (i : Item) (s : State) : State := flow 8 q (enqueue q i s)

/-- Put a whole item into queue `q` if its cells are admitted; a refusal is counted (R167). -/
def putItem (q : Nat) (i : Item) (s : State) : Bool × State :=
  if admits q (itemCells i) s then (true, closeItem q i s) else (false, countRefusal q s)

/-- The producer of queue `q` adds one byte to its open item, opening it if needed: a new cell is asked for when the last
one is full. False where the cell is refused. -/
def prodByte (q : Nat) (b : Byte) (user : Word) (s : State) : Bool × State :=
  let k := queue q s
  let i := k.prod.getD { bytes := [], user := user }
  if i.bytes.length % 64 ≠ 0 || admits q 1 s then
    (true, putQueue q { k with prod := some { i with bytes := i.bytes ++ [b] } } s)
  else (false, countRefusal q s)

/-- Close the producer's open item, with a user word and the truncated flag. -/
def prodClose (q : Nat) (user : Word) (trunc : Bool) (s : State) : State :=
  let k := queue q s
  match k.prod with
  | none => s
  | some i => closeItem q { i with user := user, trunc := i.trunc || trunc } (putQueue q { k with prod := none } s)

/-- Free the head item of a transmit queue once it has been used (R206). -/
def freeHead (q : Nat) (s : State) : State :=
  let k := queue q s
  if k.items.isEmpty then s else headGone q (putQueue q { k with items := k.items.drop 1 } s)

/-- Raise source `n`, for which the spec states no information word: it is a free value. -/
def raiseFree (n : Nat) (s : State) : State :=
  let (w, s) := fresh s
  raise n w s
end Sys2Proof.Machine
end

