-- ==== Sys2Proof/Machine/Can.lean ====
section
/-! DEFINITION. The CAN FD controllers (chapter 9): the enable check, submissions and TX objects, reception, error
confinement, fall-back with its schedule matrix, and the unit reset. -/
namespace Sys2Proof.Machine
open Sys2Proof

def can (k : Nat) (s : State) : CanSt := tget (fun _ => {}) s.cans k
def setCan (k : Nat) (v : CanSt) (s : State) : State := { s with cans := tset (fun _ => {}) s.cans k v }

def canEn (k : Nat) (s : State) : Bool := rb s (canReg k 0) 0
def canMode (k : Nat) (s : State) : Nat := rf s (canReg k 0) 3 2
abbrev canStat (k : Nat) : Nat := canReg k 0x04
def canFb (k : Nat) (s : State) : Bool := rb s (canStat k) 30
def canObj (i o : Nat) : Nat := 0x800 + 0x10 * i + o
def canState (k : Nat) (s : State) : Nat := rf s (canReg k 0x24) 31 30

/-- Set a CAN_EVT bit, with its notice (R355). -/
def canEvt (k i : Nat) (s : State) : State :=
  unitEvent (canReg k 0x0C) (canReg k 0x10) i 14 k (rd s (canReg k 0x24)) s

/-- Enabled, not held by RUN = 0, CANCLK present (R327, R349). -/
def canLive (k : Nat) (s : State) : Bool := canEn k s && rb s hubCtl 0 && s.hub.canClk != 0

/-- The controller takes part in bus traffic: integrated, not in bus-off (R326, R340). -/
def canJoined (k : Nat) (s : State) : Bool := canLive k s && !rb s (canStat k) 25 && canState k s != 2

/-- Restricted by node safe state (R327, R348). -/
def canSafeR (k : Nat) (s : State) : Bool := (can k s).safeR && !(canFb k s && rb s (canReg k 0x3C) 31)

/-- May start a frame of its own (R325, R327). -/
def canMaySend (k : Nat) (s : State) : Bool :=
  canJoined k s && (canMode k s == 0 || canMode k s == 3) && !canSafeR k s

/-- Restricted operation is in force, by OPMODE or node safe state (R325, R327, R358). -/
def canRestr (k : Nat) (s : State) : Bool := canMode k s == 1 || canSafeR k s

/-- The controller acknowledges frames of others: normal mode and restricted operation (R325). -/
def canAcks (k : Nat) (s : State) : Bool := canMode k s == 0 || canMode k s == 1

/-- The controller drives CAN_TXD with frames and error flags: normal mode, not restricted (R322, R325). -/
def canDrives (k : Nat) (s : State) : Bool := canMode k s == 0 && !canSafeR k s

/-- Drive something on CAN_TXD. -/
def canPut (k : Nat) (o : CanOut) (s : State) : State := setCan k { can k s with line := (can k s).line ++ [o] } s

/-- The levels of CAN_TXD, high for recessive (R322). -/
def CanOut.levels : CanOut → List Bool
  | .frame _ l _ => l
  | .ack => [false]
  | .error a => flagLevels a
  | .overload => flagLevels true

/-- The CAN clock period at which a bit of a frame's data phase is checked: the secondary sample point with TDCEN = 1, else the
ordinary sample point (R323, R324). -/
def canCheckAt (k : Nat) (s : State) : Nat :=
  let t := canReg k 0x1C
  if rb s t 31 then rf s t 6 0 + rf s t 22 16
  else (rf s (canReg k 0x18) 4 0 + 1) * (2 + rf s (canReg k 0x18) 20 16)

/-! ## Frames and records (R328, R329) -/

/-- Data length of a frame with words 0 and 1 (R328). -/
def canLen (w0 w1 : Word) : Nat :=
  let d := fld w1 23 20
  if bit w0 30 then 0
  else if d ≤ 8 then d
  else if !bit w0 29 then 8
  else match d with
    | 9 => 12 | 10 => 16 | 11 => 20 | 12 => 24 | 13 => 32 | 14 => 48 | _ => 64

/-- The bits of word 1 a record of a kind takes from its frame (R328): BRS and DLC; ESI where the frame was received or sent; HPSPILL
and RESTR in an RX record; POISON in a RETURN record; a REJECT record has the item's header but POISON (log entry 39). -/
def canRecMask : Nat → Word
  | 0 => 0x0FF00000#32
  | 1 => 0x0CF00000#32
  | 3 => 0x08F10000#32
  | 4 => 0x0FFE7F00#32
  | _ => 0x08F00000#32

/-- A record of a kind for an object: header words and data (R328). -/
def canRec (kind obj : Nat) (w0 w1 ts w3 : Word) (data : List Byte) : List Byte :=
  let h := (w1 &&& canRecMask kind) ||| w32 (kind * 0x10000000 + 0x8000 + obj)
  wordBytes w0 ++ wordBytes h ++ wordBytes ts ++ wordBytes w3 ++ data

/-- Put a record into the staging area; at a full one it is discarded, as an RX overflow (R337). -/
def canStage (k kind obj : Nat) (r : List Byte) (s : State) : State :=
  let c := can k s
  if 4 ≤ c.stage.length then
    canEvt k 8 (bump (canReg k 0x8C) 1 (rxOverflow (513 + 2 * k) r.length s))
  else setCan k { c with stage := c.stage ++ [(w32 (256 * kind + obj), r)] } s

/-- A staged record is written to the log once its cells are admitted (R337). -/
def canAdmit (k : Nat) (s : State) : State :=
  let c := can k s
  match c.stage with
  | [] => s
  | (u, r) :: t =>
    match putItem (513 + 2 * k) { bytes := r, user := u } s with
    | (true, s) => setCan k { can k s with stage := t } s
    | (false, s) => s

/-- Staged records enter the log, oldest first, while their cells are admitted (R337). -/
def canAdmitN (k : Nat) : Nat → State → State
  | 0, s => s
  | n + 1, s => canAdmitN k n (canAdmit k s)

/-! ## Objects (R330–R335) -/

def objType (k i : Nat) (s : State) : Nat := rf s (canReg k (canObj i 0)) 1 0
def objFree (k i : Nat) (s : State) : Bool := !rb s (canReg k (canObj i 0xC)) 31 && !rb s (canReg k (canObj i 0xC)) 30

def objFrame (k i : Nat) (s : State) : CanFrame := tget (fun _ => {}) (can k s).objs i

/-- The object holds no frame any more. -/
def objClear (k i : Nat) (s : State) : State :=
  let c := can k s
  let s := setCan k { c with objs := tset (fun _ => {}) c.objs i {}, chosen := c.chosen.erase i } s
  let s := wr (canReg k (canObj i 0xC)) 0 s
  wb (canReg k (0x40 + 4 * (i / 32))) (i % 32) false s

/-- A frame removed by cancel (R334). -/
def objCancel (k i : Nat) (s : State) : State :=
  let f := objFrame k i s
  let r := canRec 2 i f.w0 f.w1 (loW (tb0 s)) f.user []
  bump (canReg k 0xA4) 1 (canStage k 2 i r (objClear k i s))

/-- Format tests of a submission (R332), without object and size. -/
def canBadFormat (k : Nat) (w0 w1 : Word) (s : State) : Bool :=
  let fdf := bit w0 29
  let brs := bit w1 27
  (fdf && !rb s (canReg k 0x20) 31) || (brs && (!fdf || !rb s (canReg k 0x20) 30)) || (bit w0 30 && fdf) ||
    (!bit w0 31 && 0x7FF < fld w0 28 0)

/-- The lowest-numbered free TX object. -/
def objFirstFree (k : Nat) (s : State) : Option Nat :=
  (List.range 128).find? (fun i => objType k i s == 1 && objFree k i s)

/-- The head submission of Q(512 + 2k) is taken (R331, R332). -/
def canTake (k : Nat) (s : State) : State :=
  let q := 512 + 2 * k
  if !canLive k s || canFb k s then s
  else
    let kq := queue q s
    match kq.pend, kq.items with
    | none, i :: _ =>
      if itemBad i then meetBad q s
      else
        let w0 := wordAt i.bytes 0
        let w1 := wordAt i.bytes 4
        let obj := fld w1 7 0
        let bad := (obj ≠ 255 && (128 ≤ obj || objType k obj s ≠ 1)) || canBadFormat k w0 w1 s ||
          i.bytes.length ≠ 16 + canLen w0 w1
        if bad then
          let r := canRec 4 obj w0 w1 (loW (tb0 s)) (wordAt i.bytes 12) ((i.bytes.drop 16).take 64)
          canEvt k 7 (bump (canReg k 0xA8) 1 (canStage k 4 obj r (freeHead q s)))
        else
          let tgt := if obj = 255 then objFirstFree k s else if objFree k obj s then some obj else none
          match tgt with
          | none => s
          | some o =>
            let c := can k s
            let f : CanFrame := ⟨w0, w1, wordAt i.bytes 12, i.bytes.drop 16⟩
            let s := setCan k { c with objs := tset (fun _ => {}) c.objs o f } s
            wr (canReg k (canObj o 0xC)) (if bit w1 19 then 0x40000000 else 0x80000000) (freeHead q s)
    | _, _ => s

/-- The arbitration field as a number: the smallest wins (R333). -/
def arbKey (w0 : Word) : Nat :=
  let id := fld w0 28 0
  let rtr := b2n (bit w0 30)
  if bit w0 31 then (id / 2 ^ 18) * 2 ^ 21 + 2 ^ 20 + 2 ^ 19 + (id % 2 ^ 18) * 2 + rtr
  else (id % 2048) * 2 ^ 21 + rtr * 2 ^ 20

/-- The pending object that would win: smallest arbitration field, then lowest number. A poisoned one is never sent (R354). -/
def canWinner (k : Nat) (s : State) : List Nat → Option Nat → Option Nat
  | [], b => b
  | i :: t, b =>
    let st := rd s (canReg k (canObj i 0xC))
    if bit st 31 && !bit st 28 then
      match b with
      | none => canWinner k s t (some i)
      | some j => canWinner k s t (if arbKey (objFrame k i s).w0 < arbKey (objFrame k j s).w0 then some i else b)
    else canWinner k s t b

/-- A fall-back entry as a frame (R356). -/
def fbEntry (k e : Nat) (s : State) : CanFrame :=
  let a (i : Nat) : Word := rd s (canReg k (0x300 + 0x50 * e + 4 * i))
  let d := (List.range 16).flatMap (fun i => wordBytes (a (4 + i)))
  ⟨a 0, a 1, a 3, d.take (canLen (a 0) (a 1))⟩

def slotReg (k n : Nat) : Nat := canReg k (0x200 + 4 * n)

/-- A frame starts on the bus; its start-of-frame bit is dominant, but in internal loopback (R322, R325). -/
def canBegin (k : Nat) (b : CanBus) (s : State) : State :=
  setCan k { can k s with bus := some b, sof := tb0 s, txd := canMode k s != 0 } (wb (canStat k) 24 true s)

/-- A slot's frame has not started within LATE µs of the slot start (R346). -/
def slotLate (k t : Nat) (s : State) : Bool := t + 1000 * rf s (canReg k 0x3C) 15 0 < s.hub.now

/-- The first waiting slot starts; those already late are skipped and counted (R346). -/
def canSlotNext (k : Nat) : List (Nat × Nat) → State → State
  | [], s => setCan k { can k s with slots := [] } s
  | (n, t) :: l, s =>
    if slotLate k t s then canSlotNext k l (bump (canReg k 0xB0) 1 s)
    else canBegin k (.slot n) (setCan k { can k s with slots := l } s)

/-- The bus is not free for a frame of this controller: its own is on it, or it receives one. -/
def canBusy (k : Nat) (s : State) : Bool := (can k s).bus.isSome || rb s (canStat k) 23

/-- At arbitration, the pending object that would win is offered; in fall-back, the first waiting slot (R333, R346). -/
def canAttempt (k : Nat) (s : State) : State :=
  if !canMaySend k s || canBusy k s then s
  else if canFb k s then canSlotNext k (can k s).slots s
  else match canWinner k s (List.range 128) none with
    | none => s
    | some i => canBegin k (.obj i) (wb (canReg k (canObj i 0xC)) 29 true s)

/-! ## Error confinement (R339–R341) -/

/-- Put TEC and REC: warning, error passive and bus-off follow (R339, R340). -/
def canErr (k tec rec_ : Nat) (s : State) : State :=
  let r := canReg k 0x24
  let t0 := rf s r 8 0
  let r0 := rf s r 19 12
  let rc := min rec_ 255
  let was := canState k s
  let now := if 255 < tec then 2 else if 128 ≤ tec || 128 ≤ rc then 1 else 0
  let s := wf r 31 30 now (wf r 8 0 (min tec 511) (wf r 19 12 rc s))
  let s := if (t0 < 96 && 96 ≤ tec) || (r0 < 96 && 96 ≤ rc) then canEvt k 10 s else s
  if now = 2 then
    let s := wr (canReg k 0x28) (loW (tb0 s)) (wr (canReg k 0x2C) (hiW (tb0 s)) (wf r 29 22 0 s))
    raise 146 (w32 (k % 16 + 16 * min tec 511)) (canEvt k 0 (bump (canReg k 0x9C) 1 s))
  else if now = 1 && was = 0 then canEvt k 2 s else s

def canTec (k : Nat) (s : State) : Nat := rf s (canReg k 0x24) 8 0
def canRecC (k : Nat) (s : State) : Nat := rf s (canReg k 0x24) 19 12

/-- The error counters count in this mode (R325). -/
def canCounts (k : Nat) (s : State) : Bool := (canMode k s == 0 || canMode k s == 3) && !canSafeR k s

/-- Bus integration: 11 recessive bits are awaited (R326). -/
def canIntegrate (k : Nat) (s : State) : State :=
  let s := setCan k { can k s with bus := none, txd := true } s
  wb (canStat k) 24 false (wb (canStat k) 23 false (wb (canStat k) 25 true s))

/-- No object has its frame on the bus. -/
def objOffBus (k : Nat) (s : State) : State :=
  match (can k s).bus with
  | some (.obj i) => wb (canReg k (canObj i 0xC)) 29 false s
  | _ => s

/-- TEC = REC = 0 and integration (R326, R327, R349). -/
def canRejoin (k : Nat) (s : State) : State :=
  canIntegrate k (wr (canReg k 0x24) 0 (objOffBus k s))

/-- The end of the frame under way on the bus: a restriction by safe state that waited for it begins (R327). -/
def canFrameEnd (k : Nat) (s : State) : State :=
  let c := can k s
  wb (canStat k) 23 false (setCan k { c with safeR := c.safeR || c.safeW, safeW := false } s)

/-- A frame of its own is off the bus. -/
def canOffBus (k : Nat) (s : State) : State :=
  let s := objOffBus k s
  wb (canStat k) 24 false (setCan k { can k s with bus := none, txd := true } s)

/-- The frame on the bus as sent: ESI shows error passive in a CAN FD frame (R339). -/
def canAsSent (k : Nat) (b : CanBus) (s : State) : CanFrame :=
  let f := match b with | .obj i => objFrame k i s | .slot n => fbEntry k (rf s (slotReg k n) 27 24) s
  { f with w1 := setBit f.w1 26 (bit f.w0 29 && canState k s == 1) }

/-- The first `n` bits of a frame of its own on CAN_TXD; none in internal loopback (R325). -/
def canSentBits (k n : Nat) (f : CanFrame) (s : State) : State :=
  if canMode k s == 0 then canPut k (.frame f ((canBits f.w0 f.w1 f.data).take n) (canCheckAt k s)) s else s

/-- After a failed attempt an object's frame waits for the next, or is removed by a cancel requested meanwhile; a fall-back slot is
counted (R333, R334, R346). -/
def canFailed (k : Nat) (b : CanBus) (s : State) : State :=
  match b with
  | .slot _ => bump (canReg k 0xB0) 1 s
  | .obj i =>
    let t := rf s (canReg k (canObj i 0xC)) 15 0
    let s := wf (canReg k (canObj i 0xC)) 15 0 (min 65535 (t + 1)) s
    if rb s (canReg k (0x40 + 4 * (i / 32))) (i % 32) then objCancel k i s else s

/-- The frame on the bus is ended at once, after a number of bits the spec leaves to the moment: a free value (R351, log entry 40). -/
def canCutBus (k : Nat) (s : State) : State :=
  match (can k s).bus with
  | none => s
  | some b =>
    let f := canAsSent k b s
    let (w, s) := fresh s
    canOffBus k (canSentBits k (w.toNat % ((canBits f.w0 f.w1 f.data).length + 1)) f s)

/-- The frame on the bus is ended from inside the hub: RUN = 0 or CANCLK loss (R327, R349). It is a failed attempt that no error counter counts (log entry 40). -/
def canBreak (k : Nat) (s : State) : State :=
  match (can k s).bus with
  | none => canFrameEnd k s
  | some b => canFailed k b (canFrameEnd k (canCutBus k s))

/-! ## Reception (R336–R338) -/

/-- A filter word and mask match a frame. -/
def canMatch (id mask w0 : Word) : Bool := (id ^^^ w0) &&& mask &&& 0xDFFFFFFF#32 == 0#32

def hpMatch (k : Nat) (w0 : Word) (s : State) : Bool :=
  (List.range 4).any (fun f => rb s (canReg k (0x108 + 16 * f)) 0 &&
    canMatch (rd s (canReg k (0x100 + 16 * f))) (rd s (canReg k (0x104 + 16 * f))) w0)

def rxMatch (k : Nat) (w0 : Word) (s : State) : Option Nat :=
  (List.range 128).find? (fun i => objType k i s == 2 &&
    canMatch (rd s (canReg k (canObj i 4))) (rd s (canReg k (canObj i 8))) w0)

/-- A frame received without error, or a frame of its own in loopback, is stored, logged or counted (R336, R338). -/
def canStore (k : Nat) (f : CanFrame) (sof : DWord) (s : State) : State :=
  let hp := hpMatch k f.w0 s
  let room := (can k s).hp.length < 8
  let base := (f.w1 &&& 0x0CF00000#32) ||| (if canRestr k s then 0x01000000#32 else 0#32)
  let rec_ (spill : Bool) (obj : Nat) : List Byte :=
    canRec 0 obj f.w0 (base ||| (if spill then 0x02000000#32 else 0#32)) (loW sof) (hiW sof) f.data
  if hp && room then
    let c := can k s
    let s := setCan k { c with hp := c.hp ++ [rec_ false 255] } (bump (canReg k 0x80) 1 s)
    notify 15 1 k (f.w0 &&& 0x9FFFFFFF#32) s
  else
    let s := if hp then canEvt k 9 (bump (canReg k 0xA0) 1 s) else s
    let log (o : Nat) : State := canStage k 0 o (rec_ hp o) (bump (canReg k 0x80) 1 s)
    if canFb k s then log 255
    else match rxMatch k f.w0 s with
      | some i => log i
      | none => if rb s (canReg k 0x20) 27 then log 255 else bump (canReg k 0x88) 1 s

/-- An error flag, where the controller sends one: active while error active, else passive (R325, R339). -/
def canFlag (k : Nat) (s : State) : State := if canDrives k s then canPut k (.error (canState k s == 0)) s else s

/-- Answers to `n` overload frames after a frame (R321). -/
def canOverload (k n : Nat) (s : State) : State :=
  if canDrives k s then setCan k { can k s with line := (can k s).line ++ List.replicate n .overload } s else s

/-- A receive error: a protocol exception with PXE = 1 ends reception and integrates again; else an error flag, and REC and
CAN_CNT_RXERR change (R336, R339). `steps` is how many times ISO 11898-1 adds a further 8: at a dominant bit after the flag, a bit
error in the flag, and each 8 dominant bits more. -/
def canRxError (k : Nat) (pxe : Bool) (steps : Nat) (s : State) : State :=
  if !canJoined k s then s
  else if pxe && rb s (canReg k 0x20) 28 then canIntegrate k (canFrameEnd k (objOffBus k s))
  else
    let s := canFlag k (bump (canReg k 0x98) 1 s)
    canFrameEnd k (if canCounts k s then canErr k (canTec k s) (canRecC k s + 1 + 8 * steps) s else s)

/-- A frame received without error (R336): words 0 and 1 as on the bus, the data, TB0 at its start; it is acknowledged where the mode
says so (R325), and `ovl` overload frames that follow are answered. ISO 11898-1 leaves REC between 119 and 127 after a frame received
with REC above 127: a free value. -/
def canReceive (k : Nat) (w0 w1 : Word) (data : List Byte) (sof : DWord) (ovl : Nat) (s : State) : State :=
  if !canJoined k s then s
  else if bit w0 29 && !rb s (canReg k 0x20) 31 then canRxError k true 0 s
  else
    let s := if canAcks k s then canPut k .ack s else s
    let s := if canCounts k s then
        let r := canRecC k s
        let (w, s) := fresh s
        canErr k (canTec k s) (if 127 < r then 119 + w.toNat % 9 else r - 1) s
      else s
    canOverload k ovl (canFrameEnd k (canStore k ⟨w0, w1, 0, data.take (canLen w0 w1)⟩ sof s))

/-! ## Outcome of a frame sent (R324, R330, R333, R334, R346) -/

/-- The loop delay measured in a frame with BRS = 1 (R324). -/
def canDelay (k delay : Nat) (f : CanFrame) (s : State) : State :=
  if rb s (canReg k 0x1C) 31 && bit f.w0 29 && bit f.w1 27 then wf (canReg k 0x1C) 6 0 (min delay 127) s else s

/-- A frame has been sent successfully, and `ovl` overload frames after it are answered. In internal loopback it reaches the
controller's own receiver only (R325). -/
def canSuccess (k delay ovl : Nat) (s : State) : State :=
  let c := can k s
  match c.bus with
  | none => s
  | some b =>
    let f := canAsSent k b s
    let s := canDelay k delay f (bump (canReg k 0x84) 1 s)
    let s := canOverload k ovl (canSentBits k (canBits f.w0 f.w1 f.data).length f s)
    let s := if canCounts k s then canErr k (canTec k s - 1) (canRecC k s) s else s
    let s := canFrameEnd k (canOffBus k (if canMode k s = 3 then canStore k f c.sof s else s))
    match b with
    | .slot _ => bump (canReg k 0xAC) 1 s
    | .obj i =>
      let s := objClear k i s
      if bit f.w1 18 then canStage k 1 i (canRec 1 i f.w0 f.w1 (loW c.sof) f.user []) s else s

/-- An attempt failed after `n` bits: lost arbitration, after which the controller receives the frame that won; or an error, with its
flag, that raises TEC by 8 unless ISO 11898-1 exempts it, and by 8 more `steps` times (R333, R339). `delay` is the loop delay where
the frame came as far as its measurement (R324). -/
def canFail (k n : Nat) (arb exempt : Bool) (steps : Nat) (delay : Option Nat) (s : State) : State :=
  match (can k s).bus with
  | none => s
  | some b =>
    let f := canAsSent k b s
    let s := canSentBits k n f (match delay with | some d => canDelay k d f s | none => s)
    if arb then canFailed k b (wb (canStat k) 23 true (bump (canReg k 0x90) 1 (canOffBus k s)))
    else
      let s := canFlag k (bump (canReg k 0x94) 1 s)
      let up := (if exempt then 0 else 8) + 8 * steps
      let s := if canCounts k s && up ≠ 0 then canErr k (canTec k s + up) (canRecC k s) s else s
      canFailed k b (canFrameEnd k (canOffBus k s))

/-- Cancel requests for the objects of one CAN_TXCANw (R334). -/
def canCancelBits (k w : Nat) (v : Word) : List Nat → State → State
  | [], s => s
  | b :: t, s =>
    let i := 32 * w + b
    if !bit v b || objType k i s ≠ 1 || objFree k i s then canCancelBits k w v t s
    else if (can k s).bus = some (.obj i) then canCancelBits k w v t (wb (canReg k (0x40 + 4 * w)) b true s)
    else canCancelBits k w v t (objCancel k i s)

def canTxcan (k w : Nat) (v : Word) (s : State) : State := canCancelBits k w v (List.range 32) s

/-- A run of 11 recessive bits in bus-off: it is counted, and the 128th ends bus-off (R341). -/
def canRun11 (k : Nat) (s : State) : State :=
  let n := rf s (canReg k 0x24) 29 22 + 1
  if 128 ≤ n then canEvt k 1 (wr (canReg k 0x24) 0 s) else wf (canReg k 0x24) 29 22 n s

/-- 11 recessive bits in a row (R326, R341): integration is complete; in bus-off the run is counted. -/
def canIntegrated (k : Nat) (s : State) : State :=
  if !canLive k s then s
  else if canState k s = 2 then canRun11 k s
  else wb (canStat k) 25 false s

/-- A run of 11 recessive bits in bus-off, the one that ends it where 127 came before; without them it is counted as any other, since
nothing skips the recovery (R341). -/
def canRecover (k : Nat) (s : State) : State := if canLive k s && canState k s = 2 then canRun11 k s else s

/-! ## Fall-back (R343–R348) -/

/-- Enter fall-back, or raise its cause (R344). -/
def canFallback (k cause : Nat) (s : State) : State :=
  if !canEn k s then s
  else if canFb k s then
    if rf s (canStat k) 29 28 < cause then wf (canStat k) 29 28 cause s else s
  else
    let s := setCan k { can k s with slots := [] } s
    canEvt k 3 (wb (canStat k) 30 true (wf (canStat k) 29 28 cause s))

/-- Leave fall-back where the cause permits (R347). -/
def canLeave (k : Nat) (s : State) : State :=
  let c := rf s (canStat k) 29 28
  if canFb k s && (c = 1 || (c = 2 && (can k s).kicked)) then
    let s := setCan k { can k s with slots := [] } s
    canEvt k 4 (wb (canStat k) 30 false (wf (canStat k) 29 28 0 s))
  else s

/-- The watchdog's time starts anew. -/
def canWdogStart (k : Nat) (s : State) : State := setCan k { can k s with wdogAt := s.hub.now } s

/-- TIME ms have passed since the watchdog started or was kicked; a TIME above 1000 is 1000 (R345, R360). -/
def wdogDue (k : Nat) (s : State) : Bool :=
  (can k s).wdogAt + 1000000 * min 1000 (rf s (canReg k 0x30) 15 0) ≤ s.hub.now

/-- The watchdog expires; its time runs on from there (R345). -/
def canWatchdog (k : Nat) (s : State) : State :=
  if canEn k s && rb s (canReg k 0x30) 31 && wdogDue k s then
    let s := canWdogStart k (setCan k { can k s with kicked := false } s)
    raise 147 (w32 (k % 16)) (canFallback k 2 (bump (canReg k 0xB4) 1 s))
  else s

/-- A host holds the session lease of controller `k` (R345, R479). -/
def canLeased (k : Nat) (s : State) : Bool :=
  s.roles.leases.any (fun l => l.res == w32 (0x04000000 + 65536 * ownNode s + k) && tb0 s < l.expiry)

/-- A kick, effective only from pair M, which kicks while it runs firmware and, with LEASE = 1, only while a host holds the session
lease (R345). -/
def canKick (k : Nat) (o : Origin) (s : State) : State :=
  if o = .pairM && rb s hubStatus 1 && (!rb s (canReg k 0x30) 30 || canLeased k s) then canWdogStart k (setCan k { can k s with kicked := true } s) else s

/-- TB0 is at the start of a slot of the schedule matrix (R343). -/
def slotAt (k sl : Nat) (s : State) : Bool :=
  let cyc := rf s (canReg k 0x34) 23 0
  let at_ := (rd s (canReg k 0x38)).toNat + sl / 8 * cyc + rf s (slotReg k sl) 23 0
  let period := 8 * cyc * 1000
  (tb0 s).toNat % period == 1000 * at_ % period

/-- A lower-numbered slot of the same basic cycle has the same start, and goes first (R346). -/
def slotTwin (k sl : Nat) (s : State) : Bool :=
  (List.range (sl % 8)).any (fun i => rb s (slotReg k (8 * (sl / 8) + i)) 31 &&
    rf s (slotReg k (8 * (sl / 8) + i)) 23 0 == rf s (slotReg k sl) 23 0)

/-- Waiting slots in order of start, then of number (R346). -/
def slotInsert (n t : Nat) : List (Nat × Nat) → List (Nat × Nat)
  | [] => [(n, t)]
  | (m, u) :: l => if u = t && n < m then (n, t) :: (m, u) :: l else (m, u) :: slotInsert n t l

/-- A slot start of the schedule matrix (R343, R346). -/
def canSlotStart (k c n : Nat) (s : State) : State :=
  let sl := 8 * (c % 8) + n % 8
  let st := can k s
  if !canLive k s || !canFb k s || !rb s (canReg k 0x34) 31 || !rb s (slotReg k sl) 31 || !slotAt k sl s ||
    st.slots.contains (sl, s.hub.now) || st.bus == some (.slot sl) then s
  else if canMode k s = 1 || canMode k s = 2 || canSafeR k s || canState k s = 2 then bump (canReg k 0xB0) 1 s
  else if !canBusy k s && st.slots.isEmpty && !slotTwin k sl s && canMaySend k s then canBegin k (.slot sl) s
  else setCan k { st with slots := slotInsert sl s.hub.now st.slots } s

/-- A slot frame not started within LATE µs (R346). -/
def canSlotLate (k c n : Nat) (s : State) : State :=
  let sl := 8 * (c % 8) + n % 8
  let st := can k s
  if st.slots.any (fun x => x.1 == sl && slotLate k x.2 s) then
    bump (canReg k 0xB0) 1 (setCan k { st with slots := st.slots.eraseP (fun x => x.1 == sl && slotLate k x.2 s) } s)
  else s

/-! ## Stroke, clock, safe state (R327, R335, R342, R349) -/

/-- Objects held at the cutoff (R335). -/
def canCutoff (k : Nat) (s : State) : State :=
  if canLive k s then
    setCan k { can k s with chosen := (List.range 128).filter (fun i => rb s (canReg k (canObj i 0xC)) 30) } s
  else s

def objsPend (k : Nat) : List Nat → State → State
  | [], s => s
  | i :: t, s =>
    let r := canReg k (canObj i 0xC)
    objsPend k t (if rb s r 30 then wb r 31 true (wb r 30 false s) else s)

/-- The instant: the objects chosen at the cutoff become pending (R335). -/
def canInstant (k : Nat) (s : State) : State :=
  let c := can k s
  if c.chosen.isEmpty then s else objsPend k c.chosen (setCan k { c with chosen := [] } s)

def overCans (f : Nat → State → State) : List Nat → State → State
  | [], s => s
  | k :: t, s => overCans f t (f k s)

/-- CANCLK is lost (R349). -/
def canClkLoss (s : State) : State :=
  if s.hub.canClk = 0 then s
  else
    let s := { s with hub := { s.hub with canClk := 0 } }
    let f (k : Nat) (s : State) : State :=
      if canEn k s then canEvt k 6 (canBreak k s) else s
    raise 148 0 (overCans f (List.range 16) s)

/-- CANCLK is back in tolerance for 1 ms, at `mhz` (R349). -/
def canClkBack (mhz : Nat) (s : State) : State :=
  let s := { s with hub := { s.hub with canClk := if mhz = 40 then 40 else 80 } }
  overCans (fun k s => if canEn k s then canRejoin k s else s) (List.range 16) s

/-- Node safe state begins: restricted operation at the end of the frame under way (R327). -/
def canSafe (k : Nat) (s : State) : State :=
  let c := can k s
  if !canEn k s then s
  else if canBusy k s && !(canFb k s && rb s (canReg k 0x3C) 31) then setCan k { c with safeW := true } s
  else setCan k { c with safeR := true } s

def canSafeEnd (k : Nat) (s : State) : State :=
  if canEn k s then setCan k { can k s with safeR := false, safeW := false } s else s

/-- HUB_CTL.RUN goes to 0, and returns to 1 (R327). -/
def canHold (k : Nat) (s : State) : State := if canEn k s then canBreak k s else s

/-- RUN is 1 again: integration, with the counters kept; bus-off is left only by its recovery (R327, R341). -/
def canRunAgain (k : Nat) (s : State) : State := if canEn k s && canState k s ≠ 2 then canIntegrate k s else s

/-- CAN_RXD dominant for 256 bit times (R342): `steps` times the error counter of the controller's part on the bus has not yet taken
the 8 that ISO 11898-1 adds for each 8 dominant bits. -/
def canStuck (k : Nat) (tx : Bool) (steps : Nat) (s : State) : State :=
  if !canLive k s then s
  else
    let s := if canJoined k s && canCounts k s && steps ≠ 0 then
        (if tx then canErr k (canTec k s + 8 * steps) (canRecC k s) s else canErr k (canTec k s) (canRecC k s + 8 * steps) s)
      else s
    raise 149 (w32 (k % 16)) (canEvt k 5 s)

/-! ## Enable and unit reset (R323, R350–R353) -/

/-- f_CAN as selected. -/
def canClkSel (k : Nat) (s : State) : Nat := if rb s (canReg k 0x20) 29 then 40 else 80

def nomBad (k : Nat) (s : State) : Bool :=
  let r := canReg k 0x14
  let brp := rf s r 7 0 + 1
  let t1 := rf s r 23 16 + 1
  let t2 := rf s r 15 9 + 1
  t1 < 2 || t2 < 2 || min t1 t2 < rf s r 31 25 + 1 || 1000000 * brp * (1 + t1 + t2) < canClkSel k s * 1000000

def dataBad (k : Nat) (s : State) : Bool :=
  let r := canReg k 0x18
  let n := canReg k 0x14
  let brp := rf s r 4 0 + 1
  let t1 := rf s r 20 16 + 1
  let t2 := rf s r 15 12 + 1
  let qd := brp * (1 + t1 + t2)
  let qn := (rf s n 7 0 + 1) * (3 + rf s n 23 16 + rf s n 15 9)
  rb s (canReg k 0x20) 31 && rb s (canReg k 0x20) 30 &&
    (t1 < 2 || min t1 t2 < rf s r 31 28 + 1 || 1 + t1 + t2 < 5 || 8 * qd < canClkSel k s || qn < qd ||
      (2 * qd < canClkSel k s && !rb s (canReg k 0x1C) 31))

def baseBad (w : Word) : Bool := !bit w 31 && 0x7FF < fld w 28 0

def objBad (k : Nat) (s : State) : Option Nat :=
  (List.range 128).find? (fun i => objType k i s == 3 || (objType k i s == 2 && baseBad (rd s (canReg k (canObj i 4)))))

def hpfBad (k : Nat) (s : State) : Option Nat :=
  (List.range 4).find? (fun f => rb s (canReg k (0x108 + 16 * f)) 0 && baseBad (rd s (canReg k (0x100 + 16 * f))))

/-- Test 0x46: the slot at fault, or 0 for the schedule itself. -/
def schedBad (k : Nat) (s : State) : Option Nat :=
  let cyc := rf s (canReg k 0x34) 23 0
  if !rb s (canReg k 0x34) 31 then none
  else if cyc < 100 || 1000000 < cyc || 8 * cyc ≤ (rd s (canReg k 0x38)).toNat then some 0
  else (List.range 64).find? (fun n => rb s (slotReg k n) 31 && cyc ≤ rf s (slotReg k n) 23 0)

def entryBad (k : Nat) (s : State) : Option Nat :=
  (List.range 16).find? (fun e =>
    (List.range 64).any (fun n => rb s (slotReg k n) 31 && rf s (slotReg k n) 27 24 == e) &&
      canBadFormat k (fbEntry k e s).w0 (fbEntry k e s).w1 s)

/-- The enable check (R353): CAN_REASON, 0 = pass. -/
def canCheck (k : Nat) (s : State) : Word :=
  let at_ (c i : Nat) : Word := reason c i 16
  if rb s (canStat k) 31 then 0x4E
  else if s.hub.canClk ≠ canClkSel k s then 0x42
  else if nomBad k s then 0x40
  else if dataBad k s then 0x41
  else if (subOf (512 + 2 * k) s).1 then 0x43
  else match objBad k s with
  | some i => at_ 0x44 i
  | none => match hpfBad k s with
  | some i => at_ 0x45 i
  | none => match schedBad k s with
  | some i => at_ 0x46 i
  | none => match entryBad k s with
  | some i => at_ 0x47 i
  | none => if rb s (canReg k 0x30) 31 && rf s (canReg k 0x30) 15 0 = 0 then 0x48 else 0

/-- Run the check and, on pass, start bus integration (R326, R353, R452). A node already in safe state restricts the
controller from the start (R327). -/
def canStart (k : Nat) (s : State) : State :=
  let c := canCheck k s
  let s := wr (canReg k 0x08) c s
  if c ≠ 0 then s
  else
    let s := wb (canReg k 0) 0 true s
    let s := setCan k { line := (can k s).line, safeR := rb s hubStatus 4, wdogAt := s.hub.now } s
    canRejoin k (wr (canStat k) 0 s)

/-- RETURN records of the held and pending objects, in ascending order, through the staging area; one refused at a full log is an
overflow (R337, R351, R352). -/
def canReturn (k : Nat) : List Nat → State → State
  | [], s => s
  | i :: t, s =>
    if objFree k i s then canReturn k t s
    else
      let f := objFrame k i s
      let bad := rb s (canReg k (canObj i 0xC)) 28
      let w1 := setBit f.w1 16 bad
      let d := if bad then List.replicate f.data.length 0#8 else f.data
      let r := canRec 3 i f.w0 w1 (loW (tb0 s)) f.user d
      canReturn k t (canAdmitN k 4 (canStage k 3 i r (objClear k i s)))

/-- The staging area is cleared; RETURN records that the full log left in it are overflows too (R351). -/
def canUnstage (k : Nat) : List (Word × List Byte) → State → State
  | [], s => setCan k { can k s with stage := [] } s
  | (u, r) :: t, s =>
    canUnstage k t (if fld u 11 8 = 3 then canEvt k 8 (bump (canReg k 0x8C) 1 (rxOverflow (513 + 2 * k) r.length s)) else s)

/-- The unit reset (R351). -/
def canReset (k : Nat) (s : State) : State :=
  if !canEn k s then s
  else
    let s := canAdmitN k 4 (canCutBus k (unitForget (canReg k 0) [512 + 2 * k, 513 + 2 * k] s))
    let s := canReturn k (List.range 128) s
    let s := canUnstage k (can k s).stage s
    let s := wb (canReg k 0) 0 false (setCan k { line := (can k s).line } s)
    wr (canStat k) (rd s (canStat k) &&& 0x80000000#32) s

def canQuar (k : Nat) (s : State) : State := wb (canStat k) 31 true (canReset k s)

/-- A write of CAN_CTL (R344, R347, R353, R453). -/
def canCtlWrite (k : Nat) (v : Word) (s : State) : State :=
  let acts (s : State) : State :=
    let s := if bit v 5 then canFallback k 1 s else s
    if bit v 6 then canLeave k s else s
  if canEn k s then
    if bit v 0 then acts s else stm (canReg k 0) 0xC#32 v (canReset k s)
  else
    let s := stm (canReg k 0) 0xC#32 v s
    if bit v 0 then acts (canStart k s) else s

/-- A write of CAN_WDOG by `o` (R345, R360). -/
def canWdogWrite (k : Nat) (o : Origin) (v : Word) (s : State) : State :=
  let on := rb s (canReg k 0x30) 31
  let s := stm (canReg k 0x30) 0xC000FFFF#32 v s
  let s := if bit v 31 && !on then canWdogStart k s else s
  if bit v 29 then canKick k o s else s

/-- An uncorrectable error in the message memory: FS144, the object's frame poisoned, fall-back with cause ECC (R344, R348,
R354). `obj` 127 and above names no object. -/
def canMsgError (k obj : Nat) (s : State) : State :=
  let s := if obj < 128 && !objFree k obj s then wb (canReg k (canObj obj 0xC)) 28 true s else s
  canFallback k 3 (raise 144 (w32 (k % 16 + 16 * (if obj < 128 then obj else 0x7F))) s)

/-! ## Reads (R338, R356, R358) -/

/-- Registers of the page that show state: CAN_STATUS, CAN_PENDw, CAN_HPSTAT, a TX object's ID; none = as stored. -/
def canRead (k o : Nat) (s : State) : Option Word :=
  let busy (i : Nat) : Bool := !objFree k i s
  if o = 0x04 then
    let n := ((List.range 128).filter busy).length
    some (setBit (setBit (setFld (rd s (canStat k)) 7 0 n) 27 (canRestr k s)) 26 (s.hub.canClk != 0))
  else if 0x50 ≤ o && o < 0x60 then
    let w := (o - 0x50) / 4
    some (w32 (sumN ((List.range 32).map (fun b => if busy (32 * w + b) then 2 ^ b else 0))))
  else if o = 0x60 then some (w32 (can k s).hp.length)
  else if 0x804 ≤ o && (o - 0x804) % 16 = 0 && objType k ((o - 0x804) / 16) s = 1 then
    some (objFrame k ((o - 0x804) / 16) s).w0
  else none

/-- The oldest high-priority record as read from CAN_HPWIN: 80 bytes (R338). -/
def canHpBytes (k : Nat) (s : State) : List Byte :=
  let r := (can k s).hp.headD []
  r ++ List.replicate (80 - r.length) 0

end Sys2Proof.Machine
end

