-- ==== Sys2Proof/Machine/Pins.lean ====
section
/-! DEFINITION. Pins: claims and releases (R195-R197), bank groups (R198-R200), the level a pin drives (R255-R258), and the
discrete-line detectors (R246-R254). -/
namespace Sys2Proof.Machine
open Sys2Proof

def pin (p : Nat) (s : State) : PinSt := tget (fun _ => {}) s.pins p
def setPin (p : Nat) (v : PinSt) (s : State) : State := { s with pins := tset (fun _ => {}) s.pins p v }

/-- XB_PINp.OWNER: 0 none, 1 nib, 2 quill, 3 discrete output, 4 bridge (R245). -/
def owner (p : Nat) (s : State) : Nat := rf s (xbPin p) 31 28

/-- Claim pin `p` (R195, R245). -/
def claimPin (p own slot idx : Nat) (s : State) : State :=
  wf (xbPin p) 31 28 own (wf (xbPin p) 27 26 slot (wf (xbPin p) 25 16 idx s))

/-- Release pin `p`: it returns to its safe value (R196). -/
def releasePin (p : Nat) (s : State) : State :=
  setPin p { pin p s with oe := false, out := false } (claimPin p 0 0 0 s)

/-- What the owner drives on pin `p`: output enable and level. -/
def drivePin (p : Nat) (oe out : Bool) (s : State) : State := setPin p { pin p s with oe := oe, out := out } s

/-- Bank group of a pin, and the VIO class of a group (R198). -/
def bankClass (g : Nat) (s : State) : Nat := rf s (bankStatus g) 1 0

/-- The level an input of pin `p` delivers to the core side: 0 while its group's VIO is absent (R200). -/
def pinIn (p : Nat) (lvl : Bool) (s : State) : Bool := lvl && bankClass (p / 32) s != 0

/-- Pin `p` is at its safe value (R257). -/
def atSafe (p : Nat) (s : State) : Bool :=
  owner p s == 0 || !rb s hubCtl 0 || rb s hubStatus 4 ||
  (owner p s == 3 && rb s (dReg p 0x0C) 4 && s.stk.applied.isNone)

/-- Output enable and level of pin `p` as the hub drives it (R256, R257). -/
def pinDrive (p : Nat) (s : State) : Bool × Bool :=
  let od := rb s (xbPin p) 0
  if atSafe p s then
    match rf s (dReg p 0x0C) 9 8 with
    | 0 => (true, false)
    | 1 => (!od, true)
    | _ => (false, false)
  else if owner p s == 3 then
    let v := if rb s (dReg p 0x0C) 4 then
        bit (nthD 0 (s.stk.applied.getD []) (p / 32)) (p % 32)
      else rb s (dReg p 0x0C) 0
    (!(od && v), v)
  else ((pin p s).oe, (pin p s).out)

/-- The pin-group tests every claim runs in this order: claimed (0x01), 5 V tolerance (0x03), VIO (0x02) (R199, R255,
R306). `bad18` says that a group at 1.8 V does not suit. -/
def pinClaimed (p : Nat) (s : State) : Bool := owner p s != 0
def pinFiveVt (p : Nat) (s : State) : Bool := rb s (bankCfg (p / 32)) 0 && bankClass (p / 32) s != 3
def pinVioBad (p : Nat) (bad18 : Bool) (s : State) : Bool :=
  bankClass (p / 32) s == 0 || (bad18 && bankClass (p / 32) s == 1)

/-- Some pin of group `g` is claimed. -/
def groupClaimed (g : Nat) (s : State) : Bool := (List.range 32).any (fun i => owner (32 * g + i) s != 0)

/-- The class of a VIO of `mv` mV; outside every window it is absent (R198). -/
def vioClass (mv : Nat) : Nat :=
  if 1620 ≤ mv && mv ≤ 1980 then 1
  else if 2250 ≤ mv && mv ≤ 2750 then 2
  else if 3000 ≤ mv && mv ≤ 3600 then 3
  else 0

/-! ## Discrete lines -/

/-- Close a limiter window: its summary notice if it suppressed events (R252). -/
def stormCut (p : Nat) (s : State) : State :=
  let k := pin p s
  let s := if k.supp = 0 then s else notify 24 0x05 p (w32 k.supp) s
  setPin p { pin p s with evts := 0, supp := 0 } s

/-- An event of pin `p`: its blotter record, and its notice as far as the storm limiter lets it (R252, R253, R507). -/
def discEvent (p code : Nat) (info : Word) (tb : DWord) (s : State) : State :=
  let s := if rb s bltCtl 1 then blot 0x20 0 (w32 (p + code * 4096)) info (hiW (tb0 s)) s else s
  let mx := rf s (dReg p 0x08) 7 0
  let k := pin p s
  if mx = 0 then s
  else if k.evts < mx then notifyAt 24 code p info tb (setPin p { k with evts := k.evts + 1 } s)
  else bump (dReg p 0x18) 1 (setPin p { k with supp := k.supp + 1 } s)

/-- The debounce time of pin `p` in ns (R247). -/
def debounceNs (p : Nat) (s : State) : Nat := rf s (dReg p 0) 7 0 * 4 ^ rf s (dReg p 0) 10 8 * 5

/-- Milliseconds since `since`, saturating (R253). -/
def msSince (since : Nat) (s : State) : Word :=
  let n := (s.hub.now - since) / 1000000
  if n < 4294967296 then w32 n else w32 4294967295

/-- Set CHATTER, with its flag and one event (R251). -/
def setChatter (p : Nat) (info : Word) (s : State) : State :=
  if rb s (dReg p 0x10) 4 then s
  else discEvent p 0x04 info (tb0 s) (wb (dReg p 0x10) 4 true (wb (dReg p 0x10) 6 true s))

/-- F of pin `p` is active (R250). -/
def pinActive (p : Nat) (s : State) : Bool := (pin p s).f != rb s (dReg p 0) 20

/-- F of pin `p` takes level `lvl`, from which S first differed `ns` ns ago, no less than the debounce time (R247): the edge is counted
and may be an event, stamped with that moment less 10 ns (R249, R253), a stuck pin is released (R250), the transition counts for the
chatter detector (R251). -/
def debounceSettle (p : Nat) (lvl : Bool) (ns : Nat) (s : State) : State :=
  let lvl := pinIn p lvl s
  let k := pin p s
  if k.f = lvl || ns < debounceNs p s then s
  else
    let act := lvl != rb s (dReg p 0) 20
    let edge := rf s (dReg p 0) 22 21
    let sel := edge == 2 || (edge == 0 && lvl) || (edge == 1 && !lvl)
    let stamp := tb0Ago ns s - 10#64
    let s := setPin p { k with f := lvl, trans := k.trans + 1, since := if act then s.hub.now else k.since } s
    let s := if sel then
        let s := bump (dReg p 0x14) 1 s
        if rb s (dReg p 0) 23 then discEvent p 0x01 (w32 (b2n lvl)) stamp s else s
      else s
    let s := if !act && rb s (dReg p 0x10) 3 then
        discEvent p 0x03 (msSince k.since s) stamp (wb (dReg p 0x10) 3 false s) else s
    let mx := rf s (dReg p 0x04) 31 24
    if mx ≠ 0 && mx < k.trans + 1 then setChatter p (w32 ((k.trans + 1) % 256)) s else s

/-- F has been active for STUCK ms (R250). -/
def stuckDetect (p : Nat) (s : State) : State :=
  let t := rf s (dReg p 0x04) 15 0
  if t = 0 || !pinActive p s || rb s (dReg p 0x10) 3 then s
  else discEvent p 0x02 (w32 t) (tb0 s) (wb (dReg p 0x10) 3 true (wb (dReg p 0x10) 5 true s))

/-- A short pulse: S returned to F before the debounce count reached N (R251). -/
def shortPulse (p : Nat) (s : State) : State :=
  if rf s (dReg p 0) 7 0 = 0 then s
  else
    let k := pin p s
    setChatter p (w32 (0x80000000 + k.trans % 256)) (setPin p { k with short := true } s)

/-- A chatter window ends (R251). -/
def chatterWindowEnd (p : Nat) (s : State) : State :=
  let k := pin p s
  let mx := rf s (dReg p 0x04) 31 24
  let calm := !k.short && (mx = 0 || k.trans ≤ mx)
  let s := if calm then wb (dReg p 0x10) 4 false s else s
  setPin p { pin p s with trans := 0, short := false } s

/-- A write of XB_DFLTp (EDGE 0b11 leaves EDGE unchanged) restarts the pin's windows (R254, R276). With FILT = 0, F follows S. A write
that changes the active level is no release of a stuck pin (DESIGN CHOICE, log entry 34). -/
def dfltWrite (p : Nat) (v : Word) (s : State) : State :=
  let s := stormCut p s
  let was := pinActive p s
  let s := stm (dReg p 0) (if fld v 22 21 = 3 then 0x9007FF#32 else 0xF007FF#32) v s
  let k := pin p s
  setPin p { k with trans := 0, short := false, since := if pinActive p s && !was then s.hub.now else k.since } s

/-- A write of XB_DDETp restarts the pin's windows (R254). -/
def ddetWrite (p : Nat) (v : Word) (s : State) : State :=
  let s := stormCut p s
  let s := stm (dReg p 0x04) 0xFFFFFFFF#32 v s
  setPin p { pin p s with trans := 0, short := false } s

/-- A write of XB_DLIMp restarts the limiter window only (R254). -/
def dlimWrite (p : Nat) (v : Word) (s : State) : State := stm (dReg p 0x08) 0xFFFF#32 v (stormCut p s)

/-- Without VIO every input of the group delivers 0; the pins with FILT = 0 settle at once (R200, R247). -/
def pinsDark : List Nat → State → State
  | [], s => s
  | p :: t, s => pinsDark t (debounceSettle p false 0 s)

/-- A group's VIO is measured, at `mv` mV (R198); a change of class is noted (R200). -/
def bankClassChange (g mv : Nat) (s : State) : State :=
  let c := vioClass mv
  if bankClass g s = c then s
  else
    let s := wf (bankStatus g) 1 0 c s
    let s := if groupClaimed g s then raise 12 (w32 (g + 16 * c)) (wb (bankEvt g) 0 true s) else s
    if c = 0 then pinsDark (List.range' (32 * g) 32) s else s

/-! ## Discrete outputs (R255–R258) -/

/-- The check of R255: 0 = pass. -/
def doutCheck (p : Nat) (s : State) : Nat :=
  let w := rd s (dReg p 0x0C)
  if pinClaimed p s then 0x01
  else if pinFiveVt p s then 0x03
  else if bankClass (p / 32) s = 0 then 0x02
  else if (bit w 1 && fld w 27 12 = 0) || (bit w 4 && bit w 1) then 0x05
  else 0

/-- A write of SAFE; the reserved value leaves it unchanged (R257). -/
def safeWrite (p : Nat) (v : Word) (s : State) : State :=
  if fld v 9 8 = 3 then s else wf (dReg p 0x0C) 9 8 (fld v 9 8) s

/-- A write of VAL to a claimed output (R256): a pulse output starts, restarts or ends its pulse. -/
def valWrite (p : Nat) (v : Bool) (s : State) : State :=
  let s := wb (dReg p 0x0C) 0 v s
  if rb s (dReg p 0x0C) 1 then wb (dReg p 0x10) 2 v s else s

/-- A pulse ends: the pin goes low, VAL reads 0 (R256). -/
def pulseEnd (p : Nat) (s : State) : State :=
  if rb s (dReg p 0x10) 2 then wb (dReg p 0x10) 2 false (wb (dReg p 0x0C) 0 false s) else s

/-- Release the pin of a discrete output: a running pulse ends (R255). -/
def doutRelease (p : Nat) (s : State) : State := releasePin p (wb (dReg p 0x0C) 31 false (pulseEnd p s))

/-- A write of XB_DOUTp (R255–R257, R278, R453): fields, then the claim or after the release. -/
def doutWrite (p : Nat) (v : Word) (s : State) : State :=
  let fields (s : State) : State := safeWrite p v (stm (dReg p 0x0C) 0x0FFFF012#32 v s)
  if rb s (dReg p 0x0C) 31 then
    if bit v 31 then valWrite p (bit v 0) (safeWrite p v s)
    else
      let pulse := rb s (dReg p 0x10) 2
      wb (dReg p 0x0C) 0 (bit v 0 && !pulse) (fields (doutRelease p s))
  else if bit v 31 then
    let s := wb (dReg p 0x0C) 0 (bit v 0) (fields s)
    let c := doutCheck p s
    let s := wf (dReg p 0x10) 31 24 c s
    if c = 0 then valWrite p (bit v 0) (claimPin p 3 0 p (wb (dReg p 0x0C) 31 true s)) else s
  else wb (dReg p 0x0C) 0 (bit v 0) (fields s)

/-- Every discrete output's running pulse ends at entry to node safe state (R258). -/
def endPulses : List Nat → State → State
  | [], s => s
  | p :: t, s => endPulses t (pulseEnd p s)

end Sys2Proof.Machine
end

