-- ==== Sys2Proof/Machine/Nibs.lean ====
section
/-! DEFINITION. The nibs (chapter 6): their slots, the enable check, and the receive path with its flow control. -/
namespace Sys2Proof.Machine
open Sys2Proof

/-! ## Access -/

def nib (n : Nat) (s : State) : NibSt := tget (fun _ => {}) s.nibs n
def setNib (n : Nat) (v : NibSt) (s : State) : State := { s with nibs := tset (fun _ => {}) s.nibs n v }

def nibEn (n : Nat) (s : State) : Bool := rb s (nibReg n 0) 0
def nibMode (n : Nat) (s : State) : Nat := rf s (nibReg n 0) 7 4
def nibLoop (n : Nat) (s : State) : Bool := rb s (nibReg n 0) 1

/-- Enabled, and not held idle by RUN = 0 or node safe state (R40, R502). -/
def nibRuns (n : Nat) (s : State) : Bool := nibEn n s && dataPath s

/-- Running in mode `m`. -/
def nibIn (n m : Nat) (s : State) : Bool := nibRuns n s && nibMode n s == m

def slotUse (n k : Nat) (s : State) : Bool := rb s (nibReg n (0x20 + 4 * k)) 31
def slotPin (n k : Nat) (s : State) : Nat := rf s (nibReg n (0x20 + 4 * k)) 8 0
def slotInv (n k : Nat) (s : State) : Bool := rb s (nibReg n (0x20 + 4 * k)) 16
def uartHs (n : Nat) (s : State) : Nat := rf s (nibReg n 0x40) 13 12
def syncClk (n : Nat) (s : State) : Nat := rf s (nibReg n 0x50) 11 10
def ctrFunc (n : Nat) (s : State) : Nat := rf s (nibReg n 0x80) 27 24

/-- Set a NIB_EVT bit, with its notice (R233). -/
def nibEvt (n i : Nat) (s : State) : State :=
  unitEvent (nibReg n 0x0C) (nibReg n 0x10) i (4 + n / 32) n (rd s (nibReg n 0x04)) s

/-- Count an error in NIB_CNT_ERRk (R232), which sets RXERR (R239). -/
def nibErr (n k : Nat) (s : State) : State := nibEvt n 0 (bump (nibReg n (0xD8 + 4 * k)) 1 s)

/-! ## Slots (R193, R197) -/

/-- Slot `k` is an output in mode `m` (R193). -/
def slotOut (n k m : Nat) (s : State) : Bool :=
  match m, k with
  | 1, 0 => true
  | 1, 2 => uartHs n s == 1 || uartHs n s == 2
  | 2, 0 => true
  | 2, 2 => syncClk n s == 1
  | 3, 0 | 3, 1 | 3, 3 => true
  | 4, 2 => true
  | 5, 0 | 5, 1 | 6, 0 | 6, 1 => true
  | 7, 2 => true
  | _, _ => false

/-- Slot `k` is open-drain: by its pin, or in the I2C modes (R197). -/
def slotOd (n k : Nat) (s : State) : Bool :=
  rb s (xbPin (slotPin n k s)) 0 || ((nibMode n s == 5 || nibMode n s == 6) && k < 2)

/-- The level at the pin of slot `k`, as the nib reads it: 0 while the group's VIO is absent, then inverted where the slot says so
(R197, R200). -/
def seen (n k : Nat) (lvl : Bool) (s : State) : Bool := pinIn (slotPin n k s) lvl s != slotInv n k s

/-- The input of slot `k` can change: the slot is bound, and its group has its supply (R200). -/
def slotLive (n k : Nat) (s : State) : Bool := slotUse n k s && bankClass (slotPin n k s / 32) s != 0

/-- A byte whose bits come in through slot `k`. -/
def seenByte (n k : Nat) (b : Byte) (s : State) : Byte :=
  BitVec.ofNat 8 (sumN ((List.range 8).map (fun i => if seen n k (bitOf b.toNat i) s then 2 ^ i else 0)))

/-- F of the pin of slot `k`, as the nib reads it (R229). -/
def seenF (n k : Nat) (s : State) : Bool := slotUse n k s && seen n k (pin (slotPin n k s) s).f s

/-- Drive slot `k`, or let it float. -/
def slotDrive (n k : Nat) (oe lvl : Bool) (s : State) : State :=
  if slotUse n k s then
    let v := lvl != slotInv n k s
    drivePin (slotPin n k s) (oe && !(slotOd n k s && v)) v s
  else s

/-- Drive slot `k` off its idle level; in loopback the pins stay idle (R204). -/
def slotAct (n k : Nat) (oe lvl : Bool) (s : State) : State := if nibLoop n s then s else slotDrive n k oe lvl s

/-- Drive every output slot to the idle level of the mode (R195, R202, R213–R221, R229). The spec gives MOSI no idle
level: it is a free value. -/
def nibIdle (n : Nat) (s : State) : State :=
  match nibMode n s with
  | 1 =>
    let s := slotDrive n 0 (uartHs n s != 2) true s
    if uartHs n s = 1 then slotDrive n 2 true false s
    else if uartHs n s = 2 then slotDrive n 2 true false s else s
  | 2 =>
    let s := slotDrive n 0 true true s
    if syncClk n s = 1 then slotDrive n 2 true false s else s
  | 3 =>
    let (w, s) := fresh s
    slotDrive n 3 true true (slotDrive n 1 true (bit w 0) (slotDrive n 0 true (rb s (nibReg n 0x60) 1) s))
  | 4 => slotDrive n 2 false false s
  | 5 | 6 => slotDrive n 1 true true (slotDrive n 0 true true s)
  | 7 => slotDrive n 2 true false s
  | _ => s

/-! ## The enable check (R194, R199, R201, R204, R209, R211, R228) -/

/-- Slot `k` is required in mode `m` (R194), apart from the "S0 or S1" rule. -/
def slotNeeded (n k m : Nat) (s : State) : Bool :=
  match m, k with
  | 1, 2 => uartHs n s == 1 || uartHs n s == 2
  | 1, 3 => uartHs n s == 1
  | 2, 2 => true
  | 2, 3 => syncClk n s == 2
  | 3, 0 => true
  | 4, 0 | 4, 3 => true
  | 5, 0 | 5, 1 | 6, 0 | 6, 1 => true
  | 7, 0 => ctrFunc n s != 4 && ctrFunc n s < 7
  | 7, 1 => ctrFunc n s == 1
  | 7, 2 => ctrFunc n s == 5
  | _, _ => false

/-- One of two slots is required (R194): the pair, by mode. -/
def slotPair (m : Nat) : Option (Nat × Nat) :=
  if m = 1 || m = 2 then some (0, 1) else if m = 3 || m = 4 then some (1, 2) else none

/-- A slot marked "—" in R193. -/
def slotDash (m k : Nat) : Bool := (m == 5 || m == 6) && 2 ≤ k

/-- Test 0x22: the first slot at fault. -/
def slotsBad (n m : Nat) (s : State) : Option Nat :=
  [0, 1, 2, 3].find? (fun k =>
    (slotNeeded n k m s && !slotUse n k s) || (slotDash m k && slotUse n k s) ||
    (match slotPair m with
     | some (a, b) => k == a && !slotUse n a s && !slotUse n b s
     | none => false))

/-- Test 0x23: the first slot that names the pin of an earlier one. -/
def slotsSame (n : Nat) (s : State) : Option Nat :=
  [1, 2, 3].find? (fun k => slotUse n k s &&
    (List.range k).any (fun j => slotUse n j s && slotPin n j s == slotPin n k s))

/-- The first used slot whose pin satisfies `p`. -/
def slotFirst (n : Nat) (p : Nat → Bool) (s : State) : Option Nat :=
  [0, 1, 2, 3].find? (fun k => slotUse n k s && p (slotPin n k s))

/-- D of the baud generator in 1/256, the prescaler and the oversampling (R210). -/
def baudD (n : Nat) (s : State) : Nat := rf s (nibReg n 0x14) 23 0
def baudInt (n : Nat) (s : State) : Nat := rf s (nibReg n 0x14) 23 8
def baudP (n : Nat) (s : State) : Nat := if rb s (nibReg n 0x14) 27 then 16 else 1
def baudOs (n : Nat) (s : State) : Nat :=
  match rf s (nibReg n 0x14) 29 28 with | 0 => 16 | 1 => 8 | _ => 4

/-- The configured rate of a UART is above `r` bit/s. -/
def uartAbove (n r : Nat) (s : State) : Bool := r * baudP n s * baudOs n s * baudD n s < 200000000 * 256

/-- The configured rate is above the limit of a 1.8 V group (R199). -/
def above18 (n m : Nat) (s : State) : Bool :=
  if m = 1 then uartAbove n 10000000 s
  else if m = 2 then syncClk n s == 1 && 12500000 * baudP n s * baudInt n s < 200000000
  else if m = 3 then 25000000 * baudP n s * baudInt n s < 200000000
  else m == 7 && ctrFunc n s == 4 && (rd s (nibReg n 0x84)).toNat < 8

/-- NIB_BAUD is invalid for the mode (R211). -/
def baudBad (n m : Nat) (s : State) : Bool :=
  let frac := rf s (nibReg n 0x14) 7 0
  let i := baudInt n s
  i == 0 || rf s (nibReg n 0x14) 29 28 == 3 ||
  (m == 1 && (uartAbove n 20000000 s || 200000000 * 256 < 50 * baudP n s * baudOs n s * baudD n s)) ||
  (m == 2 && syncClk n s == 1 && (frac != 0 || i % 2 == 1 || i < 8)) ||
  (m == 3 && (frac != 0 || i % 2 == 1 || i < 4))

/-- A format field of the mode register is reserved or out of range, or loopback is not available (R201, R204, R241–R243). -/
def formatBad (n m : Nat) (s : State) : Bool :=
  let f (o hi lo : Nat) : Nat := rf s (nibReg n o) hi lo
  (nibLoop n s && 4 ≤ m) ||
  (m == 1 && (f 0x40 3 0 < 5 || 9 < f 0x40 3 0 || 4 < f 0x40 6 4 || f 0x40 9 8 == 3 || f 0x40 13 12 == 3)) ||
  (m == 2 && f 0x50 11 10 == 3) ||
  ((m == 3 || m == 4) && (f 0x60 23 16 == 0 || f 0x60 15 12 == 0 || f 0x60 11 8 == 0)) ||
  ((m == 5 || m == 6) && (f 0x70 9 8 == 3 || f 0x70 23 16 == 0)) ||
  (m == 7 && (f 0x80 23 22 == 3 || f 0x80 21 20 == 3))

def capQ (n m : Nat) (s : State) : Bool := m == 7 && rb s (nibReg n 0x80) 18

/-- The mode has a means of holding its sender (R209). -/
def holdMeans (n m : Nat) (s : State) : Bool :=
  !((m == 1 && uartHs n s != 1) || m == 2 || m == 4 || capQ n m s)

/-- OVF of Q(2n+1) in the active set is FLOW (R182). -/
def ovfFlow (n : Nat) (s : State) : Bool := fld (tget resetOf s.ink.active (qReg (2 * n + 1) 0)) 9 8 == 0

/-- NIB_REASON after the check of R201: its word, 0 = pass. -/
def nibCheck (n : Nat) (s : State) : Word :=
  let m := nibMode n s
  let len := rf s (nibReg n 0x18) 12 0
  let adr := rf s (nibReg n 0x74) 6 0
  let at_ (c k : Nat) : Word := reason c k 16
  if rb s (nibReg n 0x04) 31 then 0x2E
  else if m = 0 || 8 ≤ m then 0x20
  else match slotsBad n m s with
  | some k => at_ 0x22 k
  | none => match slotsSame n s with
  | some k => at_ 0x23 k
  | none => match slotFirst n (fun p => pinClaimed p s) s with
  | some k => at_ 0x01 k
  | none => match slotFirst n (fun p => pinFiveVt p s) s with
  | some k => at_ 0x03 k
  | none => match slotFirst n (fun p => pinVioBad p (above18 n m s) s) s with
  | some k => at_ 0x02 k
  | none =>
    if baudBad n m s then 0x21
    else if formatBad n m s then 0x25
    else if len = 0 || (capQ n m s && len % 8 ≠ 0) then 0x26
    else if m = 6 && !rb s (nibReg n 0x74) 15 && (adr < 8 || 0x78 ≤ adr) then 0x27
    else if m = 7 && (7 ≤ ctrFunc n s || ((ctrFunc n s == 4 || ctrFunc n s == 6) && (rd s (nibReg n 0x84)).toNat < 2)) then 0x28
    else if (subOf (2 * n) s).1 then 0x29
    else if ovfFlow n s && !holdMeans n m s then 0x24
    else 0

def claimSlots (n : Nat) : List Nat → State → State
  | [], s => s
  | k :: t, s => claimSlots n t (if slotUse n k s then claimPin (slotPin n k s) 1 k n s else s)

def releaseSlots (n : Nat) : List Nat → State → State
  | [], s => s
  | k :: t, s => releaseSlots n t (if slotUse n k s then releasePin (slotPin n k s) s else s)

/-- Run the enable check and, on pass, start the nib (R201, R202, R452). The levels of a counter's inputs and of CTS_N are the
filtered ones at the pins (DESIGN CHOICE for CTS_N, log entry 29). -/
def nibStart (n : Nat) (s : State) : State :=
  let c := nibCheck n s
  let s := wr (nibReg n 0x08) c s
  if c ≠ 0 then s
  else
    let s := claimSlots n [0, 1, 2, 3] (wb (nibReg n 0) 0 true s)
    let m := nibMode n s
    let line := (m == 1 && slotUse n 3 s && !seenF n 3 s) || (m == 7 && seenF n 3 s)
    let s := wb (nibReg n 0x04) 26 line (wr (nibReg n 0x04) 0 (wr (nibReg n 0x8C) 0 s))
    let s := setNib n { out := (nib n s).out, lastA := seenF n 0 s, lastB := seenF n 1 s,
                        period := rd s (nibReg n 0x84), duty := rd s (nibReg n 0x88) } s
    nibIdle n s

/-! ## The receive path (R183, R207–R209) -/

def fifoBytes (l : List RxEnt) : Nat := (l.filter (fun e => match e with | .byte _ => true | _ => false)).length

/-- The nib applies FLOW: the policy with a means of holding (R209). -/
def nibFlow (n : Nat) (s : State) : Bool := ovfFlow n s && holdMeans n (nibMode n s) s

/-- Put the RX FIFO, with NIB_STATUS.RXFILL (R237). -/
def putFifo (n : Nat) (l : List RxEnt) (s : State) : State :=
  wf (nibReg n 0x04) 14 8 (fifoBytes l) (setNib n { nib n s with fifo := l } s)

/-- Bytes of one RX item lost to a refused cell: the first loss of the item is an overflow, the rest add to Q_CNT_OVF
(R183). -/
def nibLose (n cnt : Nat) (first : Bool) (s : State) : State :=
  if first then rxOverflow (2 * n + 1) cnt s else bump (qReg (2 * n + 1) 0x18) cnt s

/-- The slot the mode receives on, for FS100. -/
def rxSlot (m : Nat) : Nat := if m = 7 then 0 else if m = 3 then 2 else 1

/-- Move what the RX FIFO holds into Q(2n+1): under FLOW a refused cell stops the transfer, under DISCARD it closes the
item at its last admitted byte, and the rest of the item is discarded and counted (R183, R209). With FLOWNA set, the FIFO is full for
such an item, which is FS100 (R234; DESIGN CHOICE, log entry 30). -/
def nibDrain (n : Nat) : Nat → State → State
  | 0, s => s
  | fuel + 1, s =>
    let q := 2 * n + 1
    let k := nib n s
    match k.fifo with
    | [] => s
    | .hdr d :: r =>
      let s := match (queue q s).prod with
        | some i => putQueue q { queue q s with prod := some { i with bytes := d ++ i.bytes.drop d.length } } s
        | none => s
      nibDrain n fuel (putFifo n r s)
    | .close u t :: r =>
      let had := (queue q s).prod.isSome
      let s := prodClose q u t s
      let s := if had then bump (nibReg n 0xC8) 1 s else s
      nibDrain n fuel (putFifo n r (setNib n { nib n s with disc := false } s))
    | .byte b :: r =>
      if k.disc then nibDrain n fuel (putFifo n r (nibLose n 1 false s))
      else
        match prodByte q b 0 s with
        | (true, s) => nibDrain n fuel (putFifo n r (bump (nibReg n 0xC0) 1 s))
        | (false, s) =>
          if nibFlow n s then s
          else
            let had := (queue q s).prod.isSome
            let s := prodClose q (w32 (k.tag.getD (timeTag s))) true s
            let s := if had then bump (nibReg n 0xC8) 1 s else s
            let s := if rb s (nibReg n 0x04) 30 then raise 100 (w32 (n + 256 * rxSlot (nibMode n s))) s else s
            nibDrain n fuel (putFifo n r (setNib n { nib n s with disc := true } (nibLose n 1 true s)))

def nibDrainAll (n : Nat) (s : State) : State := nibDrain n (nib n s).fifo.length s

/-- Start a hold at 48 bytes (R209): it is counted, NIB_EVT.HOLD is set, and RTS_N goes inactive. -/
def nibHoldStart (n : Nat) (s : State) : State :=
  if 48 ≤ fifoBytes (nib n s).fifo && nibFlow n s && !rb s (nibReg n 0x04) 29 then
    let s := nibEvt n 7 (bump (nibReg n 0xD0) 1 (wb (nibReg n 0x04) 29 true s))
    if nibMode n s = 1 then slotAct n 2 true true s else s
  else s

/-- A hold is in progress (R209). -/
def nibHolds (n : Nat) (s : State) : Bool := rb s (nibReg n 0x04) 29

/-- The user word of the open RX item: mode flags in [31:24], the time tag in [23:0] (R207). -/
def rxUser (n flags : Nat) (s : State) : Word := w32 (flags * 16777216 + (nib n s).tag.getD (timeTag s))

/-- Close the open RX item with its flags; an item of no bytes does not exist (R207, R214, R219). -/
def rxClose (n flags : Nat) (s : State) : State :=
  let k := nib n s
  if k.rxLen = 0 && !k.lost then setNib n { k with tag := none } s
  else
    let idle := k.fifo.isEmpty || !nibFlow n s
    let s := putFifo n (k.fifo ++ [.close (rxUser n flags s) k.lost]) s
    let s := setNib n { nib n s with rxLen := 0, tag := none, lost := false } s
    if idle then nibDrainAll n s else s

/-- One received byte of the open item. At 4096 bytes the item closes with MORE = 1 and carries on (R208); a byte at a full
FIFO is a skid byte (R209). -/
def rxPut (n : Nat) (b : Byte) (s : State) : State :=
  let tag := (nib n s).tag.getD (timeTag s)
  let s := if (nib n s).rxLen = 4096 then
      let s := rxClose n 1 s
      setNib n { nib n s with hdr := (nib n s).hdr.map (fun _ => false) } s
    else s
  let k := nib n s
  let s := setNib n { k with tag := some tag } s
  if 64 ≤ fifoBytes k.fifo then
    let s := nibEvt n 8 (bump (nibReg n 0xD4) 1 (nibLose n 1 (!k.lost) s))
    setNib n { nib n s with lost := true } s
  else
    let idle := k.fifo.isEmpty || !nibFlow n s
    let s := setNib n { nib n s with rxLen := k.rxLen + 1 } s
    let s := putFifo n (k.fifo ++ [.byte b]) s
    nibHoldStart n (if idle then nibDrainAll n s else s)

def rxPutAll (n : Nat) : List Byte → State → State
  | [], s => s
  | b :: t, s => rxPutAll n t (rxPut n b s)

/-- Close the open item when it has reached NIB_RXCLOSE.LEN bytes (R214, R231). -/
def rxLenClose (n : Nat) (s : State) : State :=
  if rf s (nibReg n 0x18) 12 0 ≤ (nib n s).rxLen then rxClose n 0 s else s

/-- Store bytes while no hold is in progress; the bytes that a hold keeps back are the first component (R209). -/
def rxUntilHold (n : Nat) : List Byte → State → List Byte × State
  | [], s => ([], s)
  | b :: t, s => if nibHolds n s then (b :: t, s) else rxUntilHold n t (rxPut n b s)

/-- The open RX item starts now, or `ns` ago (R207). -/
def rxTag (n ns : Nat) (s : State) : State :=
  let k := nib n s
  setNib n { k with tag := some (k.tag.getD (tagAgo ns s)) } s

/-- The hold ends at 32 bytes or fewer (R209). -/
def nibHoldEnd (n : Nat) (s : State) : State :=
  if nibRuns n s && nibHolds n s && fifoBytes (nib n s).fifo ≤ 32 then
    let s := wb (nibReg n 0x04) 29 false s
    if nibMode n s = 1 then slotAct n 2 true false s else s
  else s

/-- When cells have been freed, what a hold kept in the FIFO moves on, without a new refusal being counted. -/
def nibRefill (n : Nat) (s : State) : State :=
  match (nib n s).fifo with
  | [] => s
  | _ =>
    let q := 2 * n + 1
    let room := match (queue q s).prod with
      | some i => i.bytes.length % 64 ≠ 0 || admits q 1 s
      | none => admits q 1 s
    if room || !nibFlow n s then nibDrainAll n s else s

end Sys2Proof.Machine
end

