-- ==== Sys2Proof/Machine/NibModes.lean ====
section
/-! DEFINITION. The nibs (chapter 6): what each mode sends and receives, the unit reset, and the counter functions. -/
namespace Sys2Proof.Machine
open Sys2Proof

/-! ## Bits -/

/-- The bits of a byte, least significant first. -/
def byteBits (b : Byte) : List Bool := (List.range 8).map (fun i => bitOf b.toNat i)
def bytesBits (d : List Byte) : List Bool := d.flatMap byteBits

/-- The number of a bit list, first bit least significant. -/
def bitsNat : List Bool → Nat
  | [] => 0
  | b :: t => b2n b + 2 * bitsNat t

/-- Bytes of a bit list; a residue is right-aligned in the last byte. -/
def bitsBytes : Nat → List Bool → List Byte
  | 0, _ => []
  | k + 1, l => if l.isEmpty then [] else BitVec.ofNat 8 (bitsNat (l.take 8)) :: bitsBytes k (l.drop 8)

/-- The bits of a byte in the order of an SPI mode: least significant first with `lsb` (R221). -/
def spiBits (lsb : Bool) (b : Byte) : List Bool := if lsb then byteBits b else (byteBits b).reverse

/-- The number of up to eight bits received in that order, right-aligned. -/
def spiByte (lsb : Bool) (l : List Bool) : Byte := BitVec.ofNat 8 (bitsNat (if lsb then l else l.reverse))

/-- The whole bytes of bits received in that order. -/
def spiBytes (lsb : Bool) : Nat → List Bool → List Byte
  | 0, _ => []
  | k + 1, l => spiByte lsb (l.take 8) :: spiBytes lsb k (l.drop 8)

/-- SCK and MOSI in the two half-periods of each bit: with CPHA = 0 a bit stands before its first edge, with CPHA = 1 from it on
(R221, R242). -/
def spiWave (cpol cpha : Bool) (l : List Bool) : List (Bool × Bool) :=
  l.flatMap (fun b => if cpha then [(!cpol, b), (cpol, b)] else [(cpol, b), (!cpol, b)])

/-- The MOSI levels at the sampling edges of SCK: those after which SCK is at `smp`. Each entry is SCK after a moment and MOSI then;
`prev` is SCK before. -/
def sckSamples (smp : Bool) : Bool → List (Bool × Bool) → List Bool
  | _, [] => []
  | prev, (c, d) :: t => if c != prev && c == smp then d :: sckSamples smp c t else sckSamples smp c t

/-- NRZI: a 0 changes the level, a 1 keeps it (PRESUMED, log entry 31: ISO/IEC 13239). -/
def nrziEnc : Bool → List Bool → List Bool
  | _, [] => []
  | p, b :: t => let q := if b then p else !p; q :: nrziEnc q t

def nrziDec : Bool → List Bool → List Bool
  | _, [] => []
  | p, q :: t => (q == p) :: nrziDec q t

/-! ## Transmitting -/

/-- Note what went out; in loopback nothing reaches the pins (R204). -/
def nibPush (n : Nat) (o : List NibOut) (s : State) : State :=
  if nibLoop n s then s
  else
    let k := nib n s
    setNib n { k with out := k.out ++ o } s

/-- Levels of slot `k` at its pin (R197). -/
def atPin (n k : Nat) (l : List Bool) (s : State) : List Bool := l.map (fun b => b != slotInv n k s)

/-- The head item of Q(2n), if the nib may take it. -/
def txHead (n : Nat) (s : State) : Option Item :=
  let k := queue (2 * n) s
  match k.pend, k.items with
  | none, i :: _ => some i
  | _, _ => none

/-- The slot the mode transmits on, for FS97. -/
def txSlot (m : Nat) : Nat := if m = 3 || m = 5 || m = 6 then 1 else if m = 4 then 2 else 0

/-- TXHOLD (R205). -/
def txHold (n : Nat) (s : State) : Bool := rb s (nibReg n 0) 8

/-- Put the read position of the head item. -/
def setHeadPos (q p : Nat) (s : State) : State :=
  let k := queue q s
  match k.items with
  | [] => s
  | i :: r => putQueue q { k with items := { i with pos := min p i.bytes.length } :: r } s

/-- NIB_STATUS.TXBUSY and TXFILL (R237). -/
def txShow (n : Nat) (busy : Bool) (rest : Nat) (s : State) : State :=
  wf (nibReg n 0x04) 6 0 (min 64 rest) (wb (nibReg n 0x04) 28 busy s)

/-- The TX item is done: it is counted and freed (R206), with TXEMPTY when nothing is left (R239). -/
def nibTxDone (n : Nat) (s : State) : State :=
  let s := setNib n { nib n s with tx := false, prog := 0, cmdPos := 0 } s
  freeHead (2 * n) (bump (nibReg n 0xCC) 1 (txShow n false 0 s))

/-- Raise CS_N at the end of an SPI transaction (R221). -/
def spiCsHigh (n : Nat) (s : State) : State :=
  if (nib n s).csLow then
    let s := nibPush n [.csRise (rf s (nibReg n 0x60) 15 12)] (setNib n { nib n s with csLow := false } s)
    slotAct n 3 true true (wb (nibReg n 0x04) 27 false s)
  else s

/-- The load of bad data stops a nib: FS65 for the cells met, FS97, TXHOLD; the item stays at the head, and what is under way is cut:
a synchronous frame with an abort (R165, R220, R234), an SPI or I2C transaction with CS_N high or a STOP, its RX item closed with
TRUNC (DESIGN CHOICE, log entry 32). -/
def nibPoison (n : Nat) (cells : List Nat) (s : State) : State :=
  let m := nibMode n s
  let k := nib n s
  let s := raiseCells cells (txShow n false 0 (wb (nibReg n 0) 8 true s))
  let s := if m = 2 && k.tx then nibPush n [.abort] s
    else if m = 3 then spiCsHigh n s
    else if m = 5 && k.i2cOn then wb (nibReg n 0x04) 26 false (nibPush n [.stop] s) else s
  let s := if k.tx && (m = 3 || m = 5) then rxClose n 0 (setNib n { nib n s with lost := (nib n s).lost || k.rxLen != 0 } s) else s
  let s := setNib n { nib n s with tx := false, feed := false, prog := 0, cmdPos := 0, i2cOn := false, hdr := none } s
  raise 97 (w32 (n + 256 * txSlot m)) s

/-! ## UART (R213–R217) -/

/-- Bytes of a character in an item (R213). -/
def charBytes (n : Nat) (s : State) : Nat := if rf s (nibReg n 0x40) 3 0 == 9 then 2 else 1

/-- The parity bit of data `d` (R215). -/
def parityBit (par d : Nat) : Bool :=
  let odd := (List.range 9).foldl (fun a i => a != bitOf d i) false
  match par with
  | 1 => !odd
  | 2 => odd
  | 3 => true
  | _ => false

/-- A character at TXD in half bit times: start, data least significant first, parity, 1, 1.5 or 2 stop bits (R213). -/
def uartHalves (n d : Nat) (s : State) : List Bool :=
  let f (hi lo : Nat) : Nat := rf s (nibReg n 0x40) hi lo
  let par := if f 6 4 = 0 then [] else [parityBit (f 6 4) (d % 2 ^ f 3 0)]
  (false :: ((List.range (f 3 0)).map (fun i => bitOf d i) ++ par)).flatMap (fun b => [b, b]) ++ List.replicate (2 + f 9 8) true

/-- The level a bit is taken as, and whether a majority was not unanimous: three samples, or at OS 4 the centre one alone (R212,
R215). -/
def uartSample (n : Nat) (w : BitVec 3) (s : State) : Bool × Bool :=
  let v (i : Nat) : Bool := seen n 1 (bitOf w.toNat i) s
  if baudOs n s = 4 then (v 1, false)
  else ((v 0 && v 1) || (v 1 && v 2) || (v 0 && v 2), !(v 0 == v 1 && v 1 == v 2))

/-- Count `k` noise events (R215, R232). -/
def uartNoise (n : Nat) : Nat → State → State
  | 0, s => s
  | k + 1, s => uartNoise n k (nibErr n 3 s)

/-- A received character that began `ns` ago, with `noise` of its bits not unanimous (R213–R215). -/
def uartChar (n : Nat) (data : Nat) (par stop : Bool) (noise ns : Nat) (s : State) : State :=
  let f (hi lo : Nat) : Nat := rf s (nibReg n 0x40) hi lo
  let d := data % 2 ^ f 3 0
  let pe := f 6 4 != 0 && par != parityBit (f 6 4) d
  let fe := !stop
  let stat := rb s (nibReg n 0x40) 10
  let s := if pe then nibErr n 0 s else s
  let s := uartNoise n noise (if fe then nibErr n 1 s else s)
  let two := stat || f 3 0 == 9
  let e := d + b2n pe * 512 + b2n fe * 1024
  let s := rxPutAll n (if two then [BitVec.ofNat 8 e, BitVec.ofNat 8 (e / 256)] else [BitVec.ofNat 8 e]) (rxTag n ns s)
  if !stat && (pe || fe) then rxClose n 0xA0 s else rxLenClose n s

/-- The receiver ignores RXD: the own transmission with ECHO = 1, or a break that has not ended (R215, R217). `turn`: within TURN
bit times of DE; `mark`: RXD has been at mark since the last break. -/
def uartDeaf (n : Nat) (mark turn : Bool) (s : State) : Bool :=
  (uartHs n s == 2 && rb s (nibReg n 0x40) 11 && ((nib n s).de || turn)) || ((nib n s).waitMark && !mark)

/-- A character at RXD that began `ns` ago: three samples of each bit from the start bit to the first stop bit, at the pin, bit 1 of
each at the centre tick (R212). -/
def uartReceive (n : Nat) (samples : List (BitVec 3)) (mark turn : Bool) (ns : Nat) (s : State) : State :=
  if !nibIn n 1 s || nibLoop n s || !slotUse n 1 s || uartDeaf n mark turn s then s
  else
    let s := setNib n { nib n s with waitMark := false } s
    let at_ (i : Nat) : Bool × Bool := uartSample n (nthD 0#3 samples i) s
    let bits := rf s (nibReg n 0x40) 3 0
    let p := b2n (rf s (nibReg n 0x40) 6 4 != 0)
    if (at_ 0).1 then nibErr n 3 s
    else
      let noise := ((List.range (2 + bits + p)).filter (fun i => (at_ i).2)).length
      uartChar n (bitsNat ((List.range bits).map (fun i => (at_ (i + 1)).1))) (at_ (bits + 1)).1 (at_ (bits + p + 1)).1 noise ns s

/-- A break taken in: recorded once, and the receiver waits for mark (R214, R215). -/
def uartBroken (n ns : Nat) (s : State) : State :=
  let s := nibEvt n 1 (nibErr n 2 (setNib n { nib n s with waitMark := true } s))
  if rb s (nibReg n 0x40) 10 then rxLenClose n (rxPutAll n [0#8, 8#8] (rxTag n ns s))
  else if (nib n s).rxLen = 0 then s else rxClose n 0x60 s

/-- A break of the nib's own in loopback: mark follows it (R204, R216). -/
def uartOwnBreak (n : Nat) (s : State) : State :=
  if uartDeaf n true false s then s
  else
    let s := uartBroken n 0 s
    setNib n { nib n s with waitMark := false } s

/-- A break at RXD whose start bit came `ns` ago. -/
def uartBreak (n : Nat) (mark turn : Bool) (ns : Nat) (s : State) : State :=
  if !nibIn n 1 s || nibLoop n s || !slotUse n 1 s || uartDeaf n mark turn s then s else uartBroken n ns s

/-- IDLE character times without a start bit (R214). -/
def uartIdle (n : Nat) (s : State) : State :=
  if nibIn n 1 s && rf s (nibReg n 0x18) 27 16 ≠ 0 then rxClose n 0x10 s else s

/-- Loopback of a UART: every character sent is received (R204). -/
def uartLoop (n : Nat) : Nat → List Byte → State → State
  | 0, _, s => s
  | fuel + 1, d, s =>
    if d.isEmpty then s
    else
      let w := charBytes n s
      let c := leNat (d.take w) % 2 ^ rf s (nibReg n 0x40) 3 0
      let s := if uartDeaf n true false s then s else uartChar n c (parityBit (rf s (nibReg n 0x40) 6 4) c) true 0 0 s
      uartLoop n fuel (d.drop w) s

/-- The characters of `d` as they stand at TXD. -/
def uartLine (n : Nat) (s : State) : Nat → List Byte → List Bool
  | 0, _ => []
  | fuel + 1, d =>
    if d.isEmpty then [] else uartHalves n (leNat (d.take (charBytes n s))) s ++ uartLine n s fuel (d.drop (charBytes n s))

/-- The UART sends up to `len` bytes of the head item's rest, whole characters (R206, R213). -/
def uartSend (n len : Nat) (s : State) : State :=
  match txHead n s with
  | none => s
  | some i =>
    let w := charBytes n s
    let d := (i.bytes.drop i.pos).take (ceilDiv len w * w)
    if d.isEmpty then s
    else
      let s := bump (nibReg n 0xC4) d.length (setHeadPos (2 * n) (i.pos + d.length) s)
      let s := txShow n true (i.bytes.length - (i.pos + d.length)) s
      if nibLoop n s then uartLoop n d.length d s
      else nibPush n [.halves (atPin n 0 (uartLine n s d.length d) s)] s

/-- CTS_N lets a UART start a character (R217). -/
def ctsOk (n m : Nat) (s : State) : Bool := !(m == 1 && uartHs n s == 1) || rb s (nibReg n 0x04) 26

/-- Nothing of the head item is left to send. -/
def txSpent (n : Nat) (s : State) : Bool :=
  match txHead n s with
  | some i => i.bytes.length ≤ i.pos
  | none => true

/-- CTS_N changes (R217); NIB_STATUS.LINE shows CTS_N active. When it turns inactive, `sent` bytes of the item under way have gone or go
with the character already started. -/
def uartCts (n : Nat) (lvl : Bool) (sent : Nat) (s : State) : State :=
  if !nibIn n 1 s || !slotUse n 3 s then s
  else
    let act := !seen n 3 lvl s
    if act = rb s (nibReg n 0x04) 26 then s
    else
      let s := if !act && uartHs n s = 1 && (nib n s).tx && !txHold n s then uartSend n sent s else s
      let s := wb (nibReg n 0x04) 26 act s
      if uartHs n s = 1 then nibEvt n 2 s else s

/-- DE goes inactive TURN bit times after the last stop bit (R217). -/
def uartDeRelease (n : Nat) (s : State) : State :=
  if nibIn n 1 s && (nib n s).de && !(nib n s).tx then
    slotAct n 0 false true (slotAct n 2 true false (setNib n { nib n s with de := false } s))
  else s

/-! ## Synchronous framing (R218–R220) -/

/-- A reflected CRC over bits. -/
def crcOverBits (poly : Nat) : Nat → List Bool → Nat
  | c, [] => c
  | c, b :: t => crcOverBits poly (if (c % 2 == 1) != b then (c / 2) ^^^ poly else c / 2) t

/-- The frame check sequence of the mode, as bits in sending order (R218). -/
def fcsBits (crc32_ : Bool) (l : List Bool) : List Bool :=
  if crc32_ then (List.range 32).map (fun i => bitOf (crcOverBits 0xEDB88320 0xFFFFFFFF l ^^^ 0xFFFFFFFF) i)
  else (List.range 16).map (fun i => bitOf (crcOverBits 0x8408 0xFFFF l ^^^ 0xFFFF) i)

/-- The flag 0x7E. -/
def flagBits : List Bool := [false, true, true, true, true, true, true, false]

/-- Insert a 0 after five consecutive 1s (R218). -/
def stuffBits : Nat → List Bool → List Bool
  | _, [] => []
  | ones, b :: t =>
    if b then (if ones = 4 then b :: false :: stuffBits 0 t else b :: stuffBits (ones + 1) t)
    else b :: stuffBits 0 t

/-- The bits of a frame, the inserted 0s removed, up to the closing flag or to an abort, seven consecutive 1s; true for an abort (R218).
None where neither comes. -/
def deframe : Nat → List Bool → List Bool → Option (List Bool × Bool)
  | _, _, [] => none
  | ones, acc, b :: t =>
    if b then (if ones = 6 then some ((acc.drop 6).reverse, true) else deframe (ones + 1) (b :: acc) t)
    else if ones = 5 then deframe 0 acc t
    else if ones = 6 then some ((acc.drop 7).reverse, false)
    else deframe 0 (b :: acc) t

/-- A received frame of bits `l` (R219). -/
def hdlcFrame (n : Nat) (l : List Bool) (ab : Bool) (s : State) : State :=
  let c32 := rb s (nibReg n 0x50) 8
  let fb := if c32 then 32 else 16
  let res := l.length % 8
  if l.isEmpty && !ab then s
  else if ab then rxClose n 0x40 (rxPutAll n (bitsBytes (l.length / 8) (l.take (l.length / 8 * 8))) (nibErr n 1 s))
  else
    let short := l.length ≤ fb
    let data := l.take (l.length - fb)
    let bad := !short && fcsBits c32 data != l.drop (l.length - fb)
    let s := if bad then nibErr n 0 s else s
    let s := if short then nibErr n 2 s else s
    let s := if res ≠ 0 then nibErr n 3 s else s
    let body := if short || rb s (nibReg n 0x50) 9 then l else data
    let fl := b2n bad * 128 + b2n short * 32 + b2n (res != 0) * 16 + 2 * res
    rxClose n fl (rxPutAll n (bitsBytes (body.length / 8 + 1) body) s)

/-- Bits from the end of the opening flag, which ended `ns` ago, to the closing flag or through an abort. -/
def hdlcBits (n ns : Nat) (l : List Bool) (s : State) : State :=
  match deframe 0 [] l with
  | some (f, ab) => if f.isEmpty && !ab then s else hdlcFrame n f ab (rxTag n ns s)
  | none => s

/-- The line at RXD, sampled on the clock's sampling edge: the level of the last bit of the opening flag, and those from there to the
end of the closing flag or of an abort (R218). -/
def hdlcReceive (n : Nat) (raw : List Bool) (ns : Nat) (s : State) : State :=
  if !nibIn n 2 s || nibLoop n s || !slotUse n 1 s then s
  else match raw.map (fun b => seen n 1 b s) with
  | [] => s
  | p :: l => hdlcBits n ns (if rb s (nibReg n 0x50) 13 then nrziDec p l else l) s

/-- Send bits at TXD, coded as NRZI says. -/
def syncLine (n : Nat) (l : List Bool) (s : State) : State :=
  let k := nib n s
  let v := if rb s (nibReg n 0x50) 13 then nrziEnc k.lvl l else l
  nibPush n [.bits (atPin n 0 v s)] (setNib n { k with lvl := v.getLast?.getD k.lvl } s)

/-- The item under way has been sent as a frame after FLAGS + 1 flags; a closing flag ends the last one (R218, R220). -/
def syncComplete (n : Nat) (i : Item) (s : State) : State :=
  let l := bytesBits i.bytes
  let l := stuffBits 0 (if bit i.user 31 then l else l ++ fcsBits (rb s (nibReg n 0x50) 8) l)
  let s := nibTxDone n (bump (nibReg n 0xC4) i.bytes.length s)
  let flags := (List.replicate (rf s (nibReg n 0x50) 27 24 + 1) flagBits).flatten
  if nibLoop n s then hdlcBits n 0 (l ++ flagBits) s
  else syncLine n (flags ++ (l ++ (if (txHead n s).isNone || txHold n s then flagBits else []))) s

/-! ## SPI controller (R221, R222) -/

def spiLsb (n : Nat) (s : State) : Bool := rb s (nibReg n 0x60) 2
def spiFill (n : Nat) (s : State) : Byte := BitVec.ofNat 8 (rf s (nibReg n 0x60) 31 24)

/-- Half a period of SCK, in ns (R210). -/
def spiHalfNs (n : Nat) (s : State) : Nat := 5 * (baudP n s * baudInt n s) / 2

/-- CS_N falls, unless a KEEP item has left it low; the data's first SCK edge comes CSSU half-periods later (R207, R221). -/
def spiBegin (n : Nat) (s : State) : State :=
  let su := rf s (nibReg n 0x60) 11 8
  let s := wb (nibReg n 0x04) 27 true s
  let k := nib n s
  let first := if k.csLow then 0 else su * spiHalfNs n s
  let s := setNib n { k with tag := some (k.tag.getD (bitsOf ((tb0 s).toNat + first) 33 10)) } s
  if k.csLow then s
  else slotAct n 3 true false (nibPush n [.csFall (rf s (nibReg n 0x60) 23 16) su] (setNib n { nib n s with csLow := true } s))

/-- Bytes at MISO: each bit's levels 0 to 3 PORT clocks after the nominal sampling edge, of which SDLY names one (R221). -/
def misoBytes (n : Nat) (miso : List (BitVec 4)) (s : State) : List Byte :=
  let l := miso.map (fun w => seen n 2 (bitOf w.toNat (rf s (nibReg n 0x60) 7 6)) s)
  spiBytes (spiLsb n s) (l.length / 8) l

/-- Shift bytes, each with the one received, until a hold pauses SCK at a byte boundary (R209). The first `lead` are of the item. -/
def spiShift (n lead : Nat) (norx : Bool) : List (Byte × Option Byte) → State → State
  | [], s => s
  | (b, r) :: t, s =>
    if nibHolds n s then s
    else
      let k := nib n s
      let own := k.prog < lead
      let cpol := rb s (nibReg n 0x60) 1
      let w := spiWave cpol (rb s (nibReg n 0x60) 0) (spiBits (spiLsb n s) b)
      let w := w.map (fun e => (e.1 != slotInv n 0 s, e.2 != slotInv n 1 s))
      let s := nibPush n [.wave w] (setNib n { k with prog := k.prog + 1 } s)
      let s := if own then bump (nibReg n 0xC4) 1 s else s
      let s := match r with
        | some x => if norx && own then s else rxPut n x s
        | none => s
      spiShift n lead norx t s

/-- The transaction's bytes are shifted, as far as MISO's bits and the hold allow; then it ends, or the next item continues it
(R209, R222). -/
def spiComplete (n : Nat) (i : Item) (miso : List (BitVec 4)) (s : State) : State :=
  let all := i.bytes ++ List.replicate (fld i.user 12 0) (spiFill n s)
  let todo := all.drop (nib n s).prog
  let pairs := if nibLoop n s then todo.map (fun b => (b, some b))
    else if slotUse n 2 s then (todo.zip (misoBytes n miso s)).map (fun e => (e.1, some e.2))
    else todo.map (fun b => (b, none))
  let s := spiShift n i.bytes.length (bit i.user 30) pairs s
  let s := txShow n true (i.bytes.length - (nib n s).prog) s
  if (nib n s).prog < all.length then s
  else
    let s := nibTxDone n s
    if bit i.user 31 then s else rxClose n 0 (spiCsHigh n s)

/-! ## Streams: SPI target and I2C target (R223, R228) -/

/-- A byte of the stream in Q(2n) may be sent: TXHOLD starts nothing new (R205). -/
def streamOk (n : Nat) (s : State) : Bool := !txHold n s || (nib n s).feed

/-- TXBUSY and TXFILL of a stream: an item is under way once a byte of it has been sent. -/
def streamShow (n : Nat) (s : State) : State :=
  match txHead n s with
  | some i => txShow n (0 < i.pos) (if streamOk n s then i.bytes.length - i.pos else 0) s
  | none => txShow n false 0 s

/-- Take one byte of the stream: the byte, if one is ready. A poisoned one stops the nib (R234). -/
def streamByte (n : Nat) (s : State) : Option Byte × State :=
  match txHead n s with
  | none => (none, s)
  | some i =>
    let cells := badCells i i.pos 1
    if !streamOk n s then (none, s)
    else if !cells.isEmpty then (none, nibPoison n cells s)
    else
      let s := bump (nibReg n 0xC4) 1 (setHeadPos (2 * n) (i.pos + 1) s)
      let s := if i.bytes.length ≤ i.pos + 1 then nibTxDone n s else s
      (some (nthD 0#8 i.bytes i.pos), streamShow n s)

/-- A byte is ready. -/
def streamReady (n : Nat) (s : State) : Bool := (txHead n s).isSome && streamOk n s

/-- Bits at MISO of the SPI target. -/
def misoSend (n : Nat) (b : Byte) (s : State) : State := nibPush n [.bits (atPin n 2 (spiBits (spiLsb n s) b) s)] s

/-- Shift `k` bytes out of the SPI target: FILL, counted, when none is ready (R223). -/
def spiTargetBytes (n : Nat) : Nat → State → State
  | 0, s => s
  | k + 1, s =>
    let (b, s) := streamByte n s
    spiTargetBytes n k (match b with
      | some b => misoSend n b s
      | none => misoSend n (spiFill n s) (nibErr n 0 s))

/-- CS_N falls: the RX item begins, and MISO is driven (R193, R197). The level of MISO before the first edge is the first bit with
CPHA = 0; with CPHA = 1 it is not stated: a free value. -/
def spiTargetFall (n : Nat) (s : State) : State :=
  if nibIn n 4 s && !(nib n s).csLow && slotLive n 3 s then
    let s := setNib n { nib n s with csLow := true, feed := !txHold n s, tag := some (timeTag s) } (wb (nibReg n 0x04) 27 true s)
    let next := match txHead n s with
      | some i => if streamOk n s then nthD 0#8 i.bytes i.pos else spiFill n s
      | none => spiFill n s
    if rb s (nibReg n 0x60) 0 then
      let (w, s) := fresh s
      slotDrive n 2 true (bit w 0) s
    else slotDrive n 2 true ((spiBits (spiLsb n s) next).head?.getD false) s
  else s

/-- CS_N rises. `edges`: SCK and MOSI at the pins after each change of SCK since CS_N fell. The bits at the sampling edges make the
received bytes, and a last one cut short (R223); SCK rises to sample in the SPI modes 0 and 3, and falls in 1 and 2 (R242). -/
def spiTargetRise (n : Nat) (edges : List (Bool × Bool)) (s : State) : State :=
  if !nibIn n 4 s || !(nib n s).csLow then s
  else
    let cpol := rb s (nibReg n 0x60) 1
    let l := sckSamples (cpol == rb s (nibReg n 0x60) 0) cpol (edges.map (fun e => (seen n 0 e.1 s, seen n 1 e.2 s)))
    let whole := l.length / 8
    let pb := l.length % 8
    let lsb := spiLsb n s
    let s := spiTargetBytes n whole s
    let s := if slotUse n 1 s then rxPutAll n (spiBytes lsb whole l) s else s
    let s := if pb = 0 then s else
      let s := nibErr n 1 s
      if slotUse n 1 s then rxPut n (spiByte lsb (l.drop (8 * whole))) s else s
    let s := rxClose n (if pb = 0 then 0 else 128 + 16 * pb) s
    slotDrive n 2 false false (wb (nibReg n 0x04) 27 false (setNib n { nib n s with csLow := false, feed := false } s))

/-- Consume `k` bytes of the stream of a read transfer (R228). -/
def i2cTgtBytes (n : Nat) : Nat → State → State
  | 0, s => s
  | k + 1, s =>
    match streamByte n s with
    | (some b, s) => i2cTgtBytes n k (nibPush n [.wr [b]] s)
    | (none, s) => s

/-! ## Unit reset and hold (R34, R40, R196, R203, R502) -/

/-- The TX item under way at a unit reset, and how the bus or line is left (R203): a UART and the targets keep the read position at
the first byte not sent in full, `sent` bytes further on; the others return the item whole. -/
def nibTxCut (n sent : Nat) (s : State) : State :=
  let k := nib n s
  let m := nibMode n s
  let head := fun s => if k.tx then setHeadPos (2 * n) 0 s else s
  if m = 1 then
    let s := if k.tx then uartSend n sent s else s
    if k.tx && (txHead n s).isSome && txSpent n s then nibTxDone n s else s
  else if m = 2 then (if k.tx then nibPush n [.abort] (head s) else s)
  else if m = 3 then head (spiCsHigh n s)
  else if m = 4 then (if k.csLow then spiTargetBytes n sent s else s)
  else if m = 5 then (if k.i2cOn then nibPush n [.stop] (head s) else head s)
  else if m = 6 && k.tgt && k.tgtRead then i2cTgtBytes n sent s
  else s

/-- Bytes of a transaction or frame that a unit reset cuts, as far as the mode has one under way. -/
def nibCutBytes (n : Nat) (got : List Byte) (s : State) : List Byte :=
  let k := nib n s
  let m := nibMode n s
  if m = 2 || (m = 3 && k.tx) || (m = 4 && k.csLow) || (m = 5 && k.i2cOn) || (m = 6 && k.tgt && !k.tgtRead) then got else []

/-- Bytes that a cut FIFO loses, each item counted once (R183): `cnt` bytes of the item in hand, `counted` if the last item has been
counted already. -/
def fifoSpill (n : Nat) (counted : Bool) : Nat → List RxEnt → State → State
  | cnt, [], s => if cnt = 0 then s else nibLose n cnt (!counted) s
  | cnt, .byte _ :: t, s => fifoSpill n counted (cnt + 1) t s
  | cnt, .hdr _ :: t, s => fifoSpill n counted cnt t s
  | cnt, .close _ lost :: t, s => fifoSpill n counted 0 t (if cnt = 0 then s else nibLose n cnt (!lost) s)

/-- The user word of the first item in a FIFO that has its end there. -/
def fifoUser : List RxEnt → Option Word
  | [] => none
  | .close u _ :: _ => some u
  | .byte _ :: t | .hdr _ :: t => fifoUser t

/-- A partly built RX item closes with TRUNC; what the FIFO holds and no cell takes is lost (R183, R203). -/
def nibRxCut (n : Nat) (got : List Byte) (s : State) : State :=
  let q := 2 * n + 1
  let s := nibRefill n (rxPutAll n got s)
  let k := nib n s
  let u := (fifoUser k.fifo).getD (rxUser n (if nibMode n s = 1 then 0x30 else 0) s)
  let s := fifoSpill n (k.lost || k.disc) 0 k.fifo s
  let had := (queue q s).prod.isSome
  let s := prodClose q u true s
  if had then bump (nibReg n 0xC8) 1 s else s

/-- Handle what is under way as at a unit reset (R203): `sent` bytes of the TX item have been sent in full since its read position, and
`got` are the bytes received of the transaction or frame under way. -/
def nibCut (n sent : Nat) (got : List Byte) (s : State) : State :=
  let got := nibCutBytes n got s
  let s := nibRxCut n got (nibTxCut n sent s)
  let s := wr (nibReg n 0x04) (rd s (nibReg n 0x04) &&& 0x80000000#32) s
  let k := nib n s
  setNib n { out := k.out, period := k.period, duty := k.duty } s

/-- How far a nib has come that something cuts without a word: free values. -/
def nibFar (s : State) : Nat × List Byte × State :=
  let (w, s) := fresh s
  let (v, s) := fresh s
  let (d, s) := padBytes (v.toNat % 64) [] s
  (w.toNat, d, s)

/-- RUN = 0 or node safe state: held idle, EN and the claims kept (R40, R502). -/
def nibHoldIdle (n : Nat) (s : State) : State :=
  if nibEn n s then
    let (sent, got, s) := nibFar s
    nibIdle n (nibCut n sent got s)
  else s

/-- The unit reset (R203): pending values return (R149), what is under way is cut, the pins are released, EN reads 0. -/
def nibReset (n sent : Nat) (got : List Byte) (s : State) : State :=
  if nibEn n s then
    releaseSlots n [0, 1, 2, 3] (wb (nibReg n 0) 0 false (nibCut n sent got (unitForget (nibReg n 0) [2 * n, 2 * n + 1] s)))
  else s

/-- Quarantine (R203, R499): a unit reset, and QUAR. -/
def nibQuar (n : Nat) (s : State) : State :=
  let (sent, got, s) := nibFar s
  wb (nibReg n 0x04) 31 true (nibReset n sent got s)

/-- TXHOLD is set: a UART finishes the character under way (R205). -/
def nibTxHold (n sent : Nat) (s : State) : State :=
  if nibIn n 1 s && (nib n s).tx && ctsOk n 1 s then uartSend n sent s else s

/-- A write of NIB_CTL (R203, R236, R453). `sent` = bytes of the item under way sent in full since its read position, `got` = bytes
received of the transaction or frame under way. -/
def nibCtlWrite (n : Nat) (v : Word) (sent : Nat) (got : List Byte) (s : State) : State :=
  let k := nibReg n 0
  if nibEn n s then
    let s := if bit v 0 && bit v 8 && !txHold n s then nibTxHold n sent s else s
    let s := stm k 0x100#32 v s
    if bit v 0 then s else stm k 0x1F2#32 v (nibReset n sent got s)
  else
    let s := stm k 0x1F2#32 v s
    if bit v 0 then nibStart n s else s

/-- After an APPLY: a running nib whose policy became FLOW without a means applies DISCARD and shows FLOWNA (R209). -/
def nibFlowna (n : Nat) (s : State) : State :=
  if nibEn n s then wb (nibReg n 0x04) 30 (ovfFlow n s && !holdMeans n (nibMode n s) s) s else s

/-! ## I2C controller (R225–R227) -/

/-- The command byte at position `p` of an I2C item: its length with operands, none if unknown or past the end (R225). -/
def i2cLen (d : List Byte) (p : Nat) : Option Nat :=
  let at_ (i : Nat) : Nat := (nthD 0#8 d i).toNat
  let l := match at_ p with
    | 1 => 2 | 2 => 3 | 3 => at_ (p + 1) + 3 | 4 => 2 | 5 => 1 | 6 => 2 | _ => 0
  if l = 0 || d.length < p + l || (at_ p = 3 && d.length ≤ p + 1) then none else some l

/-- The header of the RX item (R226). -/
def i2cHeader (st off : Nat) : List Byte := [BitVec.ofNat 8 st, 0#8, BitVec.ofNat 8 off, BitVec.ofNat 8 (off / 256)]

/-- The RX item's header stands before the first byte read; its STATUS and OFFSET are known at the item's end only. Of an item that ends
before, cut or split at 4096 bytes, they are free values (R208, R226). -/
def i2cOpenRx (n : Nat) (s : State) : State :=
  if (nib n s).hdr.isSome then s
  else
    let (w, s) := fresh s
    let s := rxPutAll n [w.setWidth 8, 0#8, (w >>> 8).setWidth 8, (w >>> 16).setWidth 8] s
    setNib n { nib n s with hdr := some true } s

/-- The RX item ends with its header (R226). -/
def i2cCloseRx (n st off : Nat) (s : State) : State :=
  let k := nib n s
  let s := match k.hdr with
    | none => rxPutAll n (i2cHeader st off) s
    | some true => putFifo n (k.fifo ++ [.hdr (i2cHeader st off)]) s
    | some false => s
  let s := rxClose n (2 * st) s
  setNib n { nib n s with hdr := none } s

/-- End the I2C transaction under way (R225, R226): the RX item, the counts, the bus left with a STOP unless arbitration
was lost, and the TX item freed. NIB_STATUS.LINE shows the bus, which after a lost arbitration is another controller's (R227). -/
def i2cEnd (n st off : Nat) (s : State) : State :=
  let k := nib n s
  let s := i2cCloseRx n st off s
  let s := match st with
    | 1 => nibEvt n 4 (nibErr n 0 s)
    | 2 => nibEvt n 4 (nibErr n 1 s)
    | 3 => nibEvt n 3 (nibErr n 2 s)
    | 4 => nibEvt n 9 (nibErr n 3 s)
    | 6 => raise 98 (w32 (n + 256)) (nibEvt n 9 (nibErr n 3 s))
    | _ => s
  let s := if st = 3 || !k.i2cOn then s else nibPush n [.stop] s
  let s := setNib n { nib n s with chosen := false, i2cOn := false } s
  nibTxDone n (wb (nibReg n 0x04) 27 false (wb (nibReg n 0x04) 26 (st == 3) s))

/-- Go on to the command at the new position; an unknown one ends the item with status 0x5 (R226). -/
def i2cNext (n adv : Nat) (s : State) : State :=
  let k := nib n s
  match txHead n s with
  | none => s
  | some i =>
    let p := k.cmdPos + adv
    let s := setNib n { k with cmdPos := p, prog := 0 } s
    let s := txShow n true (i.bytes.length - p) s
    if i.bytes.length ≤ p then s
    else match i2cLen i.bytes p with
      | none => i2cEnd n 5 p s
      | some _ => s

/-- The command of kind `c` at the position of the item under way, with the item. A hold keeps SCL low (R209). -/
def i2cAt (n c : Nat) (s : State) : Option Item :=
  if !nibIn n 5 s || !(nib n s).tx || nibHolds n s then none
  else match txHead n s with
  | none => none
  | some i =>
    match i2cLen i.bytes (nib n s).cmdPos with
    | none => none
    | some _ => if (nthD 0#8 i.bytes (nib n s).cmdPos).toNat = c then some i else none

/-- Run the command of kind `c`, once its bytes have been loaded (R234). -/
def i2cRun (n c : Nat) (f : Item → State → State) (s : State) : State :=
  match i2cAt n c s with
  | none => s
  | some i =>
    let cells := badCells i (nib n s).cmdPos ((i2cLen i.bytes (nib n s).cmdPos).getD 1)
    if cells.isEmpty then f i s else nibPoison n cells s

/-- SDA reads low whatever the bus does: its group has no supply (R200). -/
def sdaStuck (n : Nat) (s : State) : Bool := !slotLive n 1 s && !slotInv n 1 s

/-- Send a START with address bytes `addr`, `own` of them from the item, once the bus is free, after the bus recovery that `recover`
reports: SDA still low afterwards ends the item with status 0x6 (R227). -/
def i2cStart (n adv own : Nat) (addr : List Byte) (recover : Option Bool) (r : I2cRes) (s : State) : State :=
  let recover := if sdaStuck n s then some true else recover
  let k := nib n s
  if rb s (nibReg n 0x04) 26 && !k.i2cOn && recover.isNone then s
  else
    let s := if recover.isSome then nibPush n [.recovery] s else s
    let p := k.cmdPos
    if recover = some true then i2cEnd n 6 p s
    else
      let s := rxTag n 0 (setNib n { nib n s with i2cOn := true } s)
      let s := nibPush n [.start addr] (wb (nibReg n 0x04) 27 true (wb (nibReg n 0x04) 26 true s))
      let s := bump (nibReg n 0xC4) own s
      match r with
      | .ack => i2cNext n adv s
      | .nack => i2cEnd n 1 p s
      | .arbLost => i2cEnd n 3 p s

/-- START7 (R225). An address byte in which arbitration is lost has not been sent. -/
def i2cStart7 (n : Nat) (recover : Option Bool) (r : I2cRes) (s : State) : State :=
  i2cRun n 1 (fun i s => i2cStart n 2 (if r = .arbLost then 0 else 1) [nthD 0#8 i.bytes ((nib n s).cmdPos + 1)] recover r s) s

/-- START10: the write header and the low byte, then for a read a repeated START and the read header (R225); `sent` of these bytes
were sent in full. -/
def i2cStart10 (n : Nat) (recover : Option Bool) (r : I2cRes) (sent : Nat) (s : State) : State :=
  i2cRun n 2 (fun i s =>
    let h := nthD 0#8 i.bytes ((nib n s).cmdPos + 1)
    let l := nthD 0#8 i.bytes ((nib n s).cmdPos + 2)
    let hd := 0xF0 + 2 * (h.toNat % 4)
    let a := [BitVec.ofNat 8 hd, l] ++ (if bitOf h.toNat 7 then [BitVec.ofNat 8 (hd + 1)] else [])
    i2cStart n 3 (if r = .ack then 2 else min sent 2) (if r = .ack then a else a.take (sent + 1)) recover r s) s

/-- WRITE n bytes; `acked` of them were acknowledged before the result `r` came. -/
def i2cWrite (n acked : Nat) (r : I2cRes) (s : State) : State :=
  i2cRun n 3 (fun i s =>
    let p := (nib n s).cmdPos
    let cnt := (nthD 0#8 i.bytes (p + 1)).toNat + 1
    let d := (i.bytes.drop (p + 2)).take cnt
    let g := match r with | .ack => cnt | .nack => min cnt (acked + 1) | .arbLost => min cnt acked
    let s := bump (nibReg n 0xC4) g (nibPush n [.wr (d.take g)] s)
    match r with
    | .ack => i2cNext n (cnt + 2) s
    | .nack => i2cEnd n 2 p s
    | .arbLost => i2cEnd n 3 p s) s

/-- Bytes of a READ arrive, each acknowledged, the last of `cnt` with a NACK, until a hold keeps SCL low (R209, R225). -/
def i2cTake (n cnt : Nat) : List Byte → State → State
  | [], s => s
  | b :: t, s =>
    let k := nib n s
    if cnt ≤ k.prog || nibHolds n s then s
    else
      let s := nibPush n [.acks [k.prog + 1 != cnt]] (setNib n { k with prog := k.prog + 1 } s)
      i2cTake n cnt t (rxPut n (seenByte n 1 b s) s)

/-- READ n bytes: what the target sent, as SDA carries it; it goes on until all n have come, or arbitration is lost. -/
def i2cRead (n : Nat) (data : List Byte) (arbLost : Bool) (s : State) : State :=
  i2cRun n 4 (fun i s =>
    let p := (nib n s).cmdPos
    let cnt := (nthD 0#8 i.bytes (p + 1)).toNat + 1
    let s := i2cTake n cnt data (i2cOpenRx n s)
    if (nib n s).prog = cnt then i2cNext n 2 s
    else if arbLost then i2cEnd n 3 p s else s) s

/-- STOP, in the item or added at its end (R225, R226). -/
def i2cStop (n : Nat) (s : State) : State :=
  if !nibIn n 5 s || !(nib n s).tx || nibHolds n s then s
  else match txHead n s with
  | none => s
  | some i =>
    let p := (nib n s).cmdPos
    if i.bytes.length ≤ p || nthD 0#8 i.bytes p = 5#8 then i2cEnd n 0 p s else s

def i2cPause (n : Nat) (s : State) : State :=
  i2cRun n 6 (fun i s => i2cNext n 2 (nibPush n [.pause ((nthD 0#8 i.bytes ((nib n s).cmdPos + 1)).toNat + 1)] s)) s

/-- The bus stays busy or SCL stretched for STRETCH ms: the bus is recovered; `stuck` = SDA is still low (R227). -/
def i2cStretch (n : Nat) (stuck : Bool) (s : State) : State :=
  if !nibIn n 5 s || !(nib n s).tx then s
  else
    let s := nibPush n [.recovery] s
    i2cEnd n (if stuck || sdaStuck n s then 6 else 4) (nib n s).cmdPos s

/-! ## I2C target (R228) -/

/-- The address of a START is the target's own: NIB_I2C_ADDR, or the general call with GC = 1. -/
def i2cMatches (n addr : Nat) (ten read : Bool) (s : State) : Bool :=
  let t := rb s (nibReg n 0x74) 15
  (rb s (nibReg n 0x70) 7 && addr == 0 && !ten && !read) ||
  (ten == t && addr == (if t then rf s (nibReg n 0x74) 9 0 else rf s (nibReg n 0x74) 6 0))

/-- A START of another controller: the bus is busy (R227, R237), and a target that it addresses acknowledges and begins a transfer. -/
def i2cTgtStart (n addr : Nat) (ten read : Bool) (s : State) : State :=
  if !(nibIn n 5 s || nibIn n 6 s) || !slotLive n 0 s || !slotLive n 1 s || (nib n s).i2cOn || (nib n s).tgt then s
  else
    let s := wb (nibReg n 0x04) 26 true s
    if nibMode n s = 6 && i2cMatches n addr ten read s then
      let k := nib n s
      let gc := addr == 0 && !ten && !read && rb s (nibReg n 0x70) 7
      let k := { k with tgt := true, tgtRead := read, tgtGc := gc, nacked := false, feed := !txHold n s, tag := some (timeTag s) }
      nibPush n [.acks [true]] (wb (nibReg n 0x04) 27 true (setNib n k s))
    else s

/-- Bytes written to the target arrive, each acknowledged, until a hold keeps SCL low (R209); those it keeps back are the first
component. -/
def i2cTgtIn (n : Nat) (data : List Byte) (s : State) : List Byte × State :=
  let (rest, s) := rxUntilHold n (data.map (fun b => seenByte n 1 b s)) s
  (rest, nibPush n [.acks (List.replicate (data.length - rest.length) true)] s)

/-- The transfer of the target has ended. -/
def i2cTgtEnd (n : Nat) (s : State) : State :=
  let k := { nib n s with tgt := false, tgtRead := false, tgtGc := false, nacked := false, tag := none, feed := false }
  wb (nibReg n 0x04) 27 false (setNib n k s)

/-- A STOP or repeated START: it frees the bus or not, and ends a transfer of the target, in which these bytes were written or so many
stream bytes were sent since the last command, the last with a NACK or not (R228, R239). While a hold keeps bytes back, the transfer
cannot end. A write that brought a NACKed byte only stores nothing and is not address-only (DESIGN CHOICE, log entry 33). -/
def i2cTgtStop (n : Nat) (data : List Byte) (sent : Nat) (nack stop : Bool) (s : State) : State :=
  if !(nibIn n 5 s || nibIn n 6 s) || (nib n s).i2cOn then s
  else
    let k := nib n s
    let free := fun s => if stop then wb (nibReg n 0x04) 26 false s else s
    if !k.tgt then free s
    else if k.tgtRead then
      let s := i2cTgtBytes n sent s
      free (i2cTgtEnd n (if nack then nibEvt n 4 s else s))
    else
      let (rest, s) := i2cTgtIn n data s
      if !rest.isEmpty then s
      else
        let k := nib n s
        let empty := k.rxLen = 0 && !k.lost
        let s := if empty && !k.nacked then nibEvt n 2 s
          else rxClose n (b2n k.tgtGc * 128 + b2n stop * 64 + b2n k.nacked * 32) s
        free (i2cTgtEnd n s)

/-- No TX byte for STRETCH ms after `sent` bytes of the stream: FILL is sent and counted, and the timeout noted (R228, R239). -/
def i2cTgtFill (n sent : Nat) (s : State) : State :=
  if nibIn n 6 s && (nib n s).tgt && (nib n s).tgtRead then
    let s := i2cTgtBytes n sent s
    if streamReady n s then s
    else nibPush n [.wr [BitVec.ofNat 8 (rf s (nibReg n 0x70) 31 24)]] (nibEvt n 9 (nibErr n 0 s))
  else s

/-- After these bytes, a hold lasted STRETCH ms: the next byte is NACKed (R228). -/
def i2cTgtHold (n : Nat) (data : List Byte) (s : State) : State :=
  if nibIn n 6 s && (nib n s).tgt && !(nib n s).tgtRead then
    let (_, s) := i2cTgtIn n data s
    if nibHolds n s then
      nibPush n [.acks [false]] (nibEvt n 4 (nibErr n 1 (setNib n { nib n s with nacked := true } s)))
    else s
  else s

/-! ## TX items (R205, R206, R216, R217, R222, R234, R265) -/

/-- STROKE applies to the item (R206). -/
def strokeItem (m : Nat) (i : Item) : Bool := bit i.user 29 && (m == 1 || m == 2 || m == 3 || m == 5)

/-- A transaction of an SPI controller goes on with the next item, TXHOLD or not (R205, R222). -/
def txMayStart (n : Nat) (s : State) : Bool := !txHold n s || (nibMode n s == 3 && (nib n s).csLow)

/-- A nib starts the head item of Q(2n); one held for the stroke starts at its instant alone (R206, R265). The load of its first cell
may stop it (R234). -/
def nibBegin (atStroke : Bool) (n : Nat) (s : State) : State :=
  let m := nibMode n s
  let k := nib n s
  if !nibRuns n s || !txMayStart n s || k.tx || m = 4 || m = 6 || m = 7 || !ctsOk n m s then s
  else match txHead n s with
  | none => s
  | some i =>
    let cells := badCells i i.pos 1
    if strokeItem m i != atStroke then s
    else if !cells.isEmpty then nibPoison n cells s
    else
      let s := setNib n { nib n s with tx := true, chosen := false, cmdPos := 0, prog := 0 } s
      let s := txShow n true (i.bytes.length - i.pos) s
      if m = 1 then
        let s := if uartHs n s = 2 then
            slotAct n 2 true true (slotAct n 0 true true (setNib n { nib n s with de := true } s)) else s
        if bit i.user 31 && i.pos = 0 then nibPush n [.brk (max 1 (rf s (nibReg n 0x40) 31 24))] s else s
      else if m = 3 then spiBegin n s
      else if m = 5 then i2cNext n 0 s
      else s

/-- An item that waits for no stroke starts. -/
def nibTxStart (n : Nat) (s : State) : State := nibBegin false n s

/-- At a stroke instant that is acted on, the item that was at the head at the cutoff starts (R265). -/
def nibStroke (n : Nat) (s : State) : State :=
  if (nib n s).chosen then
    let s := nibBegin true n s
    setNib n { nib n s with chosen := false } s
  else s

/-- The last bit of a TX item leaves the pin (R206, R213, R220–R222). `miso`: what an SPI controller samples. A UART that CTS_N or TXHOLD
stops does not send on. -/
def nibTxComplete (n : Nat) (miso : List (BitVec 4)) (s : State) : State :=
  let m := nibMode n s
  if !nibRuns n s || !(nib n s).tx then s
  else match txHead n s with
  | none => s
  | some i =>
    let cells := badCells i i.pos (i.bytes.length - i.pos)
    if m = 1 && !txSpent n s && (txHold n s || !ctsOk n m s) then s
    else if m ≤ 3 && !cells.isEmpty then nibPoison n cells s
    else if m = 1 then
      let s := if nibLoop n s && bit i.user 31 && i.pos = 0 then uartOwnBreak n s else s
      nibTxDone n (uartSend n (i.bytes.length - i.pos) s)
    else if m = 2 then syncComplete n i s
    else if m = 3 then spiComplete n i miso s
    else s

/-! ## Counter, timer and PWM (R229–R231) -/

/-- Take a capture. -/
def ctrCapture (n : Nat) (v : Word) (s : State) : State :=
  let s := wr (nibReg n 0x90) v s
  if rb s (nibReg n 0x80) 18 then rxLenClose n (rxPutAll n (wordBytes v ++ wordBytes (loW (tb0 s))) s) else s

/-- Put a new count, with the compare match. -/
def ctrPut (n : Nat) (v : Word) (s : State) : State :=
  let s := wr (nibReg n 0x8C) v s
  if v = rd s (nibReg n 0x94) then nibEvt n 6 s else s

/-- Count one step up or down, with the wrap: signed in quadrature mode. -/
def ctrStep (n : Nat) (up : Bool) (s : State) : State :=
  let c := rd s (nibReg n 0x8C)
  let top : Word := if ctrFunc n s = 1 then 0x7FFFFFFF else 0xFFFFFFFF
  let s := if c = (if up then top else top + 1) then nibEvt n 6 (nibErr n 1 s) else s
  ctrPut n (if up then c + 1 else c - 1) s

/-- EDGE selects this edge of S0. -/
def edgeSel (n : Nat) (rise : Bool) (s : State) : Bool :=
  match rf s (nibReg n 0x80) 23 22 with
  | 0 => rise
  | 1 => !rise
  | _ => true

/-- A filtered input changed: the new levels of S0 and S1, and the PORT clocks since the edge that a capture counts from. -/
def ctrEdge (n : Nat) (a b : Bool) (clocks : Nat) (s : State) : State :=
  if !nibIn n 7 s then s
  else
    let a := slotUse n 0 s && seen n 0 a s
    let b := slotUse n 1 s && seen n 1 b s
    let k := nib n s
    let s := setNib n { k with lastA := a, lastB := b } s
    let chA := a != k.lastA
    let chB := b != k.lastB
    let sel := chA && edgeSel n a s
    match ctrFunc n s with
    | 0 => if sel && (!slotUse n 3 s || rb s (nibReg n 0x04) 26) then ctrStep n (!b) s else s
    | 1 =>
      if chA && chB then nibErr n 0 s
      else if !chA && !chB then s
      else
        let fwd := if chA then a != b else a == b
        let step := match rf s (nibReg n 0x80) 21 20 with
          | 0 => chA && ((fwd && a) || (!fwd && !a))
          | 1 => chA
          | _ => true
        if step then ctrStep n (fwd == Config.quadLeadsUp) s else s
    | 2 =>
      if sel then
        let s := setNib n { nib n s with edges := 1 } s
        if k.edges = 0 then s else ctrCapture n (w32 clocks) s
      else s
    | 3 =>
      if chA && a then setNib n { nib n s with edges := 1 } s
      else if chA && k.edges ≠ 0 then ctrCapture n (w32 clocks) s else s
    | 5 =>
      if !sel then s
      else if k.shot then nibErr n 2 s
      else slotDrive n 2 true true (nibPush n [.pulse] (setNib n { nib n s with shot := true } s))
    | 6 => if sel then setNib n { nib n s with edges := k.edges + 1 } s else s
    | _ => s

/-- S3 changes: it gates FUNC 0x0, and a rising edge clears the count with IDXCLR = 1. -/
def ctrIndex (n : Nat) (lvl : Bool) (s : State) : State :=
  if !nibIn n 7 s || !slotUse n 3 s then s
  else
    let v := seen n 3 lvl s
    let was := rb s (nibReg n 0x04) 26
    let s := wb (nibReg n 0x04) 26 v s
    if v && !was && rb s (nibReg n 0x80) 19 then ctrPut n 0 s else s

/-- PERIOD and DUTY as written take effect (R230). -/
def pwmTake (n : Nat) (s : State) : State :=
  setNib n { nib n s with period := rd s (nibReg n 0x84), duty := rd s (nibReg n 0x88) } s

/-- A PWM period ends: pending writes take effect, S2 goes high for DUTY PORT clocks, a timer sets CNTEVT (R229, R230). -/
def pwmBoundary (n : Nat) (s : State) : State :=
  if !nibIn n 7 s || ctrFunc n s ≠ 4 then s
  else
    let s := if rb s (nibReg n 0x80) 17 then s else pwmTake n s
    let k := nib n s
    if slotUse n 2 s then
      if k.duty = 0 then slotDrive n 2 true false (setNib n { k with fall := none } s)
      else
        let fall := if k.period ≤ k.duty then none else some (s.hub.now + 5 * k.duty.toNat)
        slotDrive n 2 true true (nibPush n [.pulse] (setNib n { k with fall := fall } s))
    else nibEvt n 6 s

/-- DUTY PORT clocks of a PWM period have passed: S2, which the nib owns, goes low (R195, R229). -/
def pwmFall (n : Nat) (s : State) : State :=
  match (nib n s).fall with
  | some t =>
    if t ≤ s.hub.now then
      let s := setNib n { nib n s with fall := none } s
      if nibIn n 7 s && owner (slotPin n 2 s) s = 1 then slotDrive n 2 true false s else s
    else s
  | none => s

def pwmFalls : List (Nat × NibSt) → State → State
  | [], s => s
  | e :: t, s => pwmFalls t (pwmFall e.1 s)

/-- At a stroke instant, a PWM with STROKE = 1 takes its pending writes (R230). -/
def pwmStroke (n : Nat) (s : State) : State :=
  if nibIn n 7 s && ctrFunc n s = 4 && rb s (nibReg n 0x80) 17 then pwmTake n s else s

def oneShotEnd (n : Nat) (s : State) : State :=
  if nibIn n 7 s && (nib n s).shot then slotDrive n 2 true false (setNib n { nib n s with shot := false } s) else s

def freqWindowEnd (n : Nat) (s : State) : State :=
  if nibIn n 7 s && ctrFunc n s = 6 then
    let c := (nib n s).edges
    ctrCapture n (w32 c) (setNib n { nib n s with edges := 0 } s)
  else s

/-! ## Faults and counters (R232, R234) -/

/-- A slot drives its pin, so that FS99 can arise: an open-drain one while it drives low, which one of a nib at work on its line or
bus may do. -/
def slotFights (n k : Nat) (s : State) : Bool :=
  let p := slotPin n k s
  let v := nib n s
  let busy := v.tx || v.csLow || v.i2cOn || v.tgt
  nibEn n s && slotUse n k s && slotOut n k (nibMode n s) s &&
    (if slotOd n k s then busy || ((pinDrive p s).1 && !(pinDrive p s).2) else (pinDrive p s).1)

/-- An output slot's pin reads the opposite of its driven level for 1 µs. -/
def outputFight (n k : Nat) (s : State) : State :=
  if k < 4 && slotFights n k s then raise 99 (w32 (n % 256 + 256 * k)) s else s

/-- Error counter `i` counts something in mode `m`; else it reads 0 (R232). -/
def errCounts (m i : Nat) : Bool :=
  if m = 1 || m = 2 || m = 5 then true else if m = 4 || m = 6 then i < 2 else if m = 7 then i < 3 else m != 3

end Sys2Proof.Machine
end

