-- ==== Sys2Proof/Machine/Aes.lean ====
section
/-! DEFINITION. AES with 128- and 256-bit keys and the AES-CMAC of NIST SP 800-38B, by which chapter 15 defines a tag (R535). Bytes
are numbers here, blocks are lists of 16. -/
namespace Sys2Proof.Machine
open Sys2Proof

/-- Doubling in GF(2^8). -/
def gfDouble (a : Nat) : Nat := if 128 ≤ a then (2 * a) ^^^ 0x11B else 2 * a

def gfMul : Nat → Nat → Nat → Nat
  | 0, _, _ => 0
  | n + 1, a, b => (if b % 2 = 1 then a else 0) ^^^ gfMul n (gfDouble a) (b / 2)

/-- The 254th power: seven squarings, each but the first followed by a product. -/
def gfInv : Nat → Nat → Nat → Nat
  | 0, _, r => r
  | n + 1, a, r => let a2 := gfMul 8 a a; gfInv n a2 (gfMul 8 r a2)

def rotl8 (a k : Nat) : Nat := (a * 2 ^ k) % 256 + a / 2 ^ (8 - k)

def sbox (a : Nat) : Nat :=
  let b := gfInv 7 a 1
  b ^^^ rotl8 b 1 ^^^ rotl8 b 2 ^^^ rotl8 b 3 ^^^ rotl8 b 4 ^^^ 0x63

def xorList (a b : List Nat) : List Nat := List.zipWith (· ^^^ ·) a b

/-- One word of the key schedule: word `i` from its predecessor and the word `nk` before. -/
def keyWord (nk i rcon : Nat) (prev back : List Nat) : List Nat :=
  let t := if i % nk = 0 then
      match prev.map sbox with
      | [a, b, c, d] => [b ^^^ rcon, c, d, a]
      | l => l
    else if 6 < nk && i % nk = 4 then prev.map sbox else prev
  xorList back t

/-- Grow the schedule (newest word first) to its full length. -/
def keyGrow (nk : Nat) : Nat → Nat → Nat → List (List Nat) → List (List Nat)
  | 0, _, _, l => l
  | n + 1, i, rcon, l =>
    let w := keyWord nk i rcon (nthD [] l 0) (nthD [] l (nk - 1))
    keyGrow nk n (i + 1) (if i % nk = 0 then gfDouble rcon else rcon) (w :: l)

def chunk4 : Nat → List Nat → List (List Nat)
  | 0, _ => []
  | n + 1, l => l.take 4 :: chunk4 n (l.drop 4)

/-- Round keys, 16 bytes each, first round first. -/
def roundKeys (key : List Nat) : List (List Nat) :=
  let nk := key.length / 4
  let ws := (keyGrow nk (4 * (nk + 7) - nk) nk 1 (chunk4 nk key).reverse).reverse
  (List.range (nk + 7)).map (fun r => ((ws.drop (4 * r)).take 4).flatten)

def shiftRows (b : List Nat) : List Nat :=
  (List.range 16).map (fun i => nthD 0 b ((i % 4) + 4 * ((i / 4 + i % 4) % 4)))

def mixCol (c : List Nat) : List Nat :=
  match c with
  | [a, b, d, e] =>
    [gfDouble a ^^^ (gfDouble b ^^^ b) ^^^ d ^^^ e, a ^^^ gfDouble b ^^^ (gfDouble d ^^^ d) ^^^ e,
     a ^^^ b ^^^ gfDouble d ^^^ (gfDouble e ^^^ e), (gfDouble a ^^^ a) ^^^ b ^^^ d ^^^ gfDouble e]
  | l => l

def aesRounds : List (List Nat) → List Nat → List Nat
  | [], b => b
  | [k], b => xorList (shiftRows (b.map sbox)) k
  | k :: t, b => aesRounds t (xorList ((chunk4 4 (shiftRows (b.map sbox))).flatMap mixCol) k)

/-- Encrypt one block under a key of 16 or 32 bytes. -/
def aesBlock (key b : List Nat) : List Nat :=
  match roundKeys key with
  | [] => b
  | k :: t => aesRounds t (xorList b k)

/-- Doubling of a block, most significant byte first, for the subkeys of CMAC. -/
def blockDouble (b : List Nat) : List Nat :=
  let n := b.foldl (fun a x => a * 256 + x) 0
  let d := (2 * n) % 2 ^ 128 ^^^ (if 2 ^ 127 ≤ n then 0x87 else 0)
  (List.range 16).map (fun i => d / 256 ^ (15 - i) % 256)

def cmacBlocks (key k1 k2 : List Nat) : Nat → List Nat → List Nat → List Nat
  | 0, x, _ => x
  | n + 1, x, m =>
    if 16 < m.length then cmacBlocks key k1 k2 n (aesBlock key (xorList x (m.take 16))) (m.drop 16)
    else
      let last := if m.length = 16 then xorList m k1 else xorList (m ++ 0x80 :: List.replicate (15 - m.length) 0) k2
      aesBlock key (xorList x last)

/-- AES-CMAC of a message. -/
def cmac (key msg : List Byte) : List Byte :=
  let k := key.map (fun b => b.toNat)
  let m := msg.map (fun b => b.toNat)
  let k1 := blockDouble (aesBlock k (List.replicate 16 0))
  (cmacBlocks k k1 (blockDouble k1) (m.length / 16 + 1) (List.replicate 16 0) m).map (fun x => BitVec.ofNat 8 x)

/-- A tag: the CMAC of the counter, little-endian, followed by the message (R535). -/
def cmacTag (key : List Byte) (ctr : Nat) (msg : List Byte) : List Byte := cmac key (leBytes 8 ctr ++ msg)

end Sys2Proof.Machine
end

