-- ==== Sys2Proof/Machine/Blocks.lean ====
section
/-! DEFINITION. The line coding of the ring lanes (R53–R55, R58, R59, R83): 64b/66b blocks, the scrambler, the comma block, the
blocks of a frame, and the pseudo-random test patterns (R72). -/
namespace Sys2Proof.Machine
open Sys2Proof

/-! ## Sync headers and block payloads (R53, R54) -/

/-- The sync header of a data block, and of a control block (R53). -/
def hdrData : BitVec 2 := 0b01#2
def hdrCtl : BitVec 2 := 0b10#2

/-- A valid sync header: 0b00 and 0b11 are invalid (R53). -/
def syncOk (h : BitVec 2) : Bool := h == hdrData || h == hdrCtl

/-- Byte 0 of a payload, the block type field of a control block (R53). -/
def blkType (p : DWord) : Nat := p.toNat % 256

/-- The payload of the eight bytes, the first byte sent first (R53). -/
def payOf (d : List Byte) : DWord := BitVec.ofNat 64 (leNat (d.take 8))

/-- The 66 bits of a block in the order sent: the sync header as R53 writes it, then the payload least significant bit first
(DEDUCED, log entry 6). -/
def Block.bits (b : Block) : List Bool :=
  b.hdr.getLsbD 1 :: b.hdr.getLsbD 0 :: (List.range 64).map (fun i => b.pay.getLsbD i)

/-- What a descrambled block is (R54). `term n` ends a frame with `n` data bytes of its own. -/
inductive BlkKind where
  | data
  | idle
  | start
  | term (n : Nat)
  | invalid
  deriving DecidableEq, Repr

/-- The terminate types, by the number of data bytes they carry (R54). -/
def termTypes : List Nat := [0x87, 0x99, 0xAA, 0xB4, 0xCC, 0xD2, 0xE1, 0xFF]

/-- Classify a descrambled block with a valid header (R54). -/
def blkKind (b : Block) : BlkKind :=
  if b.hdr = hdrData then .data
  else if blkType b.pay = 0x1E then (if b.pay = 0x1E#64 then .idle else .invalid)
  else if blkType b.pay = 0x78 then .start
  else match termTypes.findIdx? (fun t => t = blkType b.pay) with
    | some n => .term n
    | none => .invalid

/-- A full idle block: type 0x1E and eight idle control codes 0x00 (R54). -/
def idleBlock : Block := ⟨hdrCtl, 0x1E#64⟩

/-! ## The scrambler x^58 + x^39 + 1 (R55) -/

/-- The two taps of the scrambler state; bit i of the state is the line bit sent i + 1 bits ago. -/
def scrTap (st : Nat) : Nat := (st / 2 ^ 38 + st / 2 ^ 57) % 2

/-- Scramble `n` bits of `w`, least significant first: the state after, and the line bits. -/
def scramble : Nat → Nat → Nat → Nat × Nat
  | 0, st, _ => (st, 0)
  | n + 1, st, w =>
    let o := (w + scrTap st) % 2
    let r := scramble n ((2 * st + o) % 2 ^ 58) (w / 2)
    (r.1, o + 2 * r.2)

/-- Descramble `n` line bits of `w`, least significant first: the state after, and the bits recovered. -/
def descramble : Nat → Nat → Nat → Nat × Nat
  | 0, st, _ => (st, 0)
  | n + 1, st, w =>
    let o := (w + scrTap st) % 2
    let r := descramble n ((2 * st + w % 2) % 2 ^ 58) (w / 2)
    (r.1, o + 2 * r.2)

/-- A block as it leaves a transmitter whose scrambler state is `st`; the sync header is not scrambled (R55). -/
def scrambleBlk (st : Nat) (b : Block) : Nat × Block :=
  let r := scramble 64 st b.pay.toNat
  (r.1, ⟨b.hdr, BitVec.ofNat 64 r.2⟩)

/-- A block as a receiver whose descrambler state is `st` recovers it (R55). -/
def descrambleBlk (st : Nat) (b : Block) : Nat × Block :=
  let r := descramble 64 st b.pay.toNat
  (r.1, ⟨b.hdr, BitVec.ofNat 64 r.2⟩)

/-- Blocks scrambled in order. -/
def scrambleBlks : Nat → List Block → Nat × List Block
  | st, [] => (st, [])
  | st, b :: t =>
    let r := scrambleBlk st b
    let q := scrambleBlks r.1 t
    (q.1, r.2 :: q.2)

/-! ## The comma block (R58, R59) -/

/-- The fixed 56-bit pattern of a comma (R58). -/
def commaPattern : Nat := 0x3CA5F05A0FC396

/-- The comma block of a type byte: sync header 0b10, the type byte, the pattern after it (R58; the pattern's bits in the order
of R53: DEDUCED, log entry 6). -/
def commaBlock (typ : Nat) : Block := ⟨hdrCtl, BitVec.ofNat 64 (typ % 256 + commaPattern * 256)⟩

/-- The type byte is that of a comma: bits [7:5] 0b000, VER 0b01 or 0b10 (R59). -/
def commaOk (typ : Nat) : Bool := typ / 32 == 0 && (typ / 8 % 4 == 1 || typ / 8 % 4 == 2)

/-- A comma is recognised from the raw bits of a block (R59): its type byte, if it is one. -/
def commaOf (b : Block) : Option Nat :=
  if b = commaBlock (blkType b.pay) && commaOk (blkType b.pay) then some (blkType b.pay) else none

/-! ## The blocks of a frame (R83) -/

/-- The bytes of a frame: header, payload, CRC with its least significant byte first (R84, R86). -/
def frameBytes (f : Frame) : List Byte := (headerWords f).flatMap wordBytes ++ f.payload ++ wordBytes f.crc

/-- The data blocks of `n` times eight bytes. -/
def dataBlocks : Nat → List Byte → List Block
  | 0, _ => []
  | n + 1, d => ⟨hdrData, payOf d⟩ :: dataBlocks n (d.drop 8)

/-- The LEN + 3 blocks of a frame: a start block with bytes 0–6, LEN + 1 data blocks, a terminate block of type 0xD2 with the
last five bytes (R83). -/
def frameBlks (f : Frame) : List Block :=
  let d := frameBytes f
  ⟨hdrCtl, payOf (0x78#8 :: d.take 7)⟩ :: dataBlocks (f.len + 1) (d.drop 7) ++
    [⟨hdrCtl, payOf (0xD2#8 :: d.drop (7 + 8 * (f.len + 1)))⟩]

/-- The blocks of a frame that was cut through and whose end came after `blocks` blocks: the outgoing copy ends there with its
CRC complemented (R89). `f` carries the CRC that leaves. -/
def cutBlks (blocks : Nat) (f : Frame) : List Block :=
  let all := frameBlks f
  all.take (min (all.length - 1) (blocks - 1)) ++ all.drop (all.length - 1)

/-! ## The test patterns (R72) -/

/-- The two taps of a pattern: PAT 0b01 is x^9 + x^5 + 1, PAT 0b10 is x^31 + x^28 + 1 (R72). -/
def prbsTaps (pat : Nat) : Nat × Nat := if pat = 1 then (9, 5) else (31, 28)

/-- The next bit of a pattern after the bits `st`, bit i of which is the bit i + 1 bits ago. -/
def prbsNext (pat st : Nat) : Bool := (st / 2 ^ ((prbsTaps pat).1 - 1) + st / 2 ^ ((prbsTaps pat).2 - 1)) % 2 == 1

/-- A bit goes into the register of the last 31 bits. -/
def prbsShift (st : Nat) (b : Bool) : Nat := (2 * st + b2n b) % 2 ^ 31

/-- `n` bits of the generator: the register after, and the bits sent. -/
def prbsGen (pat : Nat) : Nat → Nat → Nat × List Bool
  | 0, st => (st, [])
  | n + 1, st =>
    let b := prbsNext pat st
    let r := prbsGen pat n (prbsShift st b)
    (r.1, b :: r.2)

end Sys2Proof.Machine
end

