-- ==== Sys2Proof/Machine/Link.lean ====
section
/-! DEFINITION. One link end of the ring MAC (chapter 3): the receive pool and its credits, the frames that wait for a
lane, and what becomes of them when the lane leaves UP. Ring `r` (0 = A, 1 = B) arrives on lane `r` (0 West, 1 East) and
leaves on the other lane (R82). -/
namespace Sys2Proof.Machine
open Sys2Proof

/-! ## The line of a lane (R50, R55) -/

def lane (l : Nat) (s : State) : LaneSt := tget (fun _ => {}) s.lanes l
def setLane (l : Nat) (v : LaneSt) (s : State) : State := { s with lanes := tset (fun _ => {}) s.lanes l v }

/-- A block goes on the line as it is: a comma, which leaves the scrambler as it stands (R55, R58). -/
def lineRaw (l : Nat) (b : Block) (s : State) : State := setLane l { lane l s with line := (lane l s).line ++ [b] } s

/-- Blocks go through the scrambler onto the line (R50, R55). -/
def lineSend (l : Nat) (bs : List Block) (s : State) : State :=
  let r := scrambleBlks (lane l s).txScr bs
  setLane l { lane l s with txScr := r.1, line := (lane l s).line ++ r.2 } s

/-! ## Counters and credits -/

/-- The counter of ring `r` in the pair of RING_CNT_ registers at `o` (R116). -/
def cntRing (o r n : Nat) (s : State) : State := bump (ringReg (o + 4 * r)) n s

def quadGet (c : Nat) (q : Quad) : Nat := if c = 0 then q.c0 else if c = 1 then q.c1 else if c = 2 then q.c2 else q.c3
def quadSet (c v : Nat) (q : Quad) : Quad :=
  if c = 0 then { q with c0 := v } else if c = 1 then { q with c1 := v } else if c = 2 then { q with c2 := v }
  else { q with c3 := v }
def quadAdd (c n : Nat) (q : Quad) : Quad := quadSet c (quadGet c q + n) q

/-- Receive pool sizes in units (R91). -/
def poolQuad : Quad := ⟨16, 32, 32, 64⟩

/-- Units returned and not yet reported of any class have reached 10 (R92). -/
def updReached (k : LinkSt) : Bool := (List.range 4).any (fun c => 10 ≤ quadGet c k.given - quadGet c k.told)

/-- Return `n` units of class `c` to the partner of lane `l` (R91, R92). -/
def creditReturn (l c n : Nat) (s : State) : State :=
  if laneUp l s then
    let k := link l s
    let k := { k with given := quadAdd c n k.given }
    setLink l { k with updDue := k.updDue || updReached k } s
  else s

/-- Units of the blocks actually received (R91). -/
def blockUnits (blocks : Nat) : Nat := ceilDiv blocks 8

/-- A copy discarded at a lane that is not in UP is counted (R105). -/
def broken (f : Frame) (s : State) : State := cntRing 0x080 (b2n f.ring) 1 s

/-- A pass-through frame has left its pool: the credits of a frame whose end has arrived return to the lane it came in on, if
they are of that lane's present link-up (R66, R91). -/
def poolLeave (o : OutFrame) (s : State) : State :=
  match o.from_ with
  | some r => if o.open_ || !o.owes then s else creditReturn r (o.f.cls % 4) (frameUnits o.f.len) s
  | none => s

/-- A local copy of a request is removed before it was sent: it is none of the copies whose return shows an absent destination
(R138). -/
def copyLost (o : OutFrame) (s : State) : State :=
  let t := o.f.tag % 1024
  let v := tget (fun _ => {}) s.tx.tags t
  if o.from_.isSome || v.use ≠ .out || v.dest ≠ o.f.dst || o.f.typ ≠ (if v.kind = 0 then 2 else 1) || v.kind = 2 then s
  else { s with tx := { s.tx with tags := tset (fun _ => {}) s.tx.tags t { v with copies := v.copies - 1 } } }

/-- Discard every frame waiting for lane `l`; a pass-through frame whose end has arrived returns its credits (R105). -/
def breakFrames : List OutFrame → State → State
  | [], s => s
  | o :: t, s => breakFrames t (copyLost o (poolLeave o (broken o.f s)))

def breakAll (l : Nat) (s : State) : State :=
  let k := link l s
  breakFrames (k.pass ++ k.loc) (setLink l { k with pass := [], loc := [] } s)

/-- The copy `id` that lane `l` is sending, its end not yet known. -/
def openWire (l id : Nat) (s : State) : Option OutFrame := (link l s).wire.find? (fun o => o.id = id && o.open_)

/-- The end of the copy `id` that lane `l` is cutting through is known: `f` as it leaves, and its blocks (R103). The blocks of a
copy cut through go on the model's line when its end is known (DESIGN CHOICE, log entry 7). -/
def closeWire (l id : Nat) (f : Frame) (bs : List Block) (s : State) : State :=
  let k := link l s
  let s := setLink l { k with wire := k.wire.map (fun o => if o.id = id then { o with f := f, open_ := false } else o) } s
  if laneUp l s then lineSend l bs s else s

/-- The copy `id` that lane `l` is sending ends well. -/
def endWire (l id : Nat) (s : State) : State :=
  match openWire l id s with
  | some o => closeWire l id o.f (frameBlks o.f) s
  | none => s

/-- Complement the CRC of the copy `id` that lane `l` is sending, which ends after `blocks` blocks (R89). -/
def spoilWire (l id blocks : Nat) (s : State) : State :=
  match openWire l id s with
  | some o =>
    let f := { o.f with crc := ~~~ o.f.crc }
    closeWire l id f (cutBlks blocks f) s
  | none => s

/-- The forwarded copy of a frame that turned out bad: dropped while it waits, its CRC complemented once it has begun. -/
def spoilCopy (l id blocks : Nat) (s : State) : State :=
  let k := link l s
  if k.pass.any (fun o => o.id = id) then setLink l { k with pass := k.pass.filter (fun o => o.id ≠ id) } s
  else spoilWire l id blocks s

/-- End the frame being received on lane `l` as bad (R54, R66): a length mismatch of R89. -/
def badEnd (l blocks : Nat) (s : State) : State :=
  match (link l s).rx with
  | none => s
  | some r =>
    let s := setLink l { link l s with rx := none } s
    let s := if r.dead then s else cntRing 0x068 l 1 s
    let s := if r.forward then spoilCopy (1 - l) r.id blocks s else s
    creditReturn l r.hdr.cls (blockUnits blocks) s

/-- Frames of lane `l` that still wait here owe their credits to no link-up any more (R66). -/
def disown (l : Nat) (s : State) : State :=
  let k := link (1 - l) s
  let s := setLink (1 - l) { k with pass := k.pass.map (fun o => if o.from_ = some l then { o with owes := false } else o) } s
  { s with ring := { s.ring with sinks := s.ring.sinks.map (fun w => if w.ring = l then { w with owes := false } else w) } }

/-- The link end leaves UP: the frame under reception ends as bad, the waiting frames are discarded, and the totals are
forgotten (R66, R105). -/
def linkLeave (l : Nat) (s : State) : State :=
  let s := disown l (breakAll l (badEnd l 0 s))
  setLink l { ({} : LinkSt) with wire := (link l s).wire.map (fun o => { o with open_ := false }) } s

/-- The link end enters UP: every total is 0, the pool is granted, and the first frame is a credit update (R92). -/
def linkEnter (l : Nat) (s : State) : State :=
  setLink l { ({} : LinkSt) with wire := (link l s).wire, given := poolQuad, updDue := true } s

/-- Units held for class `c` of lane `l`, modulo 2^16 (R92). -/
def creditsHeld (l c : Nat) (s : State) : Nat :=
  let k := link l s
  (quadGet c k.granted + 65536 - quadGet c k.charged % 65536) % 65536

/-- RING_CRED as read for lane `l`: 0 while the lane is not in UP (R120). -/
def credWord (l : Nat) (s : State) : Word :=
  if laneUp l s then
    w32 (sumN ((List.range 4).map (fun c => min 255 (creditsHeld l c s) * 256 ^ c)))
  else 0

end Sys2Proof.Machine
end

