-- ==== Sys2Proof/Machine/Lanes.lean ====
section
/-! DEFINITION. The ring lanes (chapter 2): training, the comma, link-up and link-down, the elastic buffer, equalisation and
the test patterns. Lane 0 is West, lane 1 East. -/
namespace Sys2Proof.Machine
open Sys2Proof

/-- LANE_STATUS.STATE (R63, R77). -/
def laneState (l : Nat) (s : State) : Nat := rf s (laneReg l 0x004) 2 0
def laneTo (l st : Nat) (s : State) : State := wf (laneReg l 0x004) 2 0 st s
def laneBit (l i : Nat) (s : State) : Bool := rb s (laneReg l 0x004) i
def putLaneBit (l i : Nat) (b : Bool) (s : State) : State := wb (laneReg l 0x004) i b s
def blockLock (l : Nat) (s : State) : Bool := laneBit l 5 s
def sfLock (l : Nat) (s : State) : Bool := laneBit l 6 s

/-- The version this lane offers (R63, R65). -/
def offered (l : Nat) (s : State) : Nat := if laneBit l 12 s then 1 else rf s (laneReg l 0) 3 2

/-- Type byte of the comma this lane sends (R58). VER is the version offered in every state: R63 gives VER for DETECT only, and
what it is once a version is agreed stands nowhere (DESIGN CHOICE, log entry 8). -/
def commaType (l : Nat) (s : State) : Nat := 8 * offered l s + 2 * (lane l s).stage + l

/-- A notice of lane `l` (R67). -/
def laneNotice (l code : Nat) (info : Word) (s : State) : State := notify 2 code l info s

/-- The training counts and the agreed version start over, and the elastic buffer is empty (DESIGN CHOICE, log entry 9). -/
def laneClear (l : Nat) (s : State) : State :=
  let s := wf (laneReg l 0x018) 5 0 0 s
  let k := { lane l s with stage := 0, verRun := 0, lastVer := 0, ackRun := 0, upRun := 0, sideRun := 0, ratePend := false }
  setLane l { k with agreed := 0, ackSent := false, elastic := [] } s

/-- A loss of block lock, of superframe lock or of both is counted, in any state (R628). A loss of block lock ends superframe
lock too (R61) and counts once, not once for each lock (DESIGN CHOICE, log entry 10). -/
def lockLost (l : Nat) (s : State) : State := wb (laneReg l 0x008) 2 true (bump (laneReg l 0x2C) 1 s)

/-- The lane has neither block lock nor superframe lock any more; a lock it held is lost, whatever the cause (R56, R61, R628). -/
def dropLocks (l : Nat) (s : State) : State :=
  let s := if blockLock l s || sfLock l s then lockLost l s else s
  let s := setLane l { lane l s with hdrRun := 0, winN := 0, winBad := 0, pos := none, missRun := 0 } s
  putLaneBit l 5 false (putLaneBit l 6 false s)

/-- Locks of block and superframe, CDR lock, VER, MISWIRE and PRBS_LOCK read 0; the rate is `rate` (R63, R77). That a miswired
lane which starts training again shows no MISWIRE, so that a new episode raises again, is the model's choice: R62 names only
four correct commas (DESIGN CHOICE, log entry 11). -/
def laneUnlock (l : Nat) (rate : Bool) (s : State) : State :=
  wf (laneReg l 0x004) 9 8 0 (putLaneBit l 10 rate (putLaneBit l 4 false (dropLocks l
    (putLaneBit l 11 false (putLaneBit l 13 false s)))))

/-- Back to DETECT at 10.3125 Gbaud, sending OFFER (R63, R66, R628); DISABLED while LINK_EN = 0. -/
def toDetect (l : Nat) (s : State) : State :=
  laneTo l (b2n (rb s (laneReg l 0) 0)) (laneUnlock l false (laneClear l s))

/-- The generator's first bits: a value the spec leaves open, but not all zero, which is no point of the pattern (R72). -/
def prbsSeed (pat : Nat) (w : Word) : Nat :=
  let n := w.toNat % 2 ^ (prbsTaps pat).1
  if n = 0 then 1 else n

/-- State PRBS at the rate of PRATE; the three counts clear, the checker reseeds (R72). Where the pattern begins is not stated: a
free value. -/
def toPrbs (l : Nat) (s : State) : State :=
  let p := rf s (laneReg l 0x40) 5 4
  let rate := if p = 1 then false else if p = 2 then true else laneBit l 10 s
  let s := laneTo l 7 (laneUnlock l rate (laneClear l s))
  let (w, s) := fresh s
  let pat := rf s (laneReg l 0x40) 1 0
  let s := setLane l { lane l s with prbsHi := 0, prbs := { gen := prbsSeed pat w, sent := (lane l s).prbs.sent } } s
  wr (laneReg l 0x44) 0 (wr (laneReg l 0x48) 0 (wr (laneReg l 0x4C) 0 s))

/-- The fault source of a link-down cause (R66); FS40 is the ring MAC's, raised with cause 0x05 (R93). -/
def causeSource (l cause : Nat) : Option Nat :=
  if cause = 1 || cause = 2 || cause = 3 || cause = 8 then some (32 + l)
  else if cause = 4 then some (34 + l)
  else if cause = 5 then some 40
  else none

/-- Leave UP for `cause` (R66): the ring MAC is told, the frame under reception ends as bad, the link's credits reset. In
another state the lane only starts over. -/
def linkDown (l cause : Nat) (s : State) : State :=
  let up := laneUp l s
  let s := if up then
      let s := wb (laneReg l 0x008) 1 true (bump (laneReg l 0x38) 1 s)
      let s := wr (laneReg l 0x01C) 0 (laneNotice l 0x11 (w32 cause) s)
      match causeSource l cause with
      | some n => raiseFree n s
      | none => s
    else s
  let s := if up then linkLeave l s else s
  if cause = 7 then toPrbs l s else toDetect l s

/-- Enter UP (R63): event, notice 0x10, and the link's credits start (R92). -/
def linkUp (l : Nat) (s : State) : State :=
  let s := wb (laneReg l 0x008) 0 true (laneTo l 6 s)
  let fill := rf s (laneReg l 0x018) 5 0
  let s := wf (laneReg l 0x018) 21 16 fill (wf (laneReg l 0x018) 13 8 fill s)
  linkEnter l (laneNotice l 0x10 (w32 (256 * rf s (laneReg l 0x004) 9 8 + b2n (laneBit l 10 s))) s)

/-- TRAIN: adaptation begins, STAGE = ACK is sent, and VER shows the agreed version (R63, R77). -/
def toTrain (l : Nat) (s : State) : State :=
  laneTo l 5 (wf (laneReg l 0x004) 9 8 (lane l s).agreed (setLane l { lane l s with stage := 1, upRun := 0 } s))

/-- RATE_CHANGE: the rate switches at the next own superframe boundary (R63, R64). -/
def toRateChange (l : Nat) (s : State) : State :=
  laneTo l 4 (wf (laneReg l 0x004) 9 8 (lane l s).agreed (putLaneBit l 11 false (setLane l { lane l s with ratePend := true } s)))

/-- Blocks are decoded in this state (R72: no coding in PRBS; R63: nothing in DISABLED). -/
def laneCoded (l : Nat) (s : State) : Bool := laneState l s != 0 && laneState l s != 7

/-! ## Signal and locks (R52, R56, R57, R61, R628) -/

/-- Signal detect and CDR lock: DETECT moves to ALIGN; in RATE_CHANGE the CDR relocks once the rate has switched. -/
def laneSignal (l : Nat) (s : State) : State :=
  let st := laneState l s
  if st = 0 then s
  else if st = 4 && (lane l s).ratePend then s
  else
    let s := putLaneBit l 3 true (putLaneBit l 4 true s)
    if st = 1 then laneTo l 2 s else s

/-- Loss of signal detect (`sig`) or of CDR lock alone; locks held are lost with it (R66, R628). -/
def laneSignalLoss (l : Nat) (sig : Bool) (s : State) : State :=
  let st := laneState l s
  let s := putLaneBit l 4 false (if sig then putLaneBit l 3 false s else s)
  if st = 6 then linkDown l 1 s
  else if st = 2 || st = 3 || st = 5 then toDetect l s
  else if st = 4 then dropLocks l s
  else s

/-- Block lock is lost (R57): R64 in NEGOTIATE, R66 in UP, R628 else. -/
def blockLockEnds (l : Nat) (s : State) : State :=
  let st := laneState l s
  let k := lane l s
  if st = 6 then linkDown l 2 s
  else if st = 3 && k.ackSent && k.agreed = 2 then toRateChange l (dropLocks l s)
  else if st = 2 || st = 3 || st = 5 then toDetect l s
  else dropLocks l s

/-- The sync header of the block at the present boundary. An invalid one is counted; without lock it slips the boundary by one
bit and the count of valid headers restarts, and 64 valid headers in a row give block lock; with lock, 16 invalid headers in one
window of 64 blocks lose it (R56, R57). The windows follow one another from the block that gave lock (DESIGN CHOICE, log
entry 12). -/
def rxHeader (l : Nat) (h : BitVec 2) (s : State) : State :=
  if !laneCoded l s then s
  else
    let ok := syncOk h
    let s := if ok then s else bump (laneReg l 0x20) 1 s
    let k := lane l s
    if blockLock l s then
      let bad := k.winBad + b2n (!ok)
      if 16 ≤ bad then blockLockEnds l s
      else if k.winN + 1 = 64 then setLane l { k with winN := 0, winBad := 0 } s
      else setLane l { k with winN := k.winN + 1, winBad := bad } s
    else if !laneBit l 4 s then s
    else if !ok then setLane l { k with slip := (k.slip + 1) % 66, hdrRun := 0 } s
    else if k.hdrRun + 1 < 64 then setLane l { k with hdrRun := k.hdrRun + 1 } s
    else putLaneBit l 5 true (setLane l { k with hdrRun := 0, winN := 0, winBad := 0, pos := none, missRun := 0 } s)

/-- The sync headers of the blocks that arrive, in order (BLOCK_LOCK_ACQUIRE, BLOCK_LOCK_LOSS). -/
def rxHeaders (l : Nat) : List (BitVec 2) → State → State
  | [], s => s
  | h :: t, s => rxHeaders l t (rxHeader l h s)

/-- An invalid sync header (INVALID_SYNC_HEADER): 0b11 if `hi`, else 0b00 (R53, R57). -/
def invalidHeader (l : Nat) (hi : Bool) (s : State) : State := rxHeader l (if hi then 0b11#2 else 0b00#2) s

/-! ## Elastic buffer (R69, R80) -/

/-- Note a fill of the elastic buffer: FILL, MINFILL and MAXFILL (R80). -/
def noteFill (l n : Nat) (s : State) : State :=
  let s := wf (laneReg l 0x018) 5 0 n s
  let s := if n < rf s (laneReg l 0x018) 13 8 then wf (laneReg l 0x018) 13 8 n s else s
  if rf s (laneReg l 0x018) 21 16 < n then wf (laneReg l 0x018) 21 16 n s else s

/-- No block is deleted or inserted inside a frame (R69). -/
def inFrame (l : Nat) (s : State) : Bool := (link l s).rx.isSome

/-- The buffer holds `q` now. A fill of 32, or of 0 with a frame in progress, sets EOVF in any state and ends link-up with cause
0x04 (R69). -/
def putElastic (l : Nat) (q : List Block) (s : State) : State :=
  let s := noteFill l q.length (setLane l { lane l s with elastic := q } s)
  if q.length < 32 && !(q.isEmpty && inFrame l s) then s
  else
    let s := wb (laneReg l 0x008) 4 true s
    if laneUp l s then linkDown l 4 s else s

/-- A descrambled block enters the elastic buffer; a full one takes none (R69). -/
def elasticPut (l : Nat) (b : Block) (s : State) : State :=
  let q := (lane l s).elastic
  if q.length < 32 then putElastic l (q ++ [b]) s else s

/-- Blocks are received: coded, with block lock (R50, R56). -/
def laneRx (l : Nat) (s : State) : Bool := laneCoded l s && blockLock l s

/-- A block that is no comma: it is descrambled and enters the elastic buffer. An invalid block is counted and ends the frame it
falls in, `blocks` blocks of which have arrived, as bad (R54, R55, R69). -/
def rxBlock (l blocks : Nat) (b : Block) (s : State) : State :=
  let (st, c) := descrambleBlk (lane l s).rxScr b
  let s := setLane l { lane l s with rxScr := st } s
  let s := if blkKind c = .invalid && syncOk b.hdr then badEnd l blocks (bump (laneReg l 0x24) 1 s) else s
  elasticPut l c s

/-- One move of the elastic buffer. A comma is removed ahead of the descrambler and the buffer (R55, R59). -/
def bufMove (l : Nat) (e : BufEv) (s : State) : State :=
  if !laneRx l s then s
  else match e with
    | .inp b => if (commaOf b).isSome then s else rxBlock l 0 b s
    | .out => match (lane l s).elastic with
      | [] => s
      | _ :: q => putElastic l q s

def bufMoves (l : Nat) : List BufEv → State → State
  | [], s => s
  | e :: t, s => bufMoves l t (bufMove l e s)

/-- ELASTIC_IDLE_DELETE: after the moves `es`, at a fill of 20 or more, a full idle block at the head is deleted and counted, not
inside a frame (R69). -/
def idleDelete (l : Nat) (es : List BufEv) (s : State) : State :=
  let s := bufMoves l es s
  match (lane l s).elastic with
  | [] => s
  | b :: q =>
    if laneRx l s && !inFrame l s && 20 ≤ q.length + 1 && b = idleBlock then bump (laneReg l 0x34) 1 (putElastic l q s) else s

/-- ELASTIC_IDLE_INSERT: after the moves `es`, at a fill of 12 or less, an idle block is inserted in the gap between frames and
counted (R69). -/
def idleInsert (l : Nat) (es : List BufEv) (s : State) : State :=
  let s := bufMoves l es s
  let q := (lane l s).elastic
  if laneRx l s && !inFrame l s && q.length ≤ 12 then bump (laneReg l 0x30) 1 (putElastic l (idleBlock :: q) s) else s

/-- An invalid block (R54): `b` as received, `blocks` blocks of the frame in progress arrived. -/
def invalidBlock (l blocks : Nat) (b : Block) (s : State) : State :=
  if laneRx l s && (commaOf b).isNone then rxBlock l blocks b s else s

/-! ## Superframe lock (R61) -/

/-- Superframe lock is lost alone (R61): R66 in UP, R628 else. -/
def sfLockEnds (l : Nat) (s : State) : State :=
  let st := laneState l s
  if st = 6 then linkDown l 3 s
  else if st = 2 || st = 3 || st = 5 then toDetect l s
  else lockLost l (putLaneBit l 6 false (setLane l { lane l s with pos := none, missRun := 0 } s))

/-- `n` blocks arrive, none of them a comma. Under superframe lock each comma position they pass is a missing comma, counted; the
third in a row ends the lock (R61). -/
def passBlocks (l n : Nat) (s : State) : State :=
  let k := lane l s
  match k.pos with
  | none => s
  | some p =>
    let q := p + n
    if q < 4096 then setLane l { k with pos := some q } s
    else if !sfLock l s then setLane l { k with pos := none } s
    else
      let s := bump (laneReg l 0x28) (min (q / 4096) (3 - k.missRun)) s
      if 3 ≤ k.missRun + q / 4096 then sfLockEnds l s
      else setLane l { k with pos := some (q % 4096), missRun := k.missRun + q / 4096 } s

/-- SUPERFRAME_LOCK_LOSS: `n` blocks with no comma (R61). -/
def sfLockLoss (l n : Nat) (s : State) : State := if laneRx l s then passBlocks l n s else s

/-- Two commas exactly 4096 blocks apart (R61). -/
def sfLockGain (l : Nat) (s : State) : State :=
  let st := laneState l s
  let s := putLaneBit l 6 true s
  if st = 2 then laneTo l 3 (setLane l { lane l s with verRun := 0, ackRun := 0, sideRun := 0 } s)
  else if st = 4 then toTrain l s
  else s

/-! ## Commas (R58–R63) -/

/-- A comma of the own SIDE (R62). -/
def miswire (l typ : Nat) (s : State) : State :=
  let s := setLane l { lane l s with verRun := 0, sideRun := 0 } s
  if laneBit l 11 s then s
  else
    let s := putLaneBit l 11 true (wb (laneReg l 0x008) 3 true s)
    raiseFree (36 + l) (laneNotice l 0x12 (w32 typ) s)

/-- NEGOTIATE at a comma (R62, R63): SIDE, then four commas of one VER agree the version, then two ACKs with V = 2. In a miswire
episode the lane leaves only once four commas in a row carry the correct SIDE. -/
def negotiate (l typ : Nat) (s : State) : State :=
  if typ % 2 = l then miswire l typ s
  else
    let k := lane l s
    let ver := typ / 8 % 4
    let run := if ver = k.lastVer then k.verRun + 1 else 1
    let k := { k with sideRun := k.sideRun + 1, verRun := run, lastVer := ver, ackRun := k.ackRun + b2n (typ / 2 % 4 == 1) }
    let s := setLane l k s
    let s := if 4 ≤ k.sideRun then putLaneBit l 11 false s else s
    let s := if k.stage = 0 && 4 ≤ run && !laneBit l 11 s then
        setLane l { k with stage := 1, agreed := min (offered l s) ver } s else s
    let k := lane l s
    if laneBit l 11 s then s
    else if k.stage = 1 && k.agreed = 1 then toTrain l s
    else if k.stage = 1 && k.agreed = 2 && 2 ≤ k.ackRun then toRateChange l s
    else s

/-- What a comma at its place does under superframe lock (R62, R63, R66). -/
def commaTrain (l typ : Nat) (s : State) : State :=
  let st := laneState l s
  if st = 3 then negotiate l typ s
  else if st = 5 then
    let k := lane l s
    let run := if typ / 2 % 4 = 2 && k.stage = 2 then k.upRun + 1 else 0
    let s := setLane l { k with upRun := run } s
    if 2 ≤ run then linkUp l s else s
  else if st = 6 && typ / 2 % 4 ≠ 2 then linkDown l 8 s
  else s

/-- A comma of type byte `typ` (R59, R61). At an unexpected position under superframe lock it is counted and otherwise ignored;
before lock, two commas 4096 blocks apart give it. Commas that were missed between two received ones do not break the runs of
R63 (DESIGN CHOICE, log entry 13). -/
def commaAt (l typ : Nat) (s : State) : State :=
  let k := lane l s
  let due := k.pos == some 4095
  if sfLock l s && !due then
    setLane l { k with pos := k.pos.map (fun p => p + 1) } (bump (laneReg l 0x28) 1 s)
  else
    let s := wr (laneReg l 0x00C) (w32 typ) (setLane l { k with pos := some 0, missRun := 0 } s)
    if sfLock l s then commaTrain l typ s
    else if due then sfLockGain l s
    else s

/-- COMMA_RECEIVE: block `b` arrives, `gap` blocks with no comma after the last block given. A block that is no comma is taken as
any other; `blocks` blocks of the frame in progress have arrived (R54, R59, R61). -/
def commaReceive (l : Nat) (b : Block) (gap blocks : Nat) (s : State) : State :=
  if !laneRx l s then s
  else
    let s := passBlocks l gap s
    if !laneRx l s then s
    else match commaOf b with
      | some typ => commaAt l typ s
      | none => rxBlock l blocks b (passBlocks l 1 s)

/-- SUPERFRAME_LOCK_ACQUIRE: the comma blocks `b` and, exactly 4096 blocks later, `c` (R61). -/
def sfLockAcquire (l : Nat) (b c : Block) (s : State) : State := commaReceive l c 4095 0 (commaReceive l b 0 0 s)

/-- Block 0 of an own superframe: the comma is sent, and a pending rate switch happens (R60, R63). -/
def commaSend (l : Nat) (s : State) : State :=
  if !laneCoded l s then s
  else
    let typ := commaType l s
    let k := lane l s
    let s := lineRaw l (commaBlock typ) (setLane l { k with sentComma := typ, ackSent := k.ackSent || k.stage == 1 } s)
    if (lane l s).ratePend then
      let s := setLane l { lane l s with ratePend := false } s
      putLaneBit l 10 true (putLaneBit l 4 false (dropLocks l s))
    else s

/-- RATE_CHANGE has not succeeded in 10 ms (R65). -/
def rateTimeout (l : Nat) (s : State) : State :=
  if laneState l s ≠ 4 then s
  else toDetect l (laneNotice l 0x13 0 (putLaneBit l 12 true (wb (laneReg l 0x008) 5 true s)))

/-- LANE_RXEQ shows the CTLE step and the first DFE tap (R80); all five taps are kept (R68). -/
def putRxeq (l ctle : Nat) (dfe : List Int) (s : State) : State :=
  let s := setLane l { lane l s with dfe := dfe } s
  wr (laneReg l 0x014) (w32 ((BitVec.ofInt 8 (nthD 0 dfe 0)).toNat * 16 + ctle % 16)) s

/-- Adaptation has run 2 ms and the last 1 ms was clean: STAGE = UP is sent from now on (R63); the settings reached. -/
def trainEnd (l ctle : Nat) (dfe : List Int) (s : State) : State :=
  if laneState l s ≠ 5 then s
  else putRxeq l ctle dfe (setLane l { lane l s with stage := 2 } s)

/-- A bound of R63 has passed (R628). A miswired lane stays in NEGOTIATE (R62). -/
def stateTimeout (l : Nat) (s : State) : State :=
  let st := laneState l s
  if st = 2 || st = 5 || (st = 3 && !laneBit l 11 s) then toDetect l s else s

/-! ## Equalisation (R68, R79, R80) -/

/-- One value moved toward another by at most one step (R68). The step of a DFE tap is 1 mV, the unit in which R80 shows it
(DESIGN CHOICE, log entry 14). -/
def stepToward (x y : Int) : Int := if x < y then x + 1 else if y < x then x - 1 else x

/-- Continuous adaptation in UP (R68): the CTLE step and the five DFE taps it asks for. -/
def adaptStep (l ctle : Nat) (dfe : List Int) (s : State) : State :=
  if laneUp l s && rb s (laneReg l 0) 4 then
    let c := stepToward (rf s (laneReg l 0x014) 3 0) (min 15 ctle)
    putRxeq l c.toNat (List.zipWith stepToward (lane l s).dfe dfe) s
  else s

/-- LANE_TXEQ as stored: a value above a field's maximum is that maximum (R79). -/
def txeqWrite (l : Nat) (v : Word) (s : State) : State :=
  wr (laneReg l 0x010) (w32 (fld v 19 16 * 65536 + min 12 (fld v 11 8) * 256 + min 8 (fld v 3 0))) s

/-- LANE_TXEQ takes effect (R68). -/
def txeqApply (l : Nat) (s : State) : State := setLane l { lane l s with txeq := rd s (laneReg l 0x010) } s

/-- The eye margin as measured, in UP only (R80). -/
def marginUpdate (l height width : Nat) (s : State) : State :=
  if laneUp l s then wr (laneReg l 0x01C) (w32 (height % 256 * 256 + width % 256)) s else s

/-! ## Control registers (R72, R76, R81) -/

/-- A write of LANE_CTL (R63, R65, R76). RETRAIN in state PRBS leads to DETECT as from any other state, though PAT is still set:
R76 makes no exception, R63 and R66 name only PAT = 0b00 as the way from PRBS to DETECT (DESIGN CHOICE, log entry 15). -/
def laneCtlWrite (l : Nat) (v : Word) (s : State) : State :=
  let was := rb s (laneReg l 0) 0
  let s := stm (laneReg l 0) 0x11#32 v s
  let s := if fld v 3 2 = 1 || fld v 3 2 = 2 then wf (laneReg l 0) 3 2 (fld v 3 2) s else s
  if was ≠ bit v 0 then
    let s := putLaneBit l 12 false s
    if was then linkDown l 6 s
    else if rf s (laneReg l 0x40) 1 0 ≠ 0 then toPrbs l s
    else toDetect l s
  else if bit v 1 && bit v 0 then linkDown l 6 (putLaneBit l 12 false s)
  else s

/-- A write of LANE_PRBS_CTL (R72, R81). -/
def prbsCtlWrite (l : Nat) (v : Word) (s : State) : State :=
  let s := stm (laneReg l 0x40) 0xC#32 v s
  let s := if fld v 5 4 = 3 then s else wf (laneReg l 0x40) 5 4 (fld v 5 4) s
  let s := if fld v 1 0 = 3 then s else wf (laneReg l 0x40) 1 0 (fld v 1 0) s
  let s := if rb s (laneReg l 0x40) 3 then s else
      putLaneBit l 13 false (setLane l { lane l s with prbs := { (lane l s).prbs with chk := 0, taken := 0, run := 0, win := [] } } s)
  if fld v 1 0 = 1 || fld v 1 0 = 2 then
    if laneState l s = 0 then s else linkDown l 7 s
  else if laneState l s = 7 && fld v 1 0 = 0 then toDetect l s
  else s

/-- The checker runs (R72, R73). -/
def prbsChecks (l : Nat) (s : State) : Bool := laneState l s == 7 && rb s (laneReg l 0x40) 3

/-- One compared bit is added to the 64-bit count, a mismatch to LANE_PRBS_ERR (R73). -/
def prbsCount (l : Nat) (err : Bool) (s : State) : State :=
  let n := (lane l s).prbsHi.toNat * 4294967296 + (rd s (laneReg l 0x48)).toNat + 1
  let s := setLane l { lane l s with prbsHi := w32 (n / 4294967296) } s
  bump (laneReg l 0x44) (b2n err) (wr (laneReg l 0x48) (w32 n) s)

/-- The checker with lock takes a bit: it is compared with the pattern, and more than 64 mismatches in 256 bits drop the lock
(R73). -/
def prbsLocked (l : Nat) (b : Bool) (s : State) : State :=
  let k := lane l s
  let p := prbsNext (rf s (laneReg l 0x40) 1 0) k.prbs.chk
  let win := ((p != b) :: k.prbs.win).take 256
  let s := prbsCount l (p != b) s
  if 64 < (win.filter id).length then
    putLaneBit l 13 false (setLane l { lane l s with prbs := { k.prbs with chk := 0, taken := 0, run := 0, win := [] } } s)
  else setLane l { lane l s with prbs := { k.prbs with chk := prbsShift k.prbs.chk p, win := win } } s

/-- The checker without lock takes a bit: it seeds itself, and 64 bits in a row that match the pattern give lock (R73). -/
def prbsSeeding (l : Nat) (b : Bool) (s : State) : State :=
  let k := lane l s
  let pat := rf s (laneReg l 0x40) 1 0
  let hit := (prbsTaps pat).1 ≤ k.prbs.taken && prbsNext pat k.prbs.chk == b
  let run := if hit then k.prbs.run + 1 else 0
  let s := setLane l { k with prbs := { k.prbs with chk := prbsShift k.prbs.chk b, taken := k.prbs.taken + 1, run := run, win := [] } } s
  if run = 64 then putLaneBit l 13 true s else s

/-- In the time of one received bit the generator, while GEN = 1, sends one: both directions run at one rate (R51, R72). -/
def prbsSend (l : Nat) (s : State) : State :=
  if laneState l s = 7 && rb s (laneReg l 0x40) 2 then
    let k := lane l s
    let b := prbsNext (rf s (laneReg l 0x40) 1 0) k.prbs.gen
    setLane l { k with prbs := { k.prbs with gen := prbsShift k.prbs.gen b, sent := k.prbs.sent ++ [b] } } s
  else s

/-- A received bit in state PRBS (R72, R73). -/
def prbsBit (l : Nat) (b : Bool) (s : State) : State :=
  let s := prbsSend l s
  if !prbsChecks l s then s else if laneBit l 13 s then prbsLocked l b s else prbsSeeding l b s

/-- The bits received since the last command of the lane that brings bits, in order (R73). -/
def prbsBits (l : Nat) : List Bool → State → State
  | [], s => s
  | b :: t, s => prbsBits l t (prbsBit l b s)

/-- A read of LANE_PRBS_BITS_LO captures the high word (R73). -/
def prbsLoRead (l : Nat) (s : State) : State := wr (laneReg l 0x4C) (lane l s).prbsHi s

/-- One full idle block is sent, in each run of 2048 blocks (R70). -/
def forcedIdle (l : Nat) (s : State) : State := if laneCoded l s then lineSend l [idleBlock] s else s

end Sys2Proof.Machine
end

