-- ==== Sys2Proof/Machine/Ring.lean ====
section
/-! DEFINITION. The ring MAC (chapter 3): header decisions, the end of a frame, arbitration, credits and audits, the
duplicate filter, presence, closure and isolation. -/
namespace Sys2Proof.Machine
open Sys2Proof

/-! ## Own node, closure, presence (R106–R108, R115, R122) -/

def setRing (v : RingSt) (s : State) : State := { s with ring := v }

/-- The first removal since bit `i` of RING_EVT was clear creates notice 0x23 (R99, R104, R115); FS43 or FS44. -/
def removal (stale : Bool) (f : Frame) (s : State) : State :=
  let i := if stale then 4 else 3
  let info := f.src % 256 * 256 + f.dst % 256
  let first := !rb s ringEvt i
  let s := cntRing (if stale then 0x078 else 0x070) (b2n f.ring) 1 (wb ringEvt i true s)
  let s := raise (if stale then 44 else 43) (w32 info) s
  if first then notify 2 0x23 (b2n f.ring) (w32 (b2n stale * 65536 + info)) s else s

/-- The bit of node `n` for ring `r` in RING_SEEN (R122). -/
def putSeen (n r : Nat) (b : Bool) (s : State) : State := wb (ringReg (0x100 + 4 * (n / 16))) (2 * (n % 16) + r) b s

/-- The pair of node `n` (B, A) as RING_SEEN shows it. -/
def seenPair (n : Nat) (s : State) : Nat := 2 * b2n (seenOn n 1 s) + b2n (seenOn n 0 s)

/-- RING_SEENw: nodes 0 and 255 read 0, the own node's pair reads CLOSED_B and CLOSED_A (R122). -/
def seenVal (w : Nat) (s : State) : Word :=
  let v := rd s (ringReg (0x100 + 4 * w))
  let v := if w = 0 then setFld v 1 0 0 else if w = 15 then setFld v 31 30 0 else v
  if ownNode s / 16 = w && ownNode s ≠ 0 && ownNode s ≠ 255 then
    setFld v (2 * (ownNode s % 16) + 1) (2 * (ownNode s % 16)) (rf s ringStatus 1 0)
  else v

/-- A change of a node's bit creates notice 0x22; nodes 0, 255 and the own node have none (R115, R122). -/
def seenChange (n r : Nat) (b : Bool) (s : State) : State :=
  if n = 0 || n = 255 || n = ownNode s || seenOn n r s = b then s
  else
    let s := putSeen n r b s
    notify 2 0x22 0 (w32 (n % 256 * 256 + seenPair n s)) s

/-- CLOSED_A or CLOSED_B changes: notice 0x20, and on a loss OPEN and FS41 or FS42 (R106). -/
def closedChange (r : Nat) (b : Bool) (s : State) : State :=
  if rb s ringStatus r = b then s
  else
    let s := wb ringStatus r b s
    let s := notify 2 0x20 r (w32 (rf s ringStatus 1 0)) s
    if b then s else raiseFree (41 + r) (wb ringEvt r true s)

/-- Device number of a presence frame (R106). -/
def presenceDev (f : Frame) : Word := wordAt f.payload 4
def isPresence (f : Frame) : Bool := f.typ == 9 && f.addr % 256 == 0x10
def ownDev (s : State) : Word := loW s.hub.devNum

/-- A second hub with the own node ID: isolation (R108). -/
def isolate (dev : Word) (s : State) : State :=
  let s := setRing { s.ring with isolated := true } (wb ringEvt 6 true s)
  notify 2 0x24 0 dev (raise 46 dev s)

/-- A presence frame with the own SRC has come back on ring `r` (R106, R108). -/
def ownPresence (r : Nat) (f : Frame) (s : State) : State :=
  if presenceDev f = ownDev s then closedChange r true s
  else if s.ring.isolated then s
  else isolate (presenceDev f) s

/-- PRESENCE_FRAME: a good presence frame that arrived on ring `r`. -/
def presenceFrame (r : Nat) (f : Frame) (s : State) : State :=
  if !isPresence f || frameCrc f ≠ f.crc then s
  else if f.src = ownNode s then ownPresence r f s
  else seenChange f.src r true s

/-- The presence frame of this hub (R106); a repeater sends none, an isolated hub does (R107, R108). -/
def presenceSend (s : State) : State :=
  let b0 := b2n (laneUp 0 s) + 2 * b2n (laneUp 1 s) + 4 * rf s ringStatus 1 0
  let pl := [BitVec.ofNat 8 b0, 0, 0, 0] ++ wordBytes (ownDev s)
  (originate (mkFrame 255 9 0 0 0x10 pl) s).2

/-! ## A frame arrives (R89, R103–R105) -/

/-- The checks made before any forwarding (R89). -/
def headerBad (l : Nat) (f : Frame) : Bool :=
  32 < f.len || f.src == 0 || f.src == 255 || b2n f.ring != l || f.dst == 0

/-- The checks made at the destination only (R89). -/
def destBad (f : Frame) : Bool :=
  classOf f.typ != some f.cls || (f.typ == 5 && !f.uw && f.addr / 2 ^ 23 % 512 == 0)

/-- What R103, R107 and R108 decide for a frame with a good header: deliver, forward, strip. -/
def route (f : Frame) (s : State) : Bool × Bool × Bool :=
  if repeater s then
    if s.ring.isolated && f.src == ownNode s && isPresence f && presenceDev f == ownDev s then (false, false, true)
    else (false, true, false)
  else if f.src == ownNode s then (false, false, true)
  else if f.dst == ownNode s then (true, false, false)
  else if f.dst == 255 then (true, true, false)
  else (false, true, false)

/-- RING_CFG.SIZE as taken (R117). -/
def ringSize (s : State) : Nat := let n := rf s ringCfg 7 0; if 2 ≤ n && n ≤ 254 then n else 254

/-- Forward a frame that arrived on lane `l`: orphan limit, break, else it waits for the other lane (R104, R105). -/
def forward (l id : Nat) (f : Frame) (s : State) : Bool × State :=
  let hop := f.hop % 256 + 1
  if ringSize s + 1 < hop then (false, removal false f s)
  else if laneUp (1 - l) s then
    let k := link (1 - l) s
    (true, setLink (1 - l) { k with pass := k.pass ++ [{ id := id, f := { f with hop := hop }, from_ := some l, open_ := true }] } s)
  else (false, broken f s)

/-- The start of a frame that is not link-local (R103): the lane is in UP and no frame is under way. -/
def headerArrival (l : Nat) (f : Frame) (s : State) : State :=
  if !laneUp l s || (link l s).rx.isSome then s
  else
    let k := link l s
    let s := setLink l { k with framesRx := quadAdd f.cls 1 k.framesRx } s
    let id := s.ring.nextId
    let s := setRing { s.ring with nextId := id + 1 } s
    if headerBad l f then
      setLink l { link l s with rx := some { id := id, hdr := f, deliver := false, forward := false, strip := false, dead := true, tb := tb0 s } }
        (cntRing 0x068 l 1 s)
    else
      let (del, fwd, strip) := route f s
      let s := if strip && f.dst ≠ 255 then cntRing 0x088 l 1 s else s
      let (fwd, s) := if fwd then forward l id f s else (false, s)
      setLink l { link l s with rx := some { id := id, hdr := f, deliver := del, forward := fwd, strip := strip, tb := tb0 s } } s

/-- Completions that wait in the completion-out buffer: two copies of one SEQ are one entry (R97, R102). -/
def cplOut (s : State) : Nat :=
  (((link 0 s).loc ++ (link 1 s).loc).filter (fun o => o.f.cls == 1)).map (fun o => o.f.seq) |>.dedup.length

/-- The C2 and C3 sinks wait: the completion-out buffer of 64 entries is full (R102). -/
def sinksFull (s : State) : Bool := 64 ≤ cplOut s

/-- A good frame with these decisions waits in its receive pool: a C2 or C3 frame for this node behind a full completion-out
buffer, or behind one that waits (R102). -/
def sinkHolds (r : RxFrame) (s : State) : Bool :=
  r.deliver && !r.forward && !r.strip && 2 ≤ r.hdr.cls % 4 && (sinksFull s || !s.ring.sinks.isEmpty)

/-- The end of a frame at lane `l` (R83, R89, R91): a length mismatch spoils the outgoing copy; else the CRC is judged, the pool
is freed unless the frame goes on waiting there, and a frame with a good CRC is answered for what follows. -/
def frameTail (l blocks term : Nat) (s : State) : Option RxFrame × State :=
  match (link l s).rx with
  | none => (none, s)
  | some r =>
    let f := r.hdr
    if r.dead || term ≠ 0xD2 || blocks ≠ f.len + 3 || f.payload.length ≠ 8 * f.len then (none, badEnd l blocks s)
    else
      let s := setLink l { link l s with rx := none } s
      let good := frameCrc f == f.crc
      let s := if good then s else cntRing 0x060 l 1 s
      let k := link (1 - l) s
      let s := if r.forward && k.pass.any (fun o => o.id = r.id) then
          setLink (1 - l) { k with pass := k.pass.map (fun o => if o.id = r.id then { o with open_ := false } else o) } s
        else if good && sinkHolds r s then endWire (1 - l) r.id s
        else creditReturn l f.cls (frameUnits f.len) (endWire (1 - l) r.id s)
      if good then
        let s := if r.deliver && destBad f then s else seenChange f.src l true s
        (some r, s)
      else (none, s)

/-! ## The duplicate filter (R98, R114) -/

/-- What the filter says of a copy. -/
inductive Judged where
  | gap
  | late
  | dup
  | fresh
  deriving DecidableEq, Repr

def winOf (src : Nat) (s : State) : Option Win := tget (fun _ => none) s.ring.wins src

/-- Judge SEQ `q` of source `src`, changing nothing. -/
def judge (src q : Nat) (s : State) : Judged :=
  if s.ring.discard.contains src then .gap
  else match winOf src s with
    | none => .fresh
    | some w =>
      let ahead := (q + 65536 - w.h) % 65536
      let back := (w.h + 65536 - q) % 65536
      if 1 ≤ ahead && ahead ≤ 32767 then .fresh
      else if back ≤ 4095 then (if bitOf w.seen back then .dup else .fresh)
      else .late

/-- Mark an accepted SEQ: the window slides, or its bit is set (R98). -/
def markWin (src q : Nat) (s : State) : State :=
  let v := match winOf src s with
    | none => ⟨q, 1⟩
    | some w =>
      let ahead := (q + 65536 - w.h) % 65536
      let back := (w.h + 65536 - q) % 65536
      if 1 ≤ ahead && ahead ≤ 32767 then ⟨q, (w.seen * 2 ^ ahead + 1) % 2 ^ 4096⟩
      else ⟨w.h, w.seen ||| 2 ^ back⟩
  setRing { s.ring with wins := tset (fun _ => none) s.ring.wins src (some v) } s

/-- Every frame of source `f.src` is discarded for now (R114). -/
def inGap (f : Frame) (s : State) : Bool := s.ring.discard.contains f.src

/-- The filter for a copy on ring `r` whose other checks have passed (`ok`): accepted or not. A SINGLE frame bypasses it, but not
the discard of R114. -/
def dupFilter (r : Nat) (f : Frame) (ok : Bool) (s : State) : Bool × State :=
  if f.single then (if inGap f s then (false, cntRing 0x058 r 1 s) else (ok, s))
  else match judge f.src (f.seq % 65536) s with
    | .gap => (false, cntRing 0x058 r 1 s)
    | .late => (false, wb ringEvt 5 true (cntRing 0x058 r 1 s))
    | .dup => (false, cntRing 0x050 r 1 s)
    | .fresh => if ok then (true, cntRing 0x048 r 1 (markWin f.src (f.seq % 65536) s)) else (false, s)

/-- A window entry returns to empty (R98). -/
def winExpire (src : Nat) (s : State) : State :=
  setRing { s.ring with wins := tset (fun _ => none) s.ring.wins src none } s

def winExpireAll : List Nat → State → State
  | [], s => s
  | n :: t, s => winExpireAll t (winExpire n s)

/-- FS45: the entries of the affected sources empty, and their frames are discarded (R114). -/
def winError (srcs : List Nat) (s : State) : State :=
  let s := winExpireAll srcs (raiseFree 45 s)
  setRing { s.ring with discard := s.ring.discard ++ srcs.filter (fun n => !s.ring.discard.contains n) } s

/-- The 2 ms of R114 have ended for `src`. -/
def winDiscardEnd (src : Nat) (s : State) : State :=
  setRing { s.ring with discard := s.ring.discard.filter (fun n => n ≠ src) } s

/-! ## Arbitration (R94–R96) -/

/-- RING_CFG.INSERT as taken (R117). -/
def insertN (s : State) : Nat := max 1 (rf s ringCfg 11 8)

def avail (l : Nat) (o : OutFrame) (bubble : Nat) (s : State) : Bool :=
  frameUnits o.f.len + bubble ≤ creditsHeld l (o.f.cls % 4) s

/-- The first eligible pass-through frame of class `c`, in order of arrival (R94, R96). -/
def passCand (l c : Nat) (s : State) : Option OutFrame :=
  (link l s).pass.find? (fun o => o.f.cls == c && avail l o 0 s)

/-- Among the eligible local frames of class `c`, PRI frames first, else in order of origination; the bubble rule (R94, R96). -/
def localCand (l c : Nat) (s : State) : Option OutFrame :=
  let q := (link l s).loc.filter (fun o => o.f.cls == c && avail l o 5 s)
  (q.find? (fun o => o.f.pri)).or q.head?

/-- The within-class choice of R94. -/
def classCand (l c : Nat) (s : State) : Option OutFrame :=
  match passCand l c s, localCand l c s with
  | none, b => b
  | some a, none => some a
  | some a, some b => if insertN s ≤ quadGet c (link l s).run then some b else some a

/-- SH after a non-C3 frame of `blocks` blocks is sent (R95). -/
def shGrow (l blocks : Nat) (s : State) : State :=
  let k := link l s
  setLink l { k with sh := if (classCand l 3 s).isSome then k.sh + blocks else 0 } s

/-- SH is 0 whenever no C3 frame is eligible (R95). -/
def shSettle (l : Nat) (s : State) : State :=
  let k := link l s
  if k.sh = 0 || (classCand l 3 s).isSome then s else setLink l { k with sh := 0 } s

/-- Put a link-local frame of subtype `sub` on the wire of lane `l`: class C0, HOP 0, SEQ 0 and no flags (R90). -/
def sendLinkLocal (l sub : Nat) (pl : List Byte) (s : State) : State :=
  let f := withCrc { mkFrame 0 9 0 0 sub pl with src := ownNode s }
  let s := lineSend l (frameBlks f) (shGrow l (frameBlocks f) s)
  let k := link l s
  let s := setLink l { k with wire := k.wire ++ [{ id := s.ring.nextId, f := f, from_ := none, open_ := false }] } s
  setRing { s.ring with nextId := s.ring.nextId + 1 } s

def quadBytes (n : Nat) (q : Quad) : List Byte := leBytes n q.c0 ++ leBytes n q.c1 ++ leBytes n q.c2 ++ leBytes n q.c3

/-- Send a credit update: running totals modulo 2^16 (R92). -/
def sendUpdate (l : Nat) (s : State) : State :=
  if !laneUp l s then s
  else
    let k := link l s
    sendLinkLocal l 1 (quadBytes 2 k.given) (setLink l { k with told := k.given, updDue := false } s)

/-- Send a credit audit, latching the frames-sent totals (R93); a waiting update goes first (R94). -/
def sendAudit (l : Nat) (s : State) : State :=
  if !laneUp l s then s
  else
    let s := if (link l s).updDue then sendUpdate l s else s
    let k := link l s
    let no := (k.auditNo + 1) % 4294967296
    let pl := leBytes 4 no ++ leBytes 4 k.partner ++ quadBytes 4 k.told ++ quadBytes 4 k.echoR
    let keep := (k.latches ++ [(no, k.framesTx)])
    sendLinkLocal l 2 pl (setLink l { k with auditNo := no, latches := keep.drop (keep.length - 2) } s)

/-- The frame as it leaves: a forwarded SYNC gains its residence in CORR, in 2^-16 ns (R410); an originated frame with
TS = 1 gets TB0 in its timestamp slot (R407). The CRC follows by the change (R86). -/
def stampOut (o : OutFrame) (res : Nat) (s : State) : Frame :=
  let f := o.f
  if o.from_.isSome then
    if f.typ == 7 && f.addr == 1 && 2 ≤ f.len then
      let corr := (leNat ((f.payload.drop 8).take 8) + res) % 2 ^ 64
      reseal f { f with payload := f.payload.take 8 ++ leBytes 8 corr ++ f.payload.drop 16 }
    else f
  else if f.ts && 1 ≤ f.len then
    reseal f { f with payload := leBytes 8 (tb0 s).toNat ++ f.payload.drop 8 }
  else f

/-- Send the chosen frame: charge, count, the pool it leaves (R91–R93), its blocks on the line (R83). A pass-through frame sent
while no local frame of its class is eligible neither adds to the run that INSERT counts nor breaks it (DESIGN CHOICE, log
entry 18: R94 does not say). -/
def sendFrame (l : Nat) (o : OutFrame) (res : Nat) (s : State) : State :=
  let c := o.f.cls % 4
  let locOk := (localCand l c s).isSome
  let f := stampOut o res s
  let k := link l s
  let run := if o.from_.isSome then (if locOk then quadAdd c 1 k.run else k.run) else quadSet c 0 k.run
  let k := { k with pass := k.pass.filter (fun x => x.id ≠ o.id), loc := k.loc.filter (fun x => x.id ≠ o.id), run := run }
  let k := { k with charged := quadAdd c (frameUnits f.len) k.charged, framesTx := quadAdd c 1 k.framesTx }
  let s := setLink l { k with wire := k.wire ++ [{ o with f := f }] } s
  poolLeave o (if o.open_ then s else lineSend l (frameBlks f) s)

/-- One frame boundary of lane `l` (R94). `res` is the residence of a forwarded SYNC, in 2^-16 ns. -/
def arbitrate (l res : Nat) (s : State) : State :=
  if !laneUp l s then breakAll l s
  else if (link l s).updDue then sendUpdate l s
  else
    let c3 := classCand l 3 s
    let k := link l s
    let first := (classCand l 0 s).or ((classCand l 1 s).or (classCand l 2 s))
    match c3, first with
    | none, none => setLink l { k with sh := 0 } s
    | none, some o => sendFrame l o res (setLink l { k with sh := 0 } s)
    | some o, first =>
      if 9 * frameBlocks o.f ≤ k.sh then sendFrame l o res (setLink l { k with sh := k.sh - 9 * frameBlocks o.f } s)
      else match first with
        | some p => sendFrame l p res (setLink l { k with sh := k.sh + frameBlocks p.f } s)
        | none => sendFrame l o res s

/-- A copy that has not started within 4 µs is removed (R99). -/
def staleRemove (l id : Nat) (s : State) : State :=
  let k := link l s
  match (k.pass ++ k.loc).find? (fun o => o.id = id) with
  | none => s
  | some o =>
    let s := setLink l { k with pass := k.pass.filter (fun x => x.id ≠ id), loc := k.loc.filter (fun x => x.id ≠ id) } s
    copyLost o (poolLeave o (removal true o.f s))

/-! ## Link-local frames (R89, R90, R92, R93) -/

/-- The LEN of a link-local frame by its subtype: 1 for a credit update, 5 for a credit audit (R90). -/
def linkLenOk (f : Frame) : Bool :=
  if f.addr % 256 = 1 then f.len == 1 else if f.addr % 256 = 2 then f.len == 5 else true

/-- A link-local frame is well formed; else it is counted. An update or an audit of another LEN counts as a frame of
unknown format (DEDUCED from R89, R90; log entry 19). The SRC and RING checks of R89 are not made on a link-local frame: R90 has
it carry no flags, so that RING reads 0 on ring B too, and R107 lets a repeater of node ID 0 or 255 send them (DESIGN CHOICE, log
entry 20). -/
def linkLocalOk (l : Nat) (f : Frame) (s : State) : Bool × State :=
  if !laneUp l s then (false, s)
  else if !linkLenOk f then (false, cntRing 0x068 l 1 s)
  else if 32 < f.len || f.payload.length ≠ 8 * f.len || f.dst ≠ 0 || f.typ ≠ 9 then (false, cntRing 0x068 l 1 s)
  else if frameCrc f ≠ f.crc then (false, cntRing 0x060 l 1 s)
  else (true, s)

def quadFrom (n : Nat) (d : List Byte) : Quad :=
  ⟨leNat (d.take n), leNat ((d.drop n).take n), leNat ((d.drop (2 * n)).take n), leNat ((d.drop (3 * n)).take n)⟩

def unitsGain (old new inn : Nat) : Nat := (inn + (new + 65536 - old) % 65536) % 4294967296

/-- A credit update received on lane `l` (R92). -/
def creditUpdate (l : Nat) (f : Frame) (s : State) : State :=
  match linkLocalOk l f s with
  | (false, s) => s
  | (true, s) =>
    let k := link l s
    let n := quadFrom 2 f.payload
    let g := k.granted
    let u := k.unitsIn
    let u := ⟨unitsGain g.c0 n.c0 u.c0, unitsGain g.c1 n.c1 u.c1, unitsGain g.c2 n.c2 u.c2, unitsGain g.c3 n.c3 u.c3⟩
    setLink l { k with granted := n, unitsIn := u } s

/-- The first total that mismatches, class by class, credits before frames (R121): class and KIND. -/
def auditFirst (g u r sent : Quad) : List Nat → Option (Nat × Nat)
  | [] => none
  | c :: t =>
    if quadGet c g ≠ quadGet c u then some (c, 1)
    else if quadGet c r ≠ quadGet c sent % 4294967296 then some (c, 2)
    else auditFirst g u r sent t

/-- An audit mismatch (R93, R121): recorded, counted, notice 0x21, and the lane retrains with cause 0x05 (FS40). -/
def auditMismatch (l c kind : Nat) (s : State) : State :=
  let v := w32 (l * 256 + c * 16 + kind)
  let s := wb ringEvt 2 true (bump (ringReg 0x090) 1 (wr ringAudit v s))
  linkDown l 5 (notify 2 0x21 l v s)

/-- A credit audit received on lane `l`: where ECHO_NO names neither kept latch, the comparison is skipped (R93). -/
def creditAudit (l : Nat) (f : Frame) (s : State) : State :=
  match linkLocalOk l f s with
  | (false, s) => s
  | (true, s) =>
    let k := link l s
    let d := f.payload
    let echo := leNat ((d.drop 4).take 4)
    let s := setLink l { k with partner := leNat (d.take 4), echoR := k.framesRx } s
    let sent := (k.latches.find? (fun e => e.1 = echo)).map (fun e => e.2)
    match sent.bind (fun x => auditFirst (quadFrom 4 (d.drop 8)) k.unitsIn (quadFrom 4 (d.drop 24)) x [0, 1, 2, 3]) with
    | none => s
    | some (c, kind) => auditMismatch l c kind s

/-- A link-local frame by its subtype; an unknown one is discarded and counted (R89). -/
def linkLocal (l : Nat) (f : Frame) (s : State) : State :=
  if f.addr % 256 = 1 then creditUpdate l f s
  else if f.addr % 256 = 2 then creditAudit l f s
  else match linkLocalOk l f s with
    | (true, s) => cntRing 0x068 l 1 s
    | (false, s) => s

/-- The frame is link-local (R89, R90). -/
def isLinkLocal (f : Frame) : Bool := f.dst == 0 && f.typ == 9

end Sys2Proof.Machine
end

