-- ==== Sys2Proof/Machine/Ink.lean ====
section
/-! DEFINITION. The inkwell (chapter 5): the staged set and its check, incoming MSG items, tail timers, the census; and the
MSG frames of the ring (R100). -/
namespace Sys2Proof.Machine
open Sys2Proof

/-! ## Staged registers and the totals check (R171, R172) -/

/-- The offset is that of a staged register (R171). -/
def isStaged (k : Nat) : Bool :=
  k == inkCplRsv || (0x20100 ≤ k && k < 0x20200) || (0x28000 ≤ k && k < 0x30000 && k % 32 < 16)

/-- Registers of one kind (offset `o` in the queue's eight) that do not read their reset value: queue and value. -/
def listedQ (o : Nat) (t : Tbl Word) : List (Nat × Word) :=
  (t.filter (fun e => 0x28000 ≤ e.1 && e.1 < 0x30000 && e.1 % 32 == o)).map (fun e => ((e.1 - 0x28000) / 32, e.2))

def findQ (p : Nat × Word → Bool) (l : List (Nat × Word)) : Option Nat := (l.find? p).map (fun e => e.1)

/-- Queues of the enabled ports, by port. -/
def portsOf (t : Tbl Word) : List (Nat × Nat) :=
  (t.filter (fun e => 0x20100 ≤ e.1 && e.1 < 0x20200 && bit e.2 31)).map (fun e => ((e.1 - 0x20100) / 4, fld e.2 9 0))

/-- An enabled port bound to a queue another enabled port is bound to: the lowest-numbered one. -/
def portClash (l : List (Nat × Nat)) : Option Nat :=
  (l.find? (fun a => l.any (fun b => b.1 ≠ a.1 && b.2 = a.2))).map (fun a => a.1)

/-- The totals check of the staged set: code and the queue or port at fault (R172). -/
def totalsCheck (s : State) : Nat × Nat :=
  let t := s.regs
  let own := ownNode s
  let cpl := cplRsvIn t
  let sum := sumRsv t
  if 32768 < cpl + sum then (0x10, 0)
  else match findQ (fun e => fld e.2 31 16 < fld e.2 15 0) (listedQ 8 t) with
  | some q => (0x11, q)
  | none =>
  if cpl < 512 || 8192 < cpl then (0x12, 0)
  else match findQ (fun e => bit e.2 16 && (fld e.2 31 24 == 255 || ((fld e.2 31 24 == 0 || fld e.2 31 24 == own) && fld e.2 9 0 == e.1)))
      (listedQ 4 t) with
  | some q => (0x13, q)
  | none => match findQ (fun e => fld e.2 19 0 ≠ 0 && (e.1 < 544 || 608 ≤ e.1 || 1000000 < fld e.2 19 0)) (listedQ 12 t) with
  | some q => (0x14, q)
  | none => match portClash (portsOf t) with
  | some p => (0x15, p)
  | none => match findQ (fun e => fld e.2 29 16 == 0 || 10000 < fld e.2 29 16 || 2 ≤ fld e.2 9 8) (listedQ 0 t) with
  | some q => (0x16, q)
  | none =>
  if 32768 - (cpl + sum) < sumN (s.ink.queues.map (fun e => queueCells e.2 - rsvIn t e.1)) || cpl < s.ink.cplUsed then (0x17, 0)
  else (0, 0)

/-- Run the check, report it, and activate the staged set on a pass (R171). -/
def inkApply (s : State) : State :=
  let (code, q) := totalsCheck s
  let s := wr inkReason (w32 (q * 65536 + code)) s
  if code = 0 then { s with ink := { s.ink with active := tkeep isStaged s.regs } } else s

/-- The staged set differs from the active one (R188). -/
def stagedDiffers (s : State) : Bool := tkeep isStaged s.regs != s.ink.active

/-- Q_CFG of queue `q` in the active set. -/
def qCfg (q : Nat) (s : State) : Word := tget resetOf s.ink.active (qReg q 0)

/-! ## Local moves, held pops (R177, R178) -/

/-- A held pop has reached Q_CFG.STALL: EMPTY (R178). -/
def stallExpire (q : Nat) (o : Origin) (s : State) : State :=
  let k := queue q s
  match k.held.find? (fun h => h.org = o) with
  | none => s
  | some h =>
    let s := putQueue q { k with held := k.held.eraseP (fun x => x.org = o) } s
    complete o (ownNode s) ⟨.rd, h.addr, h.count, []⟩ .empty [] s

/-- Held pops of the requesters that `p` names are forgotten. -/
def dropPops (p : Origin → Bool) : List (Nat × Queue) → State → State
  | [], s => s
  | (q, _) :: t, s => dropPops p t (putQueue q { queue q s with held := (queue q s).held.filter (fun h => !p h.org) } s)

/-! ## The tail timer (R179, R180) -/

def tailFire (q : Nat) (s : State) : State :=
  let k := queue q s
  if !(544 ≤ q && q < 608) || fld (tget resetOf s.ink.active (qReg q 0x0C)) 19 0 = 0 || k.fired || queueCells k = 0 then s
  else
    let s := match k.push with
      | some i => closeItem q { i with tailcut := true } (putQueue q { k with push := none } s)
      | none => s
    let s := putQueue q { queue q s with fired := true } s
    let items := (queue q s).items.length
    notify 23 0x01 q (w32 (b2n k.push.isSome * 0x80000000 + items % 65536)) (wb (qReg q 0x14) 2 true s)

/-! ## The census (R184) -/

def censusSum (s : State) : Nat := s.ink.free + s.ink.queued + s.ink.inflight

def census (s : State) : State :=
  if censusSum s = 32768 then s
  else
    let n := w32 (censusSum s)
    raise 64 n (notify 3 0x02 0 n (wb inkEvt 1 true s))

/-! ## Incoming MSG items (R100, R170) -/

/-- The incoming item of a SRC and TAG, and its queue. -/
def findInc (src tag : Nat) : List (Nat × Queue) → Option (Nat × InMsg)
  | [] => none
  | (q, k) :: t =>
    match k.inc.find? (fun m => m.src = src && m.tag = tag) with
    | some m => some (q, m)
    | none => findInc src tag t

/-- Free an incoming item that is abandoned or replaced (R170, R187). -/
def dropInc (q src tag : Nat) (s : State) : State :=
  let k := queue q s
  let s := putQueue q { k with inc := k.inc.filter (fun m => !(m.src = src && m.tag = tag)) } s
  notify 3 0x03 q (w32 (src % 256 * 65536 + tag % 1024)) (bump (inkReg 0x048) 1 s)

/-- No frame for 1.1 ms (R170). -/
def incAbandon (src tag : Nat) (s : State) : State :=
  match findInc src tag s.ink.queues with
  | some (q, _) => dropInc q src tag s
  | none => s

/-- Fields of a MSG frame (R87). -/
def msgQueue (f : Frame) : Nat := f.addr % 1024
def msgLen (f : Frame) : Nat := f.addr / 1024 % 8192 + 1
def msgOffset (f : Frame) : Nat := if f.uw then 0 else f.addr / 2 ^ 23 % 512

/-- The units of 8 bytes that a frame at unit `off` with LEN `n` brings, as a bit set. -/
def unitBits (off n : Nat) : Nat := (2 ^ n - 1) * 2 ^ off
def allUnits (len : Nat) : Nat := 2 ^ ceilDiv len 8 - 1

/-- A frame of a refused item: dropped and counted; the units it brings are struck off (R100). -/
def refusedPart (f : Frame) (s : State) : State :=
  let step (e : Nat × Nat × Nat) : Nat × Nat × Nat :=
    if e.1 = f.src && e.2.1 = f.tag then (e.1, e.2.1, e.2.2 - (e.2.2 &&& unitBits (msgOffset f) f.len)) else e
  setRing { s.ring with refused := (s.ring.refused.map step).filter (fun e => e.2.2 ≠ 0) } s

/-- Completion of a MSG item: OK or BUSY (R100). -/
def msgAnswer (f : Frame) (st : Status) (s : State) : State := (originate (mkFrame f.src 3 1 f.tag st.code []) s).2

/-- Overwrite bytes of `buf` from `off` on; bytes past its end are ignored. -/
def overlay (off : Nat) (d buf : List Byte) : List Byte :=
  buf.take off ++ ((d.take (buf.length - off)) ++ buf.drop (off + d.length))

/-- Write a frame of an incoming item; a complete item closes and is answered OK (R100). -/
def msgFill (q : Nat) (m : InMsg) (f : Frame) (s : State) : State :=
  let off := msgOffset f
  let m' := { m with buf := overlay (8 * off) f.payload m.buf, got := m.got ||| unitBits off f.len }
  let k := queue q s
  let others := k.inc.filter (fun x => !(x.src = m.src && x.tag = m.tag))
  if m'.got &&& allUnits m.len = allUnits m.len then
    let s := putQueue q { k with inc := others } s
    msgAnswer f .ok (closeItem q { bytes := m'.buf, user := m.user } s)
  else putQueue q { k with inc := others ++ [m'] } s

/-- The filter may take this MSG frame: its item's first frame, or one of an item already judged (R98, R100). -/
def msgKnown (f : Frame) (s : State) : Bool :=
  f.uw || (findInc f.src f.tag s.ink.queues).isSome ||
  s.ring.refused.any (fun e => e.1 == f.src && e.2.1 == f.tag && bitOf e.2.2 (msgOffset f))

/-- Q(672+2p) takes no push from requester `who`: page 0 is pair M's, an enabled page its owner's (R531, R532). -/
def pushDenied (q : Nat) (who : Word) (s : State) : Bool :=
  let p := (q - 672) / 2
  672 ≤ q && q < 704 && q % 2 == 0 && (p == 0 || (rb s (cphReg p 0) 0 && rd s (cphReg p 0x010) != who))

/-- The first frame of an item: the whole item is admitted, or refused with BUSY (R100, R170), or DENIED (R531, R532). -/
def msgFirst (f : Frame) (s : State) : State :=
  let s := incAbandon f.src f.tag s
  let s := setRing { s.ring with refused := s.ring.refused.filter (fun e => !(e.1 = f.src && e.2.1 = f.tag)) } s
  let q := msgQueue f
  let n := msgLen f
  if pushDenied q (w32 f.src) s then
    msgAnswer f .denied (refusedPart f (setRing { s.ring with refused := s.ring.refused ++ [(f.src, f.tag, allUnits n)] } s))
  else if n ≤ 4096 && admits q (ceilDiv n 64) s then
    let m : InMsg := { src := f.src, tag := f.tag, len := n, user := w32 (f.addr / 2 ^ 24), buf := List.replicate n 0, got := 0 }
    let k := queue q s
    msgFill q m f (putQueue q { k with inc := k.inc ++ [m] } s)
  else
    let s := setRing { s.ring with refused := s.ring.refused ++ [(f.src, f.tag, allUnits n)] } (countRefusal q s)
    msgAnswer f .busy (refusedPart f s)

/-- A MSG frame that the filter accepted. -/
def msgAccept (f : Frame) (s : State) : State :=
  if f.uw then msgFirst f s
  else match findInc f.src f.tag s.ink.queues with
    | some (q, m) => msgFill q m f s
    | none => refusedPart f (bump (ringReg 0x09C) 1 s)

/-- This node takes frames addressed to it or to all (R103, R107). -/
def addressed (f : Frame) (s : State) : Bool := !repeater s && (f.dst == ownNode s || f.dst == 255)

/-- A MSG frame delivered to this node on ring `r`: the filter, then its item. A frame ahead of its item's first frame is
dropped unmarked (R98, R100). -/
def msgFrame (r : Nat) (f : Frame) (s : State) : State :=
  if !addressed f s then s
  else if f.typ ≠ 5 || destBad f then cntRing 0x068 r 1 s
  else
    let known := msgKnown f s
    let fresh := f.single || judge f.src (f.seq % 65536) s == .fresh
    match dupFilter r f known s with
    | (true, s) => msgAccept f s
    | (false, s) => if fresh && !known then bump (ringReg 0x09C) 1 s else s

/-! ## Pushes and peeks (R175, R176) -/

/-- Append a push of `n` bytes to queue `q` (R176); the status it completes with. -/
def pushItem (q : Nat) (w0 user : Word) (data : List Byte) (s : State) : Status × State :=
  let n := fld w0 12 0
  let k := queue q s
  let i := k.push.getD { bytes := [], user := user }
  let i' := { i with bytes := i.bytes ++ data.take n }
  let need := itemCells i' - itemCells i
  if data.length < n || 4096 < i'.bytes.length then (.ua, s)
  else if i'.bytes.isEmpty then (.ok, s)
  else if need ≠ 0 && !admits q need s then (.busy, countRefusal q s)
  else if bit w0 31 then
    (.ok, closeItem q i' (putQueue q { k with push := none } s))
  else (.ok, putQueue q { k with push := some i' } s)

/-- What a peek of queue `q` returns (R174, R175). -/
def peekBytes (q : Nat) (s : State) : List Byte :=
  match (queue q s).items with
  | [] => List.replicate 8 0
  | i :: _ => descriptor i false i.pos (queue q s).pend.isSome

end Sys2Proof.Machine
end

