-- ==== Sys2Proof/Machine/Quills.lean ====
section
/-! DEFINITION. The quill engines (chapter 8): the enable check, the ten step actions with their sequencing, the word FIFOs
and their queue binding, bank swaps, and restart. -/
namespace Sys2Proof.Machine
open Sys2Proof

def quill (q : Nat) (s : State) : QuillSt := tget (fun _ => {}) s.quills q
def setQuill (q : Nat) (v : QuillSt) (s : State) : State := { s with quills := tset (fun _ => {}) s.quills q v }

def qlEn (q : Nat) (s : State) : Bool := rb s (qlReg q 0) 0
def qlStatus (q : Nat) : Nat := qlReg q 0x04

/-- Set a QL_EVT bit, with its notice (R314). -/
def qlEvt (q i : Nat) (s : State) : State :=
  unitEvent (qlReg q 0x0C) (qlReg q 0x10) i (12 + q / 32) q (rd s (qlStatus q)) s

/-! ## Window pins (R283–R285) -/

def wpUse (q k : Nat) (s : State) : Bool := rb s (qlReg q (0x80 + 4 * k)) 31
def wpPin (q k : Nat) (s : State) : Nat := rf s (qlReg q (0x80 + 4 * k)) 8 0
def wpInv (q k : Nat) (s : State) : Bool := rb s (qlReg q (0x80 + 4 * k)) 16

/-- The level window pin `k` delivers for pin level `lvl` (R200, R283). -/
def wpIn (q k : Nat) (lvl : Bool) (s : State) : Bool :=
  wpUse q k s && (pinIn (wpPin q k s) lvl s != wpInv q k s)

/-- Drive the window pins in `ks` as the quill's output enables and levels say. -/
def qlDrive (q : Nat) : List Nat → State → State
  | [], s => s
  | k :: t, s =>
    if wpUse q k s then
      let w := quill q s
      let v := bitOf w.lvl k != wpInv q k s
      let p := wpPin q k s
      qlDrive q t (drivePin p (bitOf w.oe k && !(rb s (xbPin p) 0 && v)) v s)
    else qlDrive q t s

def qlPins (q : Nat) (s : State) : State := qlDrive q (List.range 16) s

/-- Number `n` with bit `i` set to `b`. -/
def natBit (n i : Nat) (b : Bool) : Nat := if bitOf n i = b then n else if b then n + 2 ^ i else n - 2 ^ i

def qlLevel (q k : Nat) (b : Bool) (s : State) : State :=
  let w := quill q s
  setQuill q { w with lvl := natBit w.lvl k b } s

/-- The window pins take the idle pattern (R284). -/
def qlIdlePins (q : Nat) (s : State) : State :=
  let w := rd s (qlReg q 0x18)
  qlPins q (setQuill q { quill q s with oe := fld w 31 16, lvl := fld w 15 0 } s)

/-! ## Steps (R286–R288) -/

/-- Step `i` of bank `b`. -/
def qlStep (q b i : Nat) (s : State) : Word := rd s (qlReg q (0x400 + 0x200 * b + 4 * i))

def stAct (w : Word) : Nat := fld w 31 28
def stN (w : Word) : Nat := fld w 27 23
def stHold (w : Word) : Nat := fld w 22 18
def stCond (w : Word) : Nat := fld w 17 14
def stPin (w : Word) : Nat := fld w 13 10
def stTarget (w : Word) : Nat := fld w 9 3
def stWait (w : Word) : Bool := bit w 2
def stSide (w : Word) : Nat := fld w 1 0

def qlBank (q : Nat) (s : State) : Nat := rf s (qlStatus q) 28 28
def qlCur (q : Nat) (s : State) : Nat := rf s (qlStatus q) 22 16
def qlFill (q : Nat) (s : State) : Nat := rf s (qlStatus q) 15 10
def setFill (q n : Nat) (s : State) : State := wf (qlStatus q) 15 10 n s

/-- FIFO counts of QL_STATUS. -/
def qlCounts (q : Nat) (s : State) : State :=
  wf (qlStatus q) 9 7 (quill q s).txf.length (wf (qlStatus q) 6 4 (quill q s).rxf.length s)

/-- The strobe pin, if in use (R285). -/
def qlStrobe (q : Nat) (s : State) : Option Nat :=
  if rb s (qlReg q 0x14) 12 then some (rf s (qlReg q 0x14) 11 8) else none

/-- SIDE acts on the strobe (R285, R286). -/
def qlSide (q side : Nat) (s : State) : State :=
  match qlStrobe q s with
  | none => s
  | some k =>
    match side with
    | 1 => qlLevel q k true s
    | 2 => qlLevel q k false s
    | 3 => qlLevel q k (!bitOf (quill q s).lvl k) s
    | _ => s

/-- The length L of a step or bit slot, in PORT clocks (R290). -/
def qlLen (q : Nat) (w : Word) (s : State) : Nat := rf s (qlReg q (0x100 + 4 * stHold w)) 23 0 + 1

/-- The window pins stay as they are for `n` PORT clocks. -/
def qlShow (q n : Nat) (s : State) : State :=
  let k := quill q s
  if n = 0 then s else setQuill q { k with wave := k.wave ++ [⟨k.oe, k.lvl, n⟩] } s

/-- Evaluate COND (R288): whether it is true, and its side effect. `lvl` = the level S of the tested pin. -/
def qlCond (q : Nat) (w : Word) (lvl : Bool) (s : State) : Bool × State :=
  match stCond w with
  | 0 => (true, s)
  | 1 =>
    let t := rd s (qlReg q 0x50)
    if t = 0 then (false, s) else (true, wr (qlReg q 0x50) (t - 1) s)
  | 2 => (wpIn q (stPin w) lvl s, s)
  | 3 => (!wpIn q (stPin w) lvl s, s)
  | 4 => (qlFill q s == 0, s)
  | 5 => (qlFill q s == 32, s)
  | 6 => ((quill q s).txf.isEmpty, s)
  | 7 => ((quill q s).rxf.length == 4, s)
  | 8 => if rb s (qlStatus q) 3 then (true, wb (qlStatus q) 3 false s) else (false, s)
  | 9 => if rb s (qlStatus q) 2 then (true, wb (qlStatus q) 2 false s) else (false, s)
  | _ => (false, s)

/-! ## Queue binding (R298–R300) -/

def qlTxen (q : Nat) (s : State) : Bool := rb s (qlReg q 0x1C) 31
def qlTxq (q : Nat) (s : State) : Nat := rf s (qlReg q 0x1C) 25 16
def qlRxen (q : Nat) (s : State) : Bool := rb s (qlReg q 0x1C) 15
def qlRxq (q : Nat) (s : State) : Nat := rf s (qlReg q 0x1C) 9 0

/-- The words of an item from its read position, the last one padded with zero bytes (R298). -/
def itemWords (i : Item) : List Word :=
  bytesWords (ceilDiv (i.bytes.length - i.pos) 4) (i.bytes.drop i.pos)

/-- Bytes of an item before its first cell with an uncorrectable error. -/
def goodBytes (i : Item) : Nat := i.bad.foldl (fun n e => min n (64 * e.1)) i.bytes.length

/-- The words of the items ahead of the first cell that cannot be read. -/
def goodWords : List Item → List Word
  | [] => []
  | i :: t => if itemBad i then (itemWords i).take ((goodBytes i - i.pos) / 4) else itemWords i ++ goodWords t

/-- The first item whose data is bad is read once (R165). -/
def meetFirst : List Item → List Item × List Nat
  | [] => ([], [])
  | i :: t =>
    if itemBad i then (if i.met then (i :: t, []) else ({ i with met := true } :: t, badCells i 0 i.bytes.length))
    else let r := meetFirst t; (i :: r.1, r.2)

/-- With TXEN = 1, words of the closed items of TXQ are read into the TX FIFO as far as it has room (R298). Cell data with
an uncorrectable error is not taken; the read that comes to it raises FS65 (R165). -/
def qlFetch (q : Nat) (s : State) : State :=
  if !qlEn q s || !qlTxen q s then s
  else
    let k := quill q s
    let tq := queue (qlTxq q s) s
    if tq.pend.isSome then s
    else
      let ws := ((goodWords tq.items).drop k.fetched).take (4 - k.txf.length)
      let s := if k.txf.length + ws.length < 4 && tq.items.any (fun i => itemBad i && !i.met) then
          let r := meetFirst tq.items
          raiseCells r.2 (putQueue (qlTxq q s) { tq with items := r.1 } s)
        else s
      qlCounts q (setQuill q { k with txf := k.txf ++ ws, fetched := k.fetched + ws.length } s)

/-- Take the head TX word; the item of TXQ is freed with its last word (R298). -/
def qlTakeTx (q : Nat) (s : State) : Option Word × State :=
  let k := quill q s
  match k.txf with
  | [] => (none, s)
  | w :: r =>
    let s := setQuill q { k with txf := r } s
    if !qlTxen q s then (some w, qlCounts q s)
    else match (queue (qlTxq q s) s).items with
    | [] => (some w, qlCounts q s)
    | i :: _ =>
      let n := (itemWords i).length
      if n ≤ k.loaded + 1 then
        let s := setQuill q { quill q s with fetched := k.fetched - n, loaded := 0 } s
        (some w, qlCounts q (freeHead (qlTxq q s) s))
      else (some w, qlCounts q (setQuill q { quill q s with loaded := k.loaded + 1 } s))

/-- Close the open bound item (R299). -/
def qlCloseItem (q tag : Nat) (more trunc : Bool) (s : State) : State :=
  prodClose (qlRxq q s) (w32 (tag + b2n more * 16777216)) trunc s

/-- Move words from the RX FIFO to the open item of RXQ while their cells are admitted (R299). `count` = a refusal counts. -/
def qlMoveRx (q : Nat) (count : Bool) : Nat → State → State
  | 0, s => s
  | fuel + 1, s =>
    let k := quill q s
    match k.rxf with
    | [] => s
    | e :: r =>
      let rq := qlRxq q s
      let kq := queue rq s
      let i := kq.prod.getD { bytes := [] }
      if i.bytes.length % 64 ≠ 0 || admits rq 1 s then
        let tag := if i.bytes.isEmpty then e.tag else k.rxTag
        let i := { i with bytes := i.bytes ++ wordBytes e.w }
        let s := putQueue rq { kq with prod := some i } s
        let s := qlCounts q (setQuill q { k with rxf := r, rxTag := tag } s)
        let s := if e.close then qlCloseItem q tag false false s
          else if 4096 ≤ i.bytes.length then qlCloseItem q tag true false s else s
        qlMoveRx q count fuel s
      else if count then countRefusal rq s else s

/-- What a refused cell kept in the RX FIFO moves on when cells are free. -/
def qlRefill (q : Nat) (s : State) : State :=
  if qlEn q s && qlRxen q s then qlMoveRx q false 4 s else s

/-- The bound item closes after what is stored so far. -/
def qlMarkClose (q : Nat) (s : State) : State :=
  if !qlRxen q s then s
  else
    let k := { quill q s with lost := false }
    let s := setQuill q k s
    match k.rxf.reverse with
    | [] => qlCloseItem q k.rxTag false false s
    | e :: r => setQuill q { k with rxf := (({ e with close := true }) :: r).reverse } s

/-! ## Shifter (R292, R293, R297) -/

def qlLsb (q : Nat) (s : State) : Bool := rb s (qlReg q 0x14) 2

/-- A word with its bits [n:0] aligned to the out end (R287). -/
def qlAlign (q n : Nat) (w : Word) (s : State) : Word :=
  let v := w.toNat % 2 ^ (n + 1)
  if qlLsb q s then w32 v else w32 (v * 2 ^ (31 - n))

def setShift (q : Nat) (w : Word) (fill : Nat) (s : State) : State := setFill q fill (wr (qlReg q 0x4C) w s)

/-- A stall (R297): the first clock of a LOAD's stall sets TXSTALL. -/
def qlStall (q : Nat) (tx : Bool) (s : State) : State :=
  if rb s (qlStatus q) 27 then s
  else
    let s := wb (qlStatus q) 27 true s
    if tx then qlEvt q 0 s else s

/-- LOAD of bits [n:0]: false = stalled on an empty TX FIFO. -/
def qlLoad (q n : Nat) (s : State) : Bool × State :=
  match qlTakeTx q s with
  | (none, s) => (false, qlStall q true s)
  | (some w, s) => (true, setShift q (qlAlign q n w s) (n + 1) (wb (qlStatus q) 27 false s))

/-- `n` discarded RX words (R297); with RXEN = 1 they are also an RX overflow of their item, which is counted once (R183, R299). The
item is closed as it would be, without TRUNC (DESIGN CHOICE, log entry 36). -/
def qlDrop (q n : Nat) (s : State) : State :=
  if n = 0 then s
  else
    let s := qlEvt q 1 (bump (qlReg q 0x60) n s)
    if !qlRxen q s then s
    else if (quill q s).lost then bump (qReg (qlRxq q s) 0x18) (4 * n) s
    else setQuill q { quill q s with lost := true } (rxOverflow (qlRxq q s) (4 * n) s)

/-- STORE (R292, R297, R299): false = stalled on a full RX FIFO. -/
def qlStore (q : Nat) (close : Bool) (s : State) : Bool × State :=
  let k := quill q s
  let fill := qlFill q s
  let sh := rd s (qlReg q 0x4C)
  if fill = 0 then (true, if close then qlMarkClose q s else s)
  else if 4 ≤ k.rxf.length then
    if rb s (qlReg q 0x14) 3 then (false, qlStall q false s)
    else
      let s := setFill q 0 (qlDrop q 1 s)
      (true, if close then qlMarkClose q s else s)
  else
    let v := if qlLsb q s then w32 (sh.toNat / 2 ^ (32 - fill)) else w32 (sh.toNat % 2 ^ fill)
    let e : QlRx := ⟨v, fill, timeTag s, close && qlRxen q s⟩
    let s := setQuill q { k with rxf := k.rxf ++ [e], lost := k.lost && !close } s
    let s := wb (qlStatus q) 27 false (setFill q 0 (qlCounts q s))
    (true, if qlRxen q s then qlMoveRx q true 4 s else s)

/-- Clock 0 of a bit slot (R291, R292): auto-load, out bit, SIDE. False = stalled. -/
def qlSlotStart (q act : Nat) (w : Word) (s : State) : Bool × State :=
  let out := act == 1 || act == 3
  let (ok, s) := if out && qlFill q s == 0 then qlLoad q 31 s else (true, s)
  if !ok then (false, s)
  else
    let sh := rd s (qlReg q 0x4C)
    let s := if out then qlLevel q (stPin w) (if qlLsb q s then bit sh 0 else bit sh 31) s else s
    (true, qlPins q (qlSide q (stSide w) s))

/-- The rest of the pins' bit slot: clocks 0 to floor(L/2) − 1, the strobe's return, and the clocks after it (R291). -/
def qlSlotPins (q : Nat) (w : Word) (s : State) : State :=
  let l := qlLen q w s
  let s := qlShow q (l / 2) s
  let s := match qlStrobe q s with
    | none => s
    | some p => qlLevel q p (quill q s).strobe0 s
  qlPins q (qlShow q (l - l / 2) s)

/-- One bit slot of a shift step (R291, R292): its start, its pins, sample, auto-store. False = stalled. A SHIN into a shifter that is
full already leaves FILL at 32 (DESIGN CHOICE, log entry 36). -/
def qlSlot (q act : Nat) (w : Word) (smp : Bool) (s : State) : Bool × State :=
  let k := quill q s
  if k.storePend then
    let (ok, s) := qlStore q false s
    (ok, if ok then setQuill q { quill q s with storePend := false } s else s)
  else
    let (ok, s) := qlSlotStart q act w s
    if !ok then (false, s)
    else
      let s := qlSlotPins q w s
      let sh := rd s (qlReg q 0x4C)
      let lsb := qlLsb q s
      let ib := if act = 1 then false
        else if act = 3 then wpIn q ((stPin w + 1) % 16) smp s else wpIn q (stPin w) smp s
      let sh := if lsb then (sh >>> 1) ||| (if ib then 0x80000000#32 else 0#32)
        else (sh <<< 1) ||| (if ib then 1#32 else 0#32)
      let fill := qlFill q s
      let fill := if act = 1 then fill - 1 else if act = 2 then min 32 (fill + 1) else fill
      let s := setShift q sh fill s
      if act = 2 && fill = 32 then
        let (ok, s) := qlStore q false s
        (ok, if ok then s else setQuill q { quill q s with storePend := true } s)
      else (true, s)

/-- The remaining bit slots of a shift step; the samples are those of these slots. False = stalled. -/
def qlSlots (q act : Nat) (w : Word) : Nat → List Bool → State → Bool × State
  | 0, _, s => (true, s)
  | n + 1, smp, s =>
    match qlSlot q act w (smp.headD false) s with
    | (false, s) => (false, s)
    | (true, s) =>
      let k := quill q s
      qlSlots q act w n smp.tail (wb (qlStatus q) 25 (n != 0) (setQuill q { k with slot := k.slot + 1 } s))

/-! ## Executing a step (R289–R291) -/

/-- The action of a step: false = stalled. -/
def qlAction (q : Nat) (w : Word) (smp : List Bool) (s : State) : Bool × State :=
  let n := stN w
  match stAct w with
  | 1 | 2 | 3 =>
    let (ok, s) := qlSlots q (stAct w) w (n + 1 - (quill q s).slot) smp s
    (ok, wb (qlStatus q) 25 (!ok && (0 < (quill q s).slot || (quill q s).storePend)) s)
  | 4 => (true, setShift q (qlAlign q n (rd s (qlReg q (0x180 + 4 * stPin w))) s) (n + 1) s)
  | 5 => qlLoad q n s
  | 6 => qlStore q (n % 2 == 1) s
  | 7 => (true, wr (qlReg q 0x50) (rd s (qlReg q (0x180 + 4 * stPin w))) s)
  | 8 =>
    let k := quill q s
    (true, qlPins q (setQuill q { k with oe := natBit k.oe (stPin w) (n % 2 == 1) } s))
  | 9 => (true, qlIdlePins q s)
  | _ => (true, s)

/-- The end of a step: the branch (R289), and the next step begins with no slot done. -/
def qlEnd (q : Nat) (w : Word) (lvl : Bool) (s : State) : State :=
  let next := (qlCur q s + 1) % 128
  let (tgt, s) := if stWait w then (next, s)
    else match qlCond q w lvl s with
      | (true, s) => (stTarget w, s)
      | (false, s) => (next, s)
  let s := setQuill q { quill q s with slot := 0, storePend := false } s
  wb (qlStatus q) 25 false (wb (qlStatus q) 27 false (wb (qlStatus q) 26 false (wf (qlStatus q) 22 16 tgt s)))

/-- The quill executes steps: enabled, not halted, not held idle (R309, R310). -/
def qlAlive (q : Nat) (s : State) : Bool :=
  qlEn q s && dataPath s && !(quill q s).idle && !rb s (qlStatus q) 30

/-- The quill may begin or go on with its step: no swap waits at a swap point (R303). -/
def qlReady (q : Nat) (s : State) : Bool :=
  qlAlive q s && !(rb s (qlStatus q) 29 && !rb s (qlStatus q) 25)

/-- Run the current step, if its action is `act` (R287, R289): `lvl` is the level of a pin condition when it is evaluated,
`smp` the samples of a shift's slots. A step whose wait is not over keeps waiting, a stalled one resumes where it was. -/
def qlRun (q act : Nat) (lvl : Bool) (smp : List Bool) (s : State) : State :=
  let w := qlStep q (qlBank q s) (qlCur q s) s
  if !qlReady q s || stAct w ≠ act || 10 ≤ stCond w then s
  else
    let begun := rb s (qlStatus q) 27 || 0 < (quill q s).slot || (quill q s).storePend
    let (go, s) := if begun || !stWait w then (true, s) else qlCond q w lvl s
    if !go then wb (qlStatus q) 26 true s
    else
      let s := wb (qlStatus q) 26 false s
      let s := if begun then s else
        setQuill q { quill q s with strobe0 := bitOf (quill q s).lvl ((qlStrobe q s).getD 0) } s
      match qlAction q w smp s with
      | (false, s) => s
      | (true, s) =>
        let s := if 1 ≤ act && act ≤ 3 then s else qlShow q (qlLen q w s) (qlPins q (qlSide q (stSide w) s))
        qlEnd q w lvl s

/-- Halt (R310, R313): the idle pattern, HALT. -/
def qlHalt (q : Nat) (s : State) : State :=
  wb (qlStatus q) 30 true (qlIdlePins q s)

/-- A step with a reserved ACT or COND is reached (R310): ILLEGAL, FS131. -/
def qlIllegal (q : Nat) (s : State) : State :=
  let w := qlStep q (qlBank q s) (qlCur q s) s
  if qlReady q s && (10 ≤ stAct w || 10 ≤ stCond w) then
    raise 131 (w32 (q % 64 + 64 * qlBank q s + 128 * qlCur q s)) (qlEvt q 5 (qlHalt q s))
  else s

/-! ## Swaps (R301–R305) -/

/-- The swap: the other bank runs from its step 0 (R303). -/
def qlDoSwap (q : Nat) (s : State) : State :=
  let s := wf (qlStatus q) 28 28 (1 - qlBank q s) (wf (qlStatus q) 22 16 0 s)
  let s := wb (qlStatus q) 29 false (wb (qlStatus q) 30 false (wb (qlStatus q) 26 false s))
  let s := wb (qlStatus q) 25 false (wb (qlStatus q) 27 false s)
  let s := setQuill q { quill q s with slot := 0, storePend := false } s
  qlEvt q 4 (bump (qlReg q 0x6C) 1 s)

/-- A pending swap takes effect at a swap point (R302, R303): anywhere but mid-shift. -/
def qlSwapEffect (q : Nat) (s : State) : State :=
  if qlEn q s && rb s (qlStatus q) 29 && !rb s (qlStatus q) 25 && !(quill q s).idle then qlDoSwap q s else s

/-- What a step that is cut has done so far (R289–R292), and whether a hold or a shift is under way: the wait is over, the action has
been done, of a shift the slots `c` tells and the start of the next one. -/
def qlPartial (q : Nat) (c : QlCut) (s : State) : Bool × State :=
  let w := qlStep q (qlBank q s) (qlCur q s) s
  let act := stAct w
  if rb s (qlStatus q) 27 then (rb s (qlStatus q) 25, s)
  else if !c.mid || !qlAlive q s || 10 ≤ act || 10 ≤ stCond w then (false, s)
  else
    let pinCond := stCond w == 2 || stCond w == 3
    let (go, s) := if !stWait w || pinCond then (true, s) else qlCond q w false s
    if !go then (false, s)
    else
      let s := wb (qlStatus q) 26 false s
      let s := setQuill q { quill q s with strobe0 := bitOf (quill q s).lvl ((qlStrobe q s).getD 0) } s
      if 1 ≤ act && act ≤ 3 then
        match qlSlots q act w (min c.bits.val (stN w)) c.smp s with
        | (false, s) => (0 < (quill q s).slot || (quill q s).storePend, s)
        | (true, s) =>
          let (ok, s) := qlSlotStart q act w s
          (ok || 0 < (quill q s).slot, s)
      else
        let (ok, s) := qlAction q w [] s
        (ok, if ok then qlPins q (qlSide q (stSide w) s) else s)

/-- FORCE (R304): a plain swap at a swap point, else a cut. -/
def qlForce (q : Nat) (c : QlCut) (s : State) : State :=
  match qlPartial q c s with
  | (true, s) =>
    let b := (quill q s).slot
    let s := qlIdlePins q (setShift q 0 0 s)
    let s := qlEvt q 3 (bump (qlReg q 0x70) 1 s)
    let s := qlDoSwap q s
    raise 130 (w32 (q % 64 + 64 * qlBank q s + 256 * b)) s
  | (false, s) => qlDoSwap q s

/-- The quill stands at a swap point that lasts: halted, stalled but not mid-shift, or waiting on COND (R302). -/
def qlAtSwap (q : Nat) (s : State) : Bool :=
  !(quill q s).idle && (rb s (qlStatus q) 30 || (rb s (qlStatus q) 27 && !rb s (qlStatus q) 25) || rb s (qlStatus q) 26)

/-- SWAP, FORCE and SWCAN of one write (R303–R305). -/
def qlSwapBits (q : Nat) (v : Word) (c : QlCut) (s : State) : State :=
  if !qlEn q s || rb s (qlStatus q) 31 then s
  else if bit v 5 then qlForce q c s
  else if bit v 4 then
    let s := wb (qlStatus q) 29 true s
    if qlAtSwap q s then qlDoSwap q s else s
  else if bit v 7 then wb (qlStatus q) 29 false s
  else s

/-! ## Enable, reset, restart (R306–R309) -/

/-- The step of bank `b` is at fault for check 7 (R306). -/
def qlStepBad (q : Nat) (w : Word) (s : State) : Bool :=
  let unb (k : Nat) : Bool := !wpUse q k s
  10 ≤ stAct w || 10 ≤ stCond w ||
  ((stAct w == 1 || stAct w == 2 || stAct w == 3 || stAct w == 8) && unb (stPin w)) ||
  (stAct w == 3 && unb ((stPin w + 1) % 16)) ||
  ((stCond w == 2 || stCond w == 3) && unb (stPin w))

/-- Check 7 of R306: the first step at fault. -/
def qlBankBad (q b : Nat) (s : State) : Option Nat :=
  (List.range 128).find? (fun i => qlStepBad q (qlStep q b i s) s)

/-- Queues that may be bound (R300). -/
def qlQueueOk (n : Nat) : Bool := (544 ≤ n && n ≤ 607) || 704 ≤ n

/-- Queue `n` is bound by an enabled quill. -/
def qlBound (n j : Nat) (s : State) : Bool :=
  qlEn j s && ((qlTxen j s && qlTxq j s == n) || (qlRxen j s && qlRxq j s == n))

def qlBindBad (q : Nat) (s : State) : Bool :=
  let t := qlTxen q s
  let r := qlRxen q s
  let others := (List.range 64).filter (fun j => j != q)
  (t && (!qlQueueOk (qlTxq q s) || (subOf (qlTxq q s) s).1 || others.any (fun j => qlBound (qlTxq q s) j s))) ||
  (r && (!qlQueueOk (qlRxq q s) || others.any (fun j => qlBound (qlRxq q s) j s))) ||
  (t && r && qlTxq q s == qlRxq q s)

def wpFirst (q : Nat) (p : Nat → Bool) (s : State) : Option Nat :=
  (List.range 16).find? (fun k => wpUse q k s && p (wpPin q k s))

/-- The enable check (R306): QL_REASON, 0 = pass. -/
def qlCheck (q : Nat) (s : State) : Word :=
  let at_ (c k : Nat) : Word := w32 (c + 256 * k)
  let none_ := (List.range 16).all (fun k => !wpUse q k s)
  let strobe := match qlStrobe q s with | some k => if wpUse q k s then none else some k | none => none
  if rb s (qlStatus q) 31 then 0x3E
  else if none_ then at_ 0x31 0
  else match strobe with
  | some k => at_ 0x31 k
  | none => match (List.range 16).find? (fun k => wpUse q k s &&
      (List.range k).any (fun j => wpUse q j s && wpPin q j s == wpPin q k s)) with
  | some k => at_ 0x33 k
  | none => match wpFirst q (fun p => pinClaimed p s) s with
  | some k => at_ 0x01 k
  | none => match wpFirst q (fun p => pinFiveVt p s) s with
  | some k => at_ 0x03 k
  | none => match wpFirst q (fun p => pinVioBad p false s) s with
  | some k => at_ 0x02 k
  | none => match qlBankBad q (rf s (qlReg q 0) 1 1) s with
  | some i => w32 (0x34 + 65536 * i)
  | none => if qlBindBad q s then 0x35 else 0

def wpClaim (q : Nat) : List Nat → State → State
  | [], s => s
  | k :: t, s => wpClaim q t (if wpUse q k s then claimPin (wpPin q k s) 2 0 q s else s)

def wpRelease (q : Nat) : List Nat → State → State
  | [], s => s
  | k :: t, s => wpRelease q t (if wpUse q k s then releasePin (wpPin q k s) s else s)

/-- Forget a pending commit of quill `q`'s RX words: its FIFO has been emptied. -/
def qlForget (q : Nat) (s : State) : State := returnWhere (fun c => c == .quillRx q) s

/-- Run the enable check and, on pass, start the quill (R306, R307). -/
def qlStart (q : Nat) (s : State) : State :=
  let c := qlCheck q s
  let s := wr (qlReg q 0x08) c s
  if c ≠ 0 then s
  else
    let s := wpClaim q (List.range 16) (wb (qlReg q 0) 0 true s)
    let s := setQuill q { wave := (quill q s).wave, idle := !dataPath s } (qlForget q s)
    let s := wr (qlReg q 0x4C) 0 (wr (qlReg q 0x50) 0 s)
    let s := wr (qlStatus q) (w32 (rf s (qlReg q 0) 1 1 * 0x10000000)) s
    qlIdlePins q s

/-- The unit reset (R308), which finds the current step as `c` tells. -/
def qlReset (q : Nat) (c : QlCut) (s : State) : State :=
  if !qlEn q s then s
  else
    let s := (qlPartial q c (unitForget (qlReg q 0) [] s)).2
    let k := quill q s
    let s := if qlTxen q s && 0 < k.loaded then
        let t := qlTxq q s
        match (queue t s).items with
        | [] => s
        | i :: r => putQueue t { queue t s with items := { i with pos := i.pos + 4 * k.loaded } :: r } s
      else s
    let s := if qlRxen q s then
        let s := qlMoveRx q false 4 s
        let left := (quill q s).rxf.length
        qlCloseItem q (quill q s).rxTag false true (qlDrop q left s)
      else s
    let s := wpRelease q (List.range 16) (wb (qlReg q 0) 0 false s)
    let s := setQuill q { wave := (quill q s).wave } s
    let s := wr (qlReg q 0x4C) 0 (wr (qlReg q 0x50) 0 s)
    wr (qlStatus q) (rd s (qlStatus q) &&& 0x80000000#32) s

/-- How far a step has come that something cuts without a word: free values. -/
def qlFar (s : State) : QlCut × State :=
  let (w, s) := fresh s
  let (v, s) := fresh s
  (⟨bit w 31, Fin.ofNat 32 (fld w 4 0), (List.range 32).map (fun i => bit v i)⟩, s)

/-- Quarantine (R308, R499). -/
def qlQuar (q : Nat) (s : State) : State :=
  let (c, s) := qlFar s
  wb (qlStatus q) 31 true (qlReset q c s)

/-- RUN = 0 or node safe state begins: the step under way ends, no other until the restart (R309). -/
def qlHoldIdle (q : Nat) (s : State) : State :=
  if qlEn q s && !(quill q s).idle then
    let (c, s) := qlFar s
    let s := (qlPartial q c s).2
    setQuill q { quill q s with idle := true } s
  else s

/-- The restart (R309): idle pattern, shifter cleared, a pending swap taken, step 0 of the active bank. -/
def qlRestart (q : Nat) (s : State) : State :=
  if !qlEn q s || !dataPath s || !(quill q s).idle then s
  else
    let s := setQuill q { quill q s with idle := false, slot := 0, storePend := false } s
    let s := qlIdlePins q (setShift q 0 0 s)
    let s := wb (qlStatus q) 25 false (wb (qlStatus q) 26 false (wb (qlStatus q) 27 false s))
    if rb s (qlStatus q) 29 then qlDoSwap q s else wf (qlStatus q) 22 16 0 s

/-- A write of QL_CTL, which finds the current step as `c` tells (R294, R303–R308, R453): the other fields are written before the
enable check, and after a unit reset. -/
def qlCtlWrite (q : Nat) (v : Word) (c : QlCut) (s : State) : State :=
  let k := qlReg q 0
  let mark := fun s => if bit v 6 then wb (qlStatus q) 2 true s else s
  if qlEn q s then
    if bit v 0 then qlSwapBits q v c (mark s) else mark (stm k 0x2#32 v (qlReset q c s))
  else
    let s := mark (stm k 0x2#32 v s)
    if bit v 0 then qlStart q s else s

/-- A write of QL_TX (R295): BUSY at a full FIFO. -/
def qlTxWrite (q : Nat) (v : Word) (s : State) : Status × State :=
  if qlTxen q s then (.ok, qlEvt q 7 (bump (qlReg q 0x64) 1 s))
  else
    let k := quill q s
    if 4 ≤ k.txf.length then (.busy, bump (qlReg q 0x64) 1 s)
    else (.ok, qlCounts q (setQuill q { k with txf := k.txf ++ [v] } s))

/-- An error that cannot be corrected in a step or a table halts the quill (R313). -/
def qlError (q : Nat) (s : State) : State := if qlEn q s then qlHalt q s else s

/-- A write of step `i` of bank `b` (R301): DENIED for the active bank. -/
def qlStepWrite (q b i : Nat) (v : Word) (s : State) : Status × State :=
  if qlEn q s && qlBank q s == b then (.denied, qlEvt q 2 s)
  else (.ok, wr (qlReg q (0x400 + 0x200 * b + 4 * i)) v s)

/-- QL_RXD and QL_RXS as read (R296, R319). -/
def qlRxd (q : Nat) (s : State) : Word :=
  if qlRxen q s then 0 else match (quill q s).rxf with | e :: _ => e.w | [] => 0
def qlRxs (q : Nat) (s : State) : Word :=
  if qlRxen q s then 0 else match (quill q s).rxf with | e :: _ => w32 (0x80000000 + e.bits) | [] => 0

/-- The stroke latch at an instant (R294). -/
def qlStroke (q : Nat) (s : State) : State :=
  if !qlEn q s || !dataPath s then s
  else if rb s (qlStatus q) 3 then qlEvt q 6 (bump (qlReg q 0x68) 1 s)
  else wb (qlStatus q) 3 true s

def qlStrokeAll : List Nat → State → State
  | [], s => s
  | q :: t, s => qlStrokeAll t (qlStroke q s)

end Sys2Proof.Machine
end

