-- ==== Sys2Proof/Machine/Stroke.lean ====
section
/-! DEFINITION. The stroke (chapter 7): the schedule, commits and the cutoff, what happens at an instant, publication, and
schedule announcements. -/
namespace Sys2Proof.Machine
open Sys2Proof

def stkEn (s : State) : Bool := rb s stkCtl 0

/-- Instants are acted on (R260). -/
def stkRuns (s : State) : Bool := stkEn s && rb s hubCtl 0 && !rb s stkStatus 1

def setStk (v : StkSt) (s : State) : State := { s with stk := v }
def stkPeriod (s : State) : Nat := (rd s (stkReg 0x10)).toNat
def stkPhase (s : State) : Nat := (rd s (stkReg 0x14)).toNat
def stkNext (s : State) : Nat := (dword (rd s (stkReg 0x1C)) (rd s (stkReg 0x18))).toNat

/-- The first instant of a schedule at or after `t` (R259). -/
def firstInstant (period phase t : Nat) : Nat :=
  if period = 0 then t else phase + ceilDiv (t - phase) period * period

def putNext (t : Nat) (s : State) : State :=
  let d := BitVec.ofNat 64 t
  wr (stkReg 0x18) (loW d) (wr (stkReg 0x1C) (hiW d) s)

/-- K of an instant (R259). -/
def strokeNo (t : Nat) (s : State) : Nat := (t - stkPhase s) / max 1 (stkPeriod s)

/-- The first instant at least 2 µs ahead of TB0 and later than the last one acted on (R260, R261). -/
def aheadInstant (s : State) : Nat :=
  firstInstant (stkPeriod s) (stkPhase s)
    (max ((tb0 s).toNat + 2000) (match s.stk.last with | some l => l + 1 | none => 0))

/-- STK_STATUS as read (R282). -/
def stkStatusVal (s : State) : Word :=
  let b (x : Bool) (i : Nat) : Nat := if x then 2 ^ i else 0
  w32 (b s.stk.armed.isSome 5 + b s.stk.committed.isSome 4 + b (stkRuns s && unlocked s) 3
    + b s.stk.pend.isSome 2 + b (rb s stkStatus 1) 1 + b (stkRuns s) 0)

/-! ## Output sets (R264) -/

def ovalWords (s : State) : List Word := (List.range 16).map (fun g => rd s (stkReg (0x200 + 4 * g)))

def putOarm (v : List Word) : List Nat → State → State
  | [], s => s
  | g :: t, s => putOarm v t (wr (stkReg (0x240 + 4 * g)) (nthD 0 v g) s)

/-- COMMIT: the staged values become the committed set; after the cutoff it is late (R264). -/
def stkCommit (s : State) : State :=
  let s := setStk { s.stk with committed := some (ovalWords s) } s
  if s.stk.cut then wb stkEvt 3 true (bump (stkReg 0x30) 1 s) else s

/-- Every output set is forgotten: at entry to node safe state (R258). -/
def stkForget (s : State) : State :=
  putOarm [] (List.range 16) (setStk { s.stk with committed := none, armed := none, applied := none } s)

/-! ## Cutoff and instant (R262–R265, R629) -/

def chooseNibs : List Nat → State → State
  | [], s => s
  | n :: t, s =>
    let c := nibRuns n s && !(nib n s).tx && (match txHead n s with | some i => strokeItem (nibMode n s) i | none => false)
    chooseNibs t (if c == (nib n s).chosen then s else setNib n { nib n s with chosen := c } s)

/-- The cutoff of the next instant: the committed set is armed, and held items and objects are chosen. -/
def stkCutoff (s : State) : State :=
  if !stkRuns s || s.stk.cut then s
  else
    let s := match s.stk.committed with
      | some v => putOarm v (List.range 16) (setStk { s.stk with armed := some v, committed := none } s)
      | none => s
    let s := setStk { s.stk with cut := true } s
    overCans canCutoff (List.range 16) (chooseNibs (List.range 256) s)

/-- F of the 32 pins of group `g` as the snapshot takes it: 0 while the group's VIO is absent (R200, R262). -/
def pinLevels (g : Nat) (s : State) : Nat :=
  sumN ((List.range 32).map (fun i => if pinIn (32 * g + i) (pin (32 * g + i) s).f s then 2 ^ i else 0))

def snapLevels : List Nat → State → State
  | [], s => s
  | g :: t, s => snapLevels t (wr (stkReg (0x318 + 4 * g)) (w32 (pinLevels g s)) s)

/-- Snapshot counter i (R262). -/
def snapCount (i : Nat) (s : State) : Word :=
  let n := rf s (stkReg (0x40 + 4 * i)) 7 0
  if rb s (stkReg (0x40 + 4 * i)) 31 && nibEn n s && nibMode n s == 7 then rd s (nibReg n 0x8C) else 0

def snapCounts : List Nat → State → State
  | [], s => s
  | i :: t, s => snapCounts t (wr (stkReg (0x358 + 4 * i)) (snapCount i s) s)

/-- The snapshot registers change together (R263). -/
def stkSnapshot (t k : Nat) (s : State) : State :=
  let d := BitVec.ofNat 64 t
  let kd := BitVec.ofNat 64 k
  let fl := b2n (unlocked s) * 0x80000000 + b2n (rb s hubStatus 4) * 0x20000000
  let s := wr (stkReg 0x300) (loW d) (wr (stkReg 0x304) (hiW d) s)
  let s := wr (stkReg 0x308) (loW kd) (wr (stkReg 0x30C) (hiW kd) s)
  let s := wr (stkReg 0x310) (w32 fl) (wr (stkReg 0x314) (rd s (stkReg 0x314) + 1) s)
  snapCounts (List.range 32) (snapLevels (List.range 16) s)

/-- The record of channel `c` (R267). -/
def stkRecord (c t k : Nat) (s : State) : List Byte :=
  let gm := rf s (stkReg (0x104 + 16 * c)) 15 0
  let cm := (rd s (stkReg (0x108 + 16 * c))).toNat
  let fl := b2n (unlocked s) * 0x80000000 + b2n (s.stk.gap.contains c) * 0x40000000
    + b2n (rb s hubStatus 4) * 0x20000000 + gm
  leBytes 8 t ++ leBytes 4 k ++ leBytes 4 fl
    ++ ((List.range 16).filter (fun g => bitOf gm g)).flatMap (fun g => wordBytes (rd s (stkReg (0x318 + 4 * g))))
    ++ ((List.range 32).filter (fun i => bitOf cm i)).flatMap (fun i => wordBytes (rd s (stkReg (0x358 + 4 * i))))

/-- Publication of one channel (R267, R268). -/
def stkPublish (c t k : Nat) (s : State) : State :=
  let div := rf s (stkReg (0x100 + 16 * c)) 15 0
  if !rb s (stkReg (0x100 + 16 * c)) 31 || div = 0 || k % div ≠ 0 then s
  else
    let r := stkRecord c t k s
    match putItem (624 + c) { bytes := r, user := w32 k } s with
    | (true, s) => setStk { s.stk with gap := s.stk.gap.erase c } s
    | (false, s) =>
      let s := wb stkEvt 4 true (bump (stkReg 0x2C) 1 (rxOverflow (624 + c) r.length s))
      notify 18 4 c (w32 k) (setStk { s.stk with gap := if s.stk.gap.contains c then s.stk.gap else c :: s.stk.gap } s)

def stkPublishAll (t k : Nat) : List Nat → State → State
  | [], s => s
  | c :: l, s => stkPublishAll t k l (stkPublish c t k s)

def strokeNibs : List Nat → State → State
  | [], s => s
  | n :: t, s => strokeNibs t (pwmStroke n (nibStroke n s))

/-- The next stroke instant comes (R262). `late` = the schedule reached the port complex after T (R629). An announcement
whose EFF has come is taken first. -/
def stkInstant (late : Bool) (s : State) : State :=
  let t := stkNext s
  let due := match s.stk.pend with | some (e, _, _, _) => decide (e ≤ t) | none => false
  if !stkRuns s || due then s
  else
    let k := strokeNo t s
    let s := putNext (firstInstant (stkPeriod s) (stkPhase s) (t + 1)) (setStk { s.stk with cut := false } s)
    if late then raise 185 (w32 k) (wb stkEvt 1 true (bump (stkReg 0x24) 1 s))
    else
      let s := bump (stkReg 0x20) 1 (setStk { s.stk with last := some t } s)
      let s := stkSnapshot t k s
      let s := if rb s hubStatus 4 then s else setStk { s.stk with applied := s.stk.armed } s
      let s := strokeNibs (List.range 256) s
      let s := qlStrokeAll (List.range 64) s
      let s := overCans canInstant (List.range 16) s
      stkPublishAll t k (List.range 16) s

/-! ## Schedule changes (R261, R269–R272) -/

/-- A step of TB0, forward or not (R261): instants that a forward step passes over are counted, none is repeated. The cutoff of the new
next instant lies ahead. Called with TB0 already stepped. -/
def stkStep (fwd : Bool) (s : State) : State :=
  let s := wb stkEvt 5 true s
  if !stkRuns s then s
  else
    let old := stkNext s
    let new := aheadInstant s
    let s := setStk { s.stk with cut := false } s
    let n := if fwd && old < new then (new - old) / max 1 (stkPeriod s) else 0
    let s := putNext new s
    if n = 0 then s else notify 18 2 0 (w32 n) (wb stkEvt 1 true (bump (stkReg 0x24) n s))

/-- TB0 loses lock while the stroke runs (R260). -/
def stkUnlock (s : State) : State :=
  if stkRuns s then notify 18 3 0 0 (wb stkEvt 0 true s) else s

/-- Period and phase are in range (R259, R272): the code of the failure, or 0. -/
def schedCode (period phase : Nat) : Nat :=
  if period < 10000 || 1000000000 < period then 0x68 else if period ≤ phase then 0x69 else 0

/-- An announcement is made pending, in place of one that is still pending (R270). -/
def stkPend (eff period phase : Nat) (stop : Bool) (s : State) : State :=
  let d := BitVec.ofNat 64 eff
  wr (stkReg 0x34) (loW d) (wr (stkReg 0x38) (hiW d) (setStk { s.stk with pend := some (eff, period, phase, stop) } s))

/-- A STROKE frame of node `src` (R270). -/
def stkFrame (src eff period phase : Nat) (stop : Bool) (s : State) : State :=
  let f := rf s stkCtl 31 24
  if !stkEn s || f = 0 || src ≠ f then s
  else
    let late := eff < (tb0 s).toNat + 10000
    if late || (!stop && schedCode period phase ≠ 0) then
      notify 18 1 0 (w32 (256 * src + b2n late)) (wb stkEvt 2 true (bump (stkReg 0x28) 1 s))
    else stkPend eff period phase stop s

/-- EFF of the pending announcement has come (R270). -/
def stkSwitch (s : State) : State :=
  match s.stk.pend with
  | none => s
  | some (eff, period, phase, stop) =>
    let s := wr (stkReg 0x34) 0 (wr (stkReg 0x38) 0 (setStk { s.stk with pend := none, cut := false } s))
    if stop then wb stkStatus 1 true s
    else
      let s := wr (stkReg 0x10) (w32 period) (wr (stkReg 0x14) (w32 phase) (wb stkStatus 1 false s))
      let lo := max eff (match s.stk.last with | some l => l + 1 | none => 0)
      let lo := if eff < (tb0 s).toNat then max lo ((tb0 s).toNat + 2000) else lo
      notify 18 5 0 (w32 period) (putNext (firstInstant period phase lo) s)

/-- The STROKE frame of this node (R269). -/
def stkSend (eff period phase : Nat) (stop : Bool) (s : State) : State :=
  (originate (mkFrame 255 8 0 0 0 (leBytes 8 eff ++ leBytes 4 period ++ leBytes 4 phase ++ leBytes 4 (b2n stop)
    ++ leBytes 4 0)) s).2

/-- STROKE_CONFIG (R271): the refusal code (0 = OK), the EFF used. A STOP that is applied as in R270 is not tested for its range, as
there (DEDUCED, log entry 35). -/
def stkConfig (announce stop : Bool) (eff0 period phase : Nat) (s : State) : Nat × Nat × State :=
  let now := (tb0 s).toNat
  let eff := if eff0 = 0 then now + 1000000 else eff0
  let c := schedCode period phase
  let direct := !stkEn s && !announce
  if c ≠ 0 && (direct || !stop) then (c, eff, s)
  else if !direct && eff < now + 2 * max 1 (rf s hubTxRtt 7 0) * 1000 + 10000 then (0x6C, eff, s)
  else if announce && rf s stkCtl 31 24 ≠ ownNode s then (0x6E, eff, s)
  else if announce && !stkEn s then (0x6F, eff, s)
  else if direct then (0, eff, wr (stkReg 0x10) (w32 period) (wr (stkReg 0x14) (w32 phase) s))
  else
    let s := stkPend eff period phase stop s
    (0, eff, if announce then stkSend eff period phase stop s else s)

/-! ## Enable (R260, R272) -/

/-- The first enabled channel at fault. -/
def pubBad (s : State) : Bool :=
  (List.range 16).any (fun c => rb s (stkReg (0x100 + 16 * c)) 31 &&
    (rf s (stkReg (0x100 + 16 * c)) 15 0 == 0 ||
      (rf s (stkReg (0x104 + 16 * c)) 15 0 == 0 && rd s (stkReg (0x108 + 16 * c)) == 0)))

def stkCheck (s : State) : Nat :=
  let c := schedCode (stkPeriod s) (stkPhase s)
  if c ≠ 0 then c
  else if rf s stkCtl 31 24 = 255 then 0x6D
  else if pubBad s then 0x6A
  else if unlocked s && !rb s stkCtl 2 then 0x6B
  else 0

def stkStart (s : State) : State :=
  let c := stkCheck s
  let s := wr stkReason (w32 c) s
  if c ≠ 0 then s
  else
    let s := setStk { s.stk with last := none, cut := false } (wr (stkReg 0x314) 0 (wb stkCtl 0 true s))
    putNext (aheadInstant s) s

/-- EN written 0 (R260). -/
def stkStop (s : State) : State :=
  let s := wr (stkReg 0x34) 0 (wr (stkReg 0x38) 0 (setStk { s.stk with pend := none, cut := false } s))
  wb stkCtl 0 false (wb stkStatus 1 false s)

/-- HUB_CTL.RUN returns to 1 (R260). -/
def stkRunAgain (s : State) : State :=
  if stkRuns s then putNext (aheadInstant s) (setStk { s.stk with cut := false } s) else s

/-- A write of STK_CTL (R264, R281, R453). -/
def stkCtlWrite (v : Word) (s : State) : State :=
  let com (s : State) : State := if bit v 1 then stkCommit s else s
  if stkEn s then
    if bit v 0 then com s else com (stm stkCtl 0xFF000004#32 v (stkStop s))
  else
    let s := stm stkCtl 0xFF000004#32 v s
    com (if bit v 0 then stkStart s else s)

end Sys2Proof.Machine
end

