-- ==== Sys2Proof/Machine/Time.lean ====
section
/-! DEFINITION. The time unit (chapter 11): the four bases, SYNC frames as sent, returned and received, the offset, and the
discipline of TB0. Offsets are exact, in units of 2^-17 ns. -/
namespace Sys2Proof.Machine
open Sys2Proof

def setTime (v : TimeSt) (s : State) : State := { s with time := v }
def base (n : Nat) (s : State) : BaseSt := tget (fun _ => {}) s.time.bases n
def setBase (n : Nat) (v : BaseSt) (s : State) : State :=
  setTime { s.time with bases := tset (fun _ => {}) s.time.bases n v } s

/-! ## Bases (R400–R405) -/

def slaved (n : Nat) (s : State) : Bool := n != 0 && rb s (tbBase n 0) 1
def slaveOfs (n : Nat) (s : State) : DWord := dword (rd s (tbBase n 0x1C)) (rd s (tbBase n 0x18))

/-- The value base `n` reads: a slaved base reads TB0 + TB_OFSn (R404). -/
def baseVal (n : Nat) (s : State) : DWord := if slaved n s then tb0 s + slaveOfs n s else (base n s).ns

/-- Advance a base by a signed number of 2^-32 ns, the fraction included (R400). -/
def advance (b : BaseSt) (d : Int) : BaseSt :=
  let v := (b.ns.toNat * 4294967296 + b.frac.toNat : Nat) + d
  let n := (v % (2 ^ 96 : Int)).toNat
  { b with ns := BitVec.ofNat 64 (n / 4294967296), frac := w32 n }

/-- One nanosecond of the REFCLK-derived clock: 1 + TB_RATEn × 2^-32 ns on each base that is not slaved (R401). -/
def tickBases : List Nat → State → State
  | [], s => s
  | n :: t, s => tickBases t (if slaved n s then s else setBase n (advance (base n s) (4294967296 + sgn (rd s (tbBase n 0x0C)))) s)

/-- TB_RATE as taken: the nearer limit of ±2,147,483 (R401). -/
def clampRate (v : Word) : Word :=
  if sgn v < -2147483 then wOfInt (-2147483) else if 2147483 < sgn v then wOfInt 2147483 else v

/-- Set TB_EVT bit `i`; a bit that goes from 0 to 1 creates its notice (R426). -/
def tbEvent (i : Nat) (s : State) : State :=
  if rb s tbEvt i then s
  else
    let s := wb tbEvt i true s
    if rb s tbNmask i then notify 17 (i + 1) 0 (rd s tbStatus) s else s

/-- After a step of TB0 from `old`: TB_EVT.STEP, and the stroke (R403, R261). -/
def tb0Stepped (old : DWord) (s : State) : State :=
  stkStep (old.toNat < (tb0 s).toNat) (tbEvent 3 (setTime { s.time with steps := (s.hub.now, tb0 s - old) :: s.time.steps } s))

/-- A step or rate write to base `n` is refused with this code (R404, R405). -/
def tbRefusal (n : Nat) (s : State) : Option Nat :=
  if slaved n s then some 0x63
  else if n = 0 && rb s tbCtl 0 && rf s tbStatus 2 0 ≠ 6 then some 0x61
  else none

def tbRefuse (code : Nat) (s : State) : State := tbEvent 7 (wr tbReason (w32 code) s)

/-- Add `d` units of 2^-32 ns to base `n`. -/
def shiftBase (n : Nat) (d : Int) (s : State) : State :=
  let old := tb0 s
  let s := setBase n (advance (base n s) d) s
  if n = 0 then tb0Stepped old s else s

/-- Step or load base `n` (R403); the refusal code, 0 if done. -/
def tbStep (n : Nat) (v : DWord) (abs : Bool) (s : State) : Nat × State :=
  match tbRefusal n s with
  | some c => (c, tbRefuse c s)
  | none =>
    if abs then
      let old := tb0 s
      let s := setBase n { base n s with ns := v, frac := 0 } s
      (0, if n = 0 then tb0Stepped old s else s)
    else (0, shiftBase n (v.toInt * 4294967296) s)

/-- A write of TB_STEP_HIn applies the step (R403). -/
def tbStepWrite (n : Nat) (v : Word) (s : State) : State :=
  (tbStep n (dword v (base n s).stepLo) (rb s (tbBase n 0) 0) s).2

def tbStepLoWrite (n : Nat) (v : Word) (s : State) : State := setBase n { base n s with stepLo := v } s

/-- A write of TB_RATEn (R401, R404, R405). -/
def tbRateWrite (n : Nat) (v : Word) (s : State) : State :=
  match tbRefusal n s with
  | some c => tbRefuse c s
  | none => wr (tbBase n 0x0C) (clampRate v) s

/-- Set SLAVE of base `n`: a base set free goes on from the value it read (R404). -/
def putSlave (n : Nat) (b : Bool) (s : State) : State :=
  let s := if slaved n s && !b then setBase n { base n s with ns := baseVal n s, frac := (base 0 s).frac } s else s
  wb (tbBase n 0) 1 b s

/-- A write of TB_BCTLn; SLAVE of base 0 is reserved. -/
def tbBctlWrite (n : Nat) (v : Word) (s : State) : State :=
  let s := wb (tbBase n 0) 0 (bit v 0) s
  if n = 0 then s else putSlave n (bit v 1) s

/-- A read of TB_LOn captures the upper word (R402). -/
def tbLoRead (n : Nat) (s : State) : State := setBase n { base n s with hi := hiW (baseVal n s) } s

/-! ## States of the discipline (R414, R424) -/

def tbState (s : State) : Nat := rf s tbStatus 2 0

/-- Enter a state: the counts restart; JUMP reads 1 exactly in state 5; events, counts and faults of R414 and R429. -/
def tbEnter (st : Nat) (s : State) : State :=
  let old := tbState s
  if old = st then s
  else
    let was := unlocked s
    let s := wb tbStatus 3 (st == 5) (wf tbStatus 2 0 st s)
    let s := setTime { s.time with good := 0, bad := 0, outl := 0, restep := none, syncAt := none } (wb tbStatus 8 false s)
    let s := if st = 2 && old ≠ 3 then setTime { s.time with rateAt := s.hub.now } s else s
    let s := if old = 3 && st ≠ 6 then tbEvent 1 s else s
    let s := if st = 3 then tbEvent 0 s
      else if st = 4 then raise 178 0 (bump (tbReg 0x50) 1 (tbEvent 4 s))
      else if st = 5 then
        let s := bump (tbReg 0x4C) 1 (tbEvent 2 s)
        raise 177 (rd s tbOffset) s
      else s
    if !was && unlocked s then stkUnlock s else s

/-- The role of time master is taken: no step, the rate is kept (R414). -/
def takeMaster (s : State) : State := tbEnter 6 s

/-- The role is given up: ACQUIRE with no step, or FREE with EN = 0; TB_PATH_A is unmeasured (R414, R424). -/
def dropMaster (s : State) : State :=
  if tbState s = 6 then tbEnter (if rb s tbCtl 0 then 2 else 0) (setTime { s.time with path := none } s) else s

/-- The check of R424. -/
def tbCheck (s : State) : Nat :=
  let per := rf s (tbReg 0x10) 16 0
  let lim := (rd s (tbReg 0x14)).toNat
  let thr := rf s (tbReg 0x18) 15 0
  let hold := rf s (tbReg 0x1C) 9 0
  if per < 125 || 100000 < per || lim < 100 || 1000000000 < lim || thr < 10 || 10000 < thr || hold < 5 || 1000 < hold
     || 1000 < rf s (tbReg 0x20) 9 0 then 5
  else if lim ≤ thr then 0x60 else 0

/-- A write of 1 to TB_CTL.EN (R424). -/
def tbEnable (s : State) : State :=
  let code := tbCheck s
  let s := wr tbReason (w32 code) s
  if code ≠ 0 then wb tbCtl 0 false s
  else
    let s := wb tbStatus 4 false (setTime { s.time with path := none } (wb tbCtl 0 true s))
    if tbState s = 6 then s
    else tbEnter 1 (setTime { s.time with adopted := false, pend := [] } s)

/-- A write of 0 to TB_CTL.EN (R414). -/
def tbDisable (s : State) : State :=
  let s := wb tbCtl 0 false s
  if tbState s = 6 then s else tbEnter 0 s

def tbCtlWrite (v : Word) (s : State) : State :=
  if bit v 0 then (if rb s tbCtl 0 then s else tbEnable s)
  else if rb s tbCtl 0 then tbDisable s else s

/-! ## SYNC at the master (R408, R409, R412) -/

def syncFrame (f : Frame) : Bool := f.typ == 7 && f.addr == 1
def syncX (f : Frame) (stamp : DWord) : Int :=
  let ts : DWord := BitVec.ofNat 64 (leNat (f.payload.take 8))
  let corr : DWord := BitVec.ofNat 64 (leNat ((f.payload.drop 8).take 8))
  (stamp - ts).toInt * 65536 - corr.toInt
def syncCtot (f : Frame) : Nat := leNat ((f.payload.drop 16).take 4)
def syncEpoch (f : Frame) : Nat := leNat ((f.payload.drop 20).take 4)
def syncNo (f : Frame) : Nat := leNat ((f.payload.drop 24).take 2)
def syncFresh (f : Frame) : Bool := bitOf (leNat ((f.payload.drop 26).take 1)) 0

/-- TB_SYNC_PER in µs, a value out of range as the nearer limit (R409). -/
def syncPeriod (s : State) : Nat := max 125 (min 100000 (rf s (tbReg 0x10) 16 0))

/-- The next SYNC is due: the first within the first period as master, the others one period after the one before (R409). -/
def syncDue (s : State) : Bool :=
  match s.time.syncAt with
  | some t => t + 1000 * syncPeriod s ≤ s.hub.now
  | none => true

/-- Send one SYNC with the role's `epoch` (R408, R409). -/
def syncSend (epoch : Word) (s : State) : State :=
  if tbState s ≠ 6 || !syncDue s then s
  else
    let t := s.time
    let ctot := rd s tbCtot
    let fresh := t.since < 100 && ctot ≠ 0xFFFFFFFF#32
    let pl := List.replicate 16 0 ++ wordBytes ctot ++ wordBytes epoch ++ leBytes 2 t.syncNo
      ++ [BitVec.ofNat 8 (b2n fresh + 2 * b2n t.asym)] ++ List.replicate 5 0
    let t := { t with syncNo := (t.syncNo + 1) % 65536, since := min 100 (t.since + 1), syncAt := some s.hub.now }
    let s := setTime t (wb tbStatus 7 fresh s)
    (originate { mkFrame 255 7 0 0 1 pl with ts := true } s).2

/-- An own SYNC copy has come back on ring `r` (R412). -/
def syncReturn (r : Nat) (f : Frame) (stamp : DWord) (s : State) : State :=
  if tbState s ≠ 6 || !syncFrame f then s
  else
    let c : SyncCopy := { no := syncNo f, since := s.hub.now, ring := r, x := syncX f stamp, hop := f.hop, ctot := 0, fresh := false }
    match s.time.own.find? (fun o => o.no = c.no && o.ring ≠ r) with
    | none => setTime { s.time with own := [c] } s
    | some o =>
      let diff := (c.x - o.x).natAbs
      let s := wr tbCtot (wOfInt ((c.x + o.x) / 512)) s
      let s := setTime { s.time with own := [], since := 0, asym := 655360 < diff } (wb tbStatus 7 true s)
      if 655360 < diff then raise 180 (w32 (diff / 256)) (tbEvent 8 s) else s

/-! ## Following a master (R411, R413) -/

/-- The servo's rate update (R415): applied by pair M, within the range of R401; at the limit 16 times in a row it shows. -/
def servo (rate : Word) (s : State) : State :=
  let v := clampRate rate
  let s := setTime { s.time with rateAt := s.hub.now } (wr (tbBase 0 0x0C) v s)
  if sgn v = 2147483 || sgn v = -2147483 then
    let n := s.time.atMax + 1
    let s := setTime { s.time with atMax := n } s
    if n = 16 then raise 181 v (wb tbStatus 9 true s) else s
  else wb tbStatus 9 false (setTime { s.time with atMax := 0 } s)

/-- Step TB0 by −offset. -/
def stepOff (off : Int) (s : State) : State := shiftBase 0 (-(off * 32768)) s

/-- An offset above TB_STEP_LIMIT (R416). -/
def isOutlier (off : Int) (s : State) : Bool := (rd s (tbReg 0x14)).toNat * 131072 < off.natAbs
def aboveThr (off : Int) (s : State) : Bool := rf s (tbReg 0x18) 15 0 * 131072 < off.natAbs

/-- A used offset in ACQUIRE or LOCKED (R414): the rate is set, and the consecutive offsets are counted. -/
def useOffset (off : Int) (rate : Word) (s : State) : State :=
  let s := if tbState s = 4 then tbEnter 2 s else s
  let s := servo rate (setTime { s.time with outl := 0 } s)
  let above := aboveThr off s
  if tbState s = 2 then
    let n := if above then 0 else s.time.good + 1
    let s := setTime { s.time with good := n } s
    if 16 ≤ n then tbEnter 3 s else s
  else
    let n := if above then s.time.bad + 1 else 0
    let s := setTime { s.time with bad := n } s
    if 4 ≤ n then tbEnter 2 s else s

/-- What an offset does (R414–R418). The servo and the first step need pair M (R26). `rate` is the servo's new rate. -/
def discipline (off : Int) (rate : Word) (s : State) : State :=
  let st := tbState s
  if !rb s hubStatus 1 || st = 0 || st = 6 then s
  else if st = 1 then tbEnter 2 (wb tbStatus 4 true (stepOff off s))
  else match s.time.restep with
    | some m =>
      let s := setTime { s.time with restep := none } (wb tbStatus 8 false s)
      if m = 0 || off.natAbs ≤ m * 131072 then tbEnter 2 (stepOff off s)
      else if isOutlier off s then bump (tbReg 0x44) 1 s else s
    | none =>
      if isOutlier off s then
        let s := bump (tbReg 0x44) 1 s
        if st = 5 then s
        else
          let n := s.time.outl + 1
          let s := setTime { s.time with outl := n } s
          if 4 ≤ n then tbEnter 5 s else s
      else if st = 5 then s
      else useOffset off rate s

/-- Form the offset from the copies at hand (R413), note it, and discipline TB0. -/
def formOffset (cs : List SyncCopy) (ctot : Nat) (fresh : Bool) (rate : Word) (s : State) : State :=
  let held := (rd s tbCtot).toNat
  let fresh := fresh && ctot != 0xFFFFFFFF
  let seg := rf s (tbReg 0x20) 9 0
  let one (c : SyncCopy) : Int × Bool :=
    match s.time.path with
    | some p => (if c.ring = 0 then 2 * c.x - p else 2 * c.x - ((held * 512 : Nat) - p), false)
    | none => (2 * c.x - (((c.hop + 1) * seg * 131072 : Nat) : Int), true)
  let two := match cs.find? (fun c => c.ring = 0), cs.find? (fun c => c.ring = 1) with
    | some a, some b => some (a, b)
    | _, _ => none
  let (off, s) := match two with
    | some (a, b) =>
      if fresh || held ≠ 0xFFFFFFFF then
        let off := a.x + b.x - (((if fresh then ctot else held) * 256 : Nat) : Int)
        let p := 2 * a.x - off
        (off, wr tbPathA (wOfInt (p / 512)) (setTime { s.time with path := some p } (wb tbStatus 10 false (wb tbStatus 6 false s))))
      else ((one (if b.hop < a.hop then b else a)).1, wb tbStatus 10 true s)
    | none => match cs with
      | c :: _ =>
        let (off, est) := one c
        (off, wb tbStatus 10 true (if est then wb tbStatus 6 true s else s))
      | [] => (0, s)
  let s := if fresh then wr tbCtot (w32 ctot) s else s
  discipline off rate (wr tbOffset (wOfInt (off / 8192)) s)

/-- A value is newer than another, modulo 2^32 (R411, R465). -/
def newer (new old : Nat) : Bool := let d := (new + 4294967296 - old) % 4294967296; 1 ≤ d && d ≤ 2147483647

/-- Adopt the sender of a SYNC (R411, R413). -/
def adopt (src epoch : Nat) (change : Bool) (s : State) : State :=
  let s := setTime { s.time with adopted := true, path := none, pend := [] } s
  let s := wr tbEpoch (w32 epoch) (wr tbMaster (w32 src) s)
  if change then tbEvent 5 s else s

/-- A used copy: paired with the other ring's copy of its SYNCNO, or kept until that comes (R413). -/
def useCopy (r : Nat) (f : Frame) (stamp : DWord) (rate : Word) (s : State) : State :=
  let fresh := syncFresh f
  let c : SyncCopy := { no := syncNo f, since := s.hub.now, ring := r, x := syncX f stamp, hop := f.hop % 256, ctot := syncCtot f, fresh := fresh }
  let s := wb tbStatus 7 fresh (bump (tbReg 0x40) 1 s)
  match s.time.pend.find? (fun o => o.no = c.no) with
  | none => setTime { s.time with pend := s.time.pend ++ [c] } s
  | some o =>
    if o.ring = r then s
    else formOffset [o, c] c.ctot fresh rate (setTime { s.time with pend := s.time.pend.filter (fun x => x.no ≠ c.no) } s)

/-- A SYNC copy with a good CRC, before the duplicate filter (R411). A master is not disciplined (R419). -/
def syncReceive (r : Nat) (f : Frame) (stamp : DWord) (rate : Word) (s : State) : State :=
  if !syncFrame f then s
  else
    let e := syncEpoch f
    let cur := (rd s tbEpoch).toNat
    let use (s : State) : State := if tbState s = 6 then s else useCopy r f stamp rate s
    if !s.time.adopted then use (adopt f.src e false s)
    else if newer e cur then use (adopt f.src e true s)
    else if e = cur && f.src = (rd s tbMaster).toNat then use s
    else raise 179 (w32 (f.src % 256)) (tbEvent 6 (bump (tbReg 0x48) 1 s))

/-- 64 µs have passed since the first copy of SYNC `no` (R413). -/
def syncPairTimeout (no : Nat) (rate : Word) (s : State) : State :=
  match s.time.pend.find? (fun o => o.no = no) with
  | none => s
  | some c => if s.hub.now < c.since + 64000 then s else formOffset [c] c.ctot c.fresh rate (setTime { s.time with pend := s.time.pend.filter (fun x => x.no ≠ no) } s)

/-- No rate update for TB_HOLD_TO ms (R414). -/
def holdoverTimeout (s : State) : State :=
  if (tbState s = 2 || tbState s = 3) && s.time.rateAt + 1000000 * rf s (tbReg 0x1C) 9 0 ≤ s.hub.now then tbEnter 4 s else s

/-! ## Commands (R418, R423) -/

/-- Arm one step of TB0 in JUMP. -/
def restepAllow (maxstep : Nat) (s : State) : Nat × State :=
  if tbState s ≠ 5 then (0x62, s) else (0, wb tbStatus 8 true (setTime { s.time with restep := some maxstep } s))

/-- TB_CONFIG: `what` are the three write bits (R423). -/
def tbConfig (n what : Nat) (rate : Word) (ofs : DWord) (slave : Bool) (s : State) : Nat × State :=
  let wRate := bitOf what 0
  let wOfs := bitOf what 1
  let wSlave := bitOf what 2
  let left := if wSlave then slave else slaved n s
  if n = 0 && (wOfs || wSlave) then (5, s)
  else if wRate && clampRate rate ≠ rate then (5, s)
  else if wRate && n = 0 && (tbRefusal 0 s).isSome then (0x61, tbRefuse 0x61 s)
  else if wRate && n ≠ 0 && left then (0x63, tbRefuse 0x63 s)
  else
    let s := if wSlave then putSlave n slave s else s
    let s := if wOfs then wr (tbBase n 0x18) (loW ofs) (wr (tbBase n 0x1C) (hiW ofs) s) else s
    (0, if wRate then wr (tbBase n 0x0C) rate s else s)

end Sys2Proof.Machine
end

