-- ==== Sys2Proof/Machine/Kilco.lean ====
section
/-! DEFINITION. Kilco mailboxes (chapter 12): doorbells, the tests of a packet, replies, and stepped jobs. -/
namespace Sys2Proof.Machine
open Sys2Proof

def setKc (v : KcSt) (s : State) : State := { s with kc := v }
def box (m : Nat) (s : State) : Mbox := tget (fun _ => {}) s.kc.boxes m
def setBox (m : Nat) (v : Mbox) (s : State) : State := setKc { s.kc with boxes := tset (fun _ => {}) s.kc.boxes m v } s

/-! ## Identities and the page (R430, R432) -/

/-- Who asks, in the layout of KC_HOLDER (R430, R463). A control pair has no identity of its own there: the own node. -/
def holderWord (o : Origin) (s : State) : Word :=
  match o with
  | .ring src _ => w32 (src % 256)
  | .pcie _ _ => 0x40000000#32
  | .spi => 0x80000000#32
  | .pairK => w32 (ownNode s)
  | .pairM => w32 (ownNode s)
  | .bridge _ => w32 (ownNode s)

def kcOpen (m : Nat) (s : State) : Bool := rb s (kcStat m) 31

/-- A write from a requester other than the holder (R432). -/
def kcForeign (m : Nat) (s : State) : State := wb (kcReg m 0x0C) 1 true (bump (kcReg m 0x28) 1 s)

/-- Bytes of the request and reply areas at page offset `o` (R430). -/
def kcBytes (m o n : Nat) (s : State) : List Byte :=
  (List.range n).map (fun i =>
    if o + i < 0xC00 then tget (fun _ => (0 : Byte)) (box m s).req (o + i - 0x400) else nthD 0 (box m s).rpl (o + i - 0xC00))

def putReq : Nat → List Byte → Tbl Byte → Tbl Byte
  | _, [], t => t
  | i, b :: d, t => putReq (i + 1) d (if i < 2048 then tset (fun _ => 0) t i b else t)

/-- A write to the request or reply area (R430, R432); the reply area is RO. -/
def kcAreaWrite (m o : Nat) (who : Origin) (d : List Byte) (s : State) : State :=
  if 0xC00 ≤ o then s
  else if kcOpen m s && rd s (kcReg m 0x10) ≠ holderWord who s then kcForeign m s
  else setBox m { box m s with req := putReq (o - 0x400) d (box m s).req } s

/-! ## Packets (R437) and the opcode index (R457) -/

def pkW (raw : List Byte) (i : Nat) : Word := wordAt raw (4 * i)
def pkMaj (raw : List Byte) : Nat := fld (pkW raw 0) 31 24
def pkMin (raw : List Byte) : Nat := fld (pkW raw 0) 23 16
def pkOp (raw : List Byte) : Nat := fld (pkW raw 0) 15 0
def pkTag (raw : List Byte) : Nat := fld (pkW raw 1) 31 16
def pkLen (raw : List Byte) : Nat := fld (pkW raw 1) 15 0
/-- Parameter word `i`; a word that is not there reads 0. -/
def par (raw : List Byte) (i : Nat) : Word := pkW raw (4 + i)

/-- One row of the index: opcode, Since, ROM, parameter words (least where they are not fixed), fixed. -/
structure OpRow where
  op    : Nat
  maj   : Nat
  min   : Nat
  rom   : Bool
  words : Nat
  fixed : Bool := true
  deriving DecidableEq, Repr

def opIndex : List OpRow := [
  ⟨0x0001, 1, 0, true, 2, true⟩, ⟨0x0002, 1, 0, true, 0, true⟩, ⟨0x0003, 1, 0, true, 0, true⟩, ⟨0x0004, 1, 0, true, 0, true⟩,
  ⟨0x0005, 1, 0, true, 1, true⟩, ⟨0x0006, 1, 0, true, 1, true⟩, ⟨0x0101, 1, 0, true, 3, true⟩, ⟨0x0102, 1, 0, true, 3, false⟩,
  ⟨0x0103, 2, 0, false, 3, true⟩, ⟨0x0104, 2, 0, false, 0, true⟩, ⟨0x0105, 2, 0, false, 1, true⟩, ⟨0x0106, 3, 1, false, 3, true⟩,
  ⟨0x0201, 1, 0, true, 65, true⟩, ⟨0x0202, 1, 0, true, 3, false⟩, ⟨0x0203, 1, 0, true, 1, true⟩, ⟨0x0204, 1, 0, true, 1, true⟩,
  ⟨0x0205, 1, 0, true, 1, true⟩, ⟨0x0206, 1, 0, true, 0, true⟩] ++ [
  ⟨0x0301, 2, 0, false, 0, true⟩, ⟨0x0302, 2, 0, false, 2, true⟩, ⟨0x0303, 2, 0, false, 0, true⟩, ⟨0x0304, 2, 0, false, 0, true⟩,
  ⟨0x0305, 2, 0, false, 6, true⟩, ⟨0x0306, 2, 0, false, 1, true⟩, ⟨0x0307, 2, 0, false, 0, true⟩, ⟨0x0308, 2, 0, false, 2, true⟩,
  ⟨0x0309, 3, 2, false, 4, true⟩, ⟨0x0401, 2, 0, false, 1, true⟩, ⟨0x0402, 2, 0, false, 3, true⟩, ⟨0x0403, 2, 0, false, 2, true⟩,
  ⟨0x0404, 2, 0, false, 6, true⟩, ⟨0x0405, 2, 0, false, 5, true⟩] ++ [
  ⟨0x0501, 3, 0, false, 2, true⟩, ⟨0x0502, 3, 0, false, 1, true⟩, ⟨0x0503, 3, 0, false, 2, true⟩, ⟨0x0504, 3, 0, false, 2, true⟩,
  ⟨0x0505, 3, 0, false, 1, true⟩, ⟨0x0506, 3, 0, false, 1, true⟩, ⟨0x0601, 2, 0, false, 0, true⟩, ⟨0x0602, 2, 0, false, 1, true⟩,
  ⟨0x0603, 2, 0, false, 2, true⟩, ⟨0x0604, 2, 0, false, 1, true⟩, ⟨0x0701, 2, 0, false, 1, true⟩, ⟨0x0702, 2, 0, false, 1, true⟩,
  ⟨0x0703, 2, 0, false, 2, false⟩, ⟨0x0704, 2, 0, false, 9, false⟩, ⟨0x0801, 2, 0, false, 2, false⟩, ⟨0x0802, 3, 0, false, 1, true⟩]

/-- ROM serves the mailboxes: recovery mode (R598). -/
def inRom (s : State) : Bool := rf s hubStatus 11 8 == 1

/-- Pair K serves the mailboxes (R440, R589, R598). -/
def kServes (s : State) : Bool := inRom s || (rf s hubStatus 11 8 == 2 && rb s hubStatus 0)

/-- Highest minor served for a major, none where it is not served (R443). -/
def servedMinor (rom : Bool) (m : Nat) : Option Nat :=
  if m = 1 then some 3 else if rom then none else if m = 2 then some 7 else if m = 3 then some 4 else none
def highMajor (s : State) : Nat := if inRom s then 1 else 3

/-- The opcode is defined at version `maj`.`min`, and served (R441, R444, R457). -/
def opDefined (rom : Bool) (op maj min : Nat) : Option OpRow :=
  (opIndex.find? (fun r => r.op = op)).filter
    (fun r => (r.maj < maj || (r.maj = maj && r.min ≤ min)) && (r.rom || !(rom || maj == 1)))

/-! ## Replies (R435, R438, R440) -/

/-- A notice of group 0 to session `m` (R460). -/
def sessionNotice (m ev : Nat) (info : Word) (s : State) : State := { s with post := s.post ++ [.session m ev info (tb0 s)] }

/-- RDY set, PEND cleared, REPLY, the MSI-X vector and the notice (R435). -/
def kcSignal (m st : Nat) (raw : List Byte) (s : State) : State :=
  let s := wb (kcStat m) 29 true (wb (kcStat m) 30 false (wb (kcReg m 0x0C) 0 true s))
  let s := sendVec (16 + m) s
  if bit (pkW raw 2) 1 then sessionNotice m 0x02 (w32 (pkTag raw * 65536 + st)) s else s

/-- Write a reply and signal it; the packet is answered. `hw` is the mailbox hardware. -/
def kcWrite (m : Nat) (hw : Bool) (st : Nat) (reply raw : List Byte) (s : State) : State :=
  let s := setBox m { box m s with rpl := reply, pkt := none } s
  let s := bump (kcReg m (if hw then 0x2C else 0x20)) 1 (wb (kcStat m) 28 hw s)
  kcSignal m st raw s

/-- The bytes of a reply (R438). -/
def replyBytes (maj min st tag m reason : Nat) (job : Word) (result : List Word) : List Byte :=
  ([w32 (maj * 16777216 + min * 65536 + st), w32 (tag * 65536 + 4 * result.length), w32 (m * 16777216 + reason), job] ++ result).flatMap
    wordBytes

/-- The version a reply carries: the session's, or the packet's for a HELLO or on a closed mailbox (R438). -/
def replyVer (m : Nat) (raw : List Byte) (s : State) : Nat × Nat :=
  if kcOpen m s && pkOp raw ≠ 1 then (rf s (kcStat m) 23 20, rf s (kcStat m) 19 16) else (pkMaj raw, pkMin raw)

/-- STATUS took effect: OK, IN_PROGRESS, or a refusal that reports a partial effect (R439, R459). -/
def tookEffect (st reason : Nat) : Bool := st == 0 || st == 1 || (st == 2 && reason == 9)

/-- Answer the pending packet of mailbox `m` (R435, R438); what was executed is kept (R436). -/
def kcReply (m st reason : Nat) (job : Word) (result : List Word) (s : State) : State :=
  match (box m s).pkt with
  | none => s
  | some raw =>
    let v := replyVer m raw s
    let s := if kcOpen m s && tookEffect st reason then setBox m { box m s with copy := some raw } s else s
    kcWrite m false st (replyBytes v.1 v.2 st (pkTag raw) m reason job result) raw s

def kcOk (m : Nat) (result : List Word) (s : State) : State := kcReply m 0 0 0 result s
def kcRefuse (m reason : Nat) (result : List Word) (s : State) : State := kcReply m 2 reason 0 result s
def kcBusy (m : Nat) (s : State) : State := kcReply m 5 0 0 [] s
/-- Refused with the code, or OK with the result where the code is 0. -/
def kcCode (m code : Nat) (result : List Word) (s : State) : State := if code = 0 then kcOk m result s else kcRefuse m code [] s

/-- The mailbox hardware's own answer (R440). -/
def kcHwBusy (m : Nat) (raw : List Byte) (s : State) : State :=
  kcWrite m true 5 (replyBytes (pkMaj raw) (pkMin raw) 5 (pkTag raw) m 0 0 []) raw s

/-! ## Doorbells (R434, R436) -/

/-- The stored reply is signalled again (R436). -/
def kcRepeat (m : Nat) (raw : List Byte) (s : State) : State :=
  let s := bump (kcReg m 0x20) 1 (setBox m { box m s with pkt := none } s)
  kcSignal m (fld (wordAt (box m s).rpl 0) 15 0) raw (wb (kcStat m) 28 false s)

/-- The idle time of an open session starts again (R433). -/
def kcArm (m : Nat) (s : State) : State :=
  setBox m { box m s with due := s.hub.now + rf s (kcReg m 0x14) 11 0 * 1000000000 } s

/-- A write of KC_DOORBELL (R431, R432, R434, R436, R440). -/
def kcDoorbell (m : Nat) (o : Origin) (v : Word) (s : State) : State :=
  let who := holderWord o s
  if kcOpen m s && rd s (kcReg m 0x10) ≠ who then kcForeign m s
  else if !bit v 0 then s
  else if rb s (kcStat m) 30 then wb (kcReg m 0x0C) 2 true (bump (kcReg m 0x24) 1 s)
  else
    let len := fld (wordAt (kcBytes m 0x404 4 s) 0) 15 0
    let raw := kcBytes m 0x400 (16 + min len 2032) s
    let s := setBox m { box m s with pkt := some raw, ringer := who } s
    let s := wf (kcStat m) 15 0 (pkTag raw) (wb (kcStat m) 29 false (wb (kcStat m) 30 true s))
    let s := if kcOpen m s then kcArm m s else s
    if !kServes s then kcHwBusy m raw s
    else if kcOpen m s && pkOp raw ≠ 1 && (box m s).copy = some raw then kcRepeat m raw s
    else s

/-! ## The tests of R441 -/

/-- Result of a BAD_VERSION of R442: the highest and the lowest major served. -/
def verResult (s : State) : Word := w32 (highMajor s * 16777216 + 256)

/-- Reserved header bits, SESSION and LEN (R441 test 3). -/
def headerOk (m : Nat) (raw : List Byte) : Bool :=
  fld (pkW raw 2) 31 24 == m && pkLen raw % 4 == 0 && pkLen raw ≤ 2032 && fld (pkW raw 2) 23 2 == 0 && pkW raw 3 == 0#32

def lenOk (r : OpRow) (raw : List Byte) : Bool :=
  if r.fixed then pkLen raw == 4 * r.words else 4 * r.words ≤ pkLen raw

/-- The first test a packet fails (R431, R441, R442, R444): status, reason and result; none = all pass. -/
def kcGate (m : Nat) (raw : List Byte) (s : State) : Option (Nat × Nat × List Word) :=
  let rest (r : OpRow) : Option (Nat × Nat × List Word) :=
    if headerOk m raw && lenOk r raw then none else some (2, 8, [])
  if pkOp raw = 1 then
    if pkMaj raw < 1 || 3 < pkMaj raw then some (4, 0, [verResult s]) else rest ⟨1, 1, 0, true, 2, true⟩
  else if !kcOpen m s then
    if pkMaj raw < 1 || 3 < pkMaj raw then some (4, 0, [verResult s]) else some (2, 0x0C, [])
  else if pkMaj raw ≠ rf s (kcStat m) 23 20 || rf s (kcStat m) 19 16 < pkMin raw then some (4, 0, [])
  else match opDefined (inRom s) (pkOp raw) (pkMaj raw) (pkMin raw) with
    | none => some (3, 0, [])
    | some r => rest r

/-- The session waits for an arbiter's answer (R447, R487). -/
def kcWaits (m : Nat) (s : State) : Bool := s.roles.waits.any (fun w => w.sess == m)

/-- A job has a step that pair K can run: the PRBS test of a lane runs in the lane (R74, R447). -/
def jobRuns (j : Job) : Bool :=
  j.state == 1 && match j.kind with
    | .lanePrbs _ => false
    | .cfgSave | .cfgRestore _ | .fwVerify _ _ | .fwActivate _ | .roleSwap _ | .migrate => true

/-- Session `m` has work for its turn: a packet that does not wait for an arbiter, or a job that can run (R447). -/
def kcWork (m : Nat) (s : State) : Bool := ((box m s).pkt.isSome && !kcWaits m s) || (box m s).jobs.any jobRuns

/-- Pair K comes to session `m`: no session in turn before it has work, going round from the one served last (R447). -/
def kcTurn (m : Nat) (s : State) : Bool :=
  ((List.range 16).map (fun i => (s.kc.turn + 1 + i) % 16)).find? (fun i => kcWork i s) == some m

/-- The job of session `m` whose turn it is: round-robin by slot (R447). -/
def jobTurn (m : Nat) (s : State) : Option Nat :=
  ((List.range 4).map (fun i => ((box m s).last + 1 + i) % 4)).find? (fun i => (box m s).jobs.any (fun j => j.slot == i && jobRuns j))

/-- Session `m` has had its turn. -/
def kcTaken (m : Nat) (s : State) : State := setKc { s.kc with turn := m } s

/-- Pair K executes the pending packet of mailbox `m`, if its opcode is `op`: the tests, then `f` (R441, R447). -/
def kcServe (m op : Nat) (f : List Byte → State → State) (s : State) : State :=
  match (box m s).pkt with
  | none => s
  | some raw =>
    if !kServes s || pkOp raw ≠ op || kcWaits m s || !kcTurn m s then s
    else match kcGate m raw s with
      | some (st, reason, result) => kcReply m st reason 0 result (kcTaken m s)
      | none => f raw (kcTaken m s)

/-- BAD_OPCODE: a pending packet that fails the tests of R441 is answered. -/
def kcBadOpcode (m : Nat) (s : State) : State :=
  match (box m s).pkt with
  | none => s
  | some raw =>
    if !kServes s || kcWaits m s || !kcTurn m s then s
    else match kcGate m raw s with
      | some (st, reason, result) => kcReply m st reason 0 result (kcTaken m s)
      | none => s

/-! ## Jobs (R446–R450) -/

def setJobs (m : Nat) (l : List Job) (s : State) : State := wf (kcStat m) 26 24 l.length (setBox m { box m s with jobs := l } s)

def jobsInAll (s : State) : Nat := sumN (s.kc.boxes.map (fun e => e.2.jobs.length))

/-- NV writes are inhibited (R450, R570). -/
def nvInhibited (s : State) : Bool := rb s pwrStatus 31

/-- The next step of such a job writes MRAM (R450, R596, R594, R597). -/
def jobWritesNv : JobKind → Bool
  | .cfgSave => true | .fwActivate _ => true | .migrate => true
  | .cfgRestore _ => false | .fwVerify _ _ => false | .lanePrbs _ => false | .roleSwap _ => false

/-- Start a job for the pending packet and answer IN_PROGRESS with its handle, or BUSY (R445, R446). -/
def startJob (m : Nat) (k : JobKind) (raw : List Byte) (s : State) : State :=
  let l := (box m s).jobs
  match (List.range 4).find? (fun i => !l.any (fun j => j.slot = i)) with
  | none => kcBusy m s
  | some i =>
    if 32 ≤ jobsInAll s then kcBusy m s
    else
      let h := w32 (m * 268435456 + i * 67108864 + s.kc.count)
      let st := if nvInhibited s && jobWritesNv k then 2 else 1
      let j : Job := { slot := i, handle := h, kind := k, note := bit (pkW raw 2) 0, state := st, since := s.hub.now }
      let s := setJobs m (l ++ [j]) (setKc { s.kc with count := (s.kc.count + 1) % 67108864 } s)
      if rf s (kcStat m) 23 20 = 3 then kcReply m 1 0 h [] s else kcReply m 1 0 0 [h] s

/-- Mailbox number under which the jobs without a session are named. -/
abbrev looseBox := 16

def jobsOf (m : Nat) (s : State) : List Job := if m = looseBox then s.kc.loose else (box m s).jobs
def jobAt (m i : Nat) (s : State) : Option Job := (jobsOf m s).find? (fun j => j.slot = i)

/-- Put job `j` in the place of the one in its slot. -/
def putJob (m : Nat) (j : Job) (s : State) : State :=
  let l := (jobsOf m s).map (fun x => if x.slot = j.slot then j else x)
  if m = looseBox then setKc { s.kc with loose := l } s else setJobs m l s

def dropJob (m i : Nat) (s : State) : State :=
  let l := (jobsOf m s).filter (fun x => x.slot ≠ i)
  if m = looseBox then setKc { s.kc with loose := l } s else setJobs m l s

/-- The job of slot `i` ends with an outcome (R448); a job without a session is forgotten (R458). -/
def endJob (m i state st reason : Nat) (result : List Word) (s : State) : State :=
  match jobAt m i s with
  | none => s
  | some j =>
    if m = looseBox then dropJob m i s
    else
      let s := putJob m { j with state := state, status := st, reason := reason, result := result, since := s.hub.now } s
      if j.note then sessionNotice m 0x03 j.handle s else s

/-- A job that runs or waits. -/
def jobLive (j : Job) : Bool := j.state == 1 || j.state == 2

/-- JOB_STATUS (R448, R458): an ended job is released once its outcome has been reported. -/
def jobStatus (m : Nat) (raw : List Byte) (s : State) : State :=
  match (box m s).jobs.find? (fun j => j.handle = par raw 0) with
  | none => kcRefuse m 7 [] s
  | some j =>
    let head := [w32 j.state, w32 j.steps, 0]
    if jobLive j then kcOk m head s
    else dropJob m j.slot (kcOk m (head ++ [w32 (j.status * 65536 + j.reason)] ++ j.result) s)

/-- 60 s have passed since the job ended (R448). -/
def jobExpire (m i : Nat) (s : State) : State :=
  match jobAt m i s with
  | some j => if jobLive j || s.hub.now < j.since + 60000000000 then s else dropJob m i s
  | none => s

/-- 10 ms of good supply (R450). -/
def jobResume (m i : Nat) (s : State) : State :=
  match jobAt m i s with
  | some j => if j.state = 2 && !nvInhibited s then putJob m { j with state := 1 } s else s
  | none => s

/-! ## GET_IDENTITY, GET_CAPS (R458) -/

/-- Highest version served, as HELLO word 1 (R458). -/
def highVer (s : State) : Word :=
  w32 (highMajor s * 16777216 + (servedMinor (inRom s) (highMajor s)).getD 0 * 65536 + 256)

/-- Bit map of the opcodes of group `g` that the packet's version has. -/
def groupBits (rom : Bool) (maj min g : Nat) : Nat :=
  sumN ((opIndex.filter (fun r => r.op / 256 = g && (opDefined rom r.op maj min).isSome)).map (fun r => 2 ^ (r.op % 256)))

def capsWords (rom : Bool) (maj min : Nat) : List Word :=
  let gs := (List.range 9).map (fun g => groupBits rom maj min g)
  w32 (sumN ((List.range 9).map (fun g => if nthD 0 gs g = 0 then 0 else 2 ^ g))) :: (gs.map w32 ++ [w32 (4 * 256 + 32), w32 (2032 * 65536 + 1008)])

end Sys2Proof.Machine
end

