-- ==== Sys2Proof/Machine/Tx.lean ====
section
/-! DEFINITION. Fabric requests of this hub (chapter 4): tags and completion cells, the frames of a request, retries,
timeouts, completions and ACKs, and MSG items on offer. -/
namespace Sys2Proof.Machine
open Sys2Proof

def setTx (v : TxSt) (s : State) : State := { s with tx := v }
def tagSt (t : Nat) (s : State) : Tag := tget (fun _ => {}) s.tx.tags t
def setTag (t : Nat) (v : Tag) (s : State) : State := setTx { s.tx with tags := tset (fun _ => {}) s.tx.tags t v } s

/-! ## Tags and completion cells (R130, R131, R169) -/

/-- Who a tag is counted for: 0 a control pair, 1 PCIe, 2 SPI, 3 the queue manager and the bridge (R377), 4 another. -/
def orgKey : Origin → Nat
  | .pairK => 0 | .pairM => 0 | .pcie _ _ => 1 | .spi => 2 | .ring _ _ => 4 | .bridge _ => 3

def tagKey (t : Tag) : Nat := if t.kind = 2 then 3 else orgKey t.org

/-- The cap of a requester in the shared pool of 960 (R130). -/
def tagCap (key : Nat) : Nat := if key = 1 || key = 3 then 512 else if key = 2 then 16 else 960

/-- Shared tags (0–959) a requester holds, those in quarantine included. -/
def tagsHeld (key : Nat) (s : State) : Nat :=
  (s.tx.tags.filter (fun e => e.1 < 960 && e.2.use ≠ .free && tagKey e.2 == key)).length

def firstFree (lo n : Nat) (s : State) : Option Nat := (List.range' lo n).find? (fun t => (tagSt t s).use == .free)

/-- A tag for requester `key`: pairs take a reserved tag (960–1023) while one is free (R130). -/
def pickTag (key : Nat) (s : State) : Option Nat :=
  let shared := if tagsHeld key s < tagCap key then firstFree 0 960 s else none
  if key = 0 then (firstFree 960 64 s).or shared else shared

/-- Completion cells are free for `n` more; the last 256 are for the pairs (R169). -/
def cplFree (key n : Nat) (s : State) : Bool :=
  s.ink.cplUsed + n + (if key = 0 then 0 else 256) ≤ cplRsvIn s.ink.active

/-- Cells of an access (R131). -/
def reqCells (a : Access) : Nat := if a.kind = .rd then ceilDiv a.count 64 else 1

/-- Take a tag and its cells (R130, R131); none = the request waits (R132). -/
def takeTag (key n : Nat) (v : Tag) (s : State) : Option (Nat × State) :=
  match pickTag key s with
  | none => none
  | some t =>
    if cplFree key n s then
      let s := setTag t { v with use := .out, cells := n } s
      some (t, { s with ink := { s.ink with cplUsed := s.ink.cplUsed + n } })
    else none

/-- The tag is free again, with its cells. -/
def freeTag (t : Nat) (s : State) : State :=
  let n := (tagSt t s).cells
  setTag t {} { s with ink := { s.ink with cplUsed := s.ink.cplUsed - n } }

/-- The tag goes into quarantine (R136, R101). -/
def quarTag (t : Nat) (s : State) : State := setTag t { tagSt t s with use := .quarantine, waiting := false } s

/-! ## Frames of requests and items (R100, R125, R126) -/

def requestWord (n : Nat) : List Byte := leBytes 8 n

/-- The frame of an access to `node` under `tag` (R125, R126). -/
def reqFrame (node tag : Nat) (a : Access) : Frame :=
  match a.kind with
  | .rd => mkFrame node 2 2 tag a.addr (requestWord a.count)
  | .wrN => mkFrame node 1 2 tag a.addr (requestWord a.count ++ dataArea a.addr (a.data.take a.count))
  | .wrP =>
    let size := if a.count = 1 then 1 else if a.count = 2 then 2 else if a.count = 4 then 3 else 0
    mkFrame node 0 2 (size * 256) a.addr (dataArea a.addr (a.data.take a.count))

/-- The frames of an item: 256 bytes each, the first with the user word, the last with LAST (R87, R100). -/
def itemFrames (node tag dq user : Nat) (single : Bool) (len : Nat) : Nat → Nat → List Byte → List Frame
  | 0, _, _ => []
  | n + 1, off, d =>
    let head := if off = 0 then user * 2 ^ 24 else off * 2 ^ 23
    let f := mkFrame node 5 3 tag (dq % 1024 + (len - 1) * 1024 + head) (d.take 256)
    { f with last := d.length ≤ 256, single := single, uw := off == 0 } ::
      (if d.length ≤ 256 then [] else itemFrames node tag dq user single len n (off + 32) (d.drop 256))

def originateAll : List Frame → State → State
  | [], s => s
  | f :: t, s => originateAll t (originate f s).2

/-- Send the request of tag `t`: how many copies went out (R97, R138). -/
def sendReq (t : Nat) (s : State) : State :=
  let v := tagSt t s
  let (n, s) := originate (reqFrame v.dest t v.acc) s
  setTag t { v with copies := n, back := 0, waiting := false } s

/-- Send the item of tag `t` (R100). -/
def sendItem (t : Nat) (s : State) : State :=
  let v := tagSt t s
  match (queue v.queue s).items with
  | [] => s
  | i :: _ =>
    let s := setTag t { v with waiting := false } s
    originateAll (itemFrames v.dest t v.dq i.user.toNat v.single i.bytes.length 16 0 i.bytes) s

/-! ## Requests (R131, R132, R133) -/

/-- An earlier request of requester `key` to `node` waits to be retried: a later one is not sent ahead of it (R133, R142;
DEDUCED, log entry 22). -/
def retryAhead (key node : Nat) (s : State) : Bool :=
  s.tx.tags.any (fun e => e.2.use == .out && e.2.kind != 2 && e.2.waiting && e.2.dest == node && orgKey e.2.org == key)

/-- Issue a request to another node if a tag and cells allow; a WR_P needs none (R127). -/
def tryIssue (o : Origin) (node : Nat) (a : Access) (s : State) : Option State :=
  if retryAhead (orgKey o) node s then none else
  match a.kind with
  | .wrP => some (originate (reqFrame node 0 a) s).2
  | _ =>
    match takeTag (orgKey o) (reqCells a) { kind := if a.kind = .rd then 0 else 1, dest := node, org := o, acc := a } s with
    | none => none
    | some (t, s) => some (sendReq t s)

/-- A request to another node: it waits behind the requester's waiting requests, or for a tag or cells (R132). -/
def issueRemote (o : Origin) (node : Nat) (a : Access) (s : State) : State :=
  let wait := setTx { s.tx with wait := s.tx.wait ++ [⟨o, node, a⟩] } s
  if s.tx.wait.any (fun w => orgKey w.org == orgKey o) then wait else (tryIssue o node a s).getD wait

def eraseFirst (key : Nat) : List WaitReq → List WaitReq
  | [] => []
  | w :: t => if orgKey w.org = key then t else w :: eraseFirst key t

/-- REQUEST_TAG_GRANT: the oldest waiting request of requester `key` is issued once tag and cells are free. -/
def tagGrant (key : Nat) (s : State) : State :=
  match s.tx.wait.find? (fun w => orgKey w.org == key) with
  | none => s
  | some w => (tryIssue w.org w.node w.acc (setTx { s.tx with wait := eraseFirst key s.tx.wait } s)).getD s

/-! ## Completions (R127, R142, R145, R146) -/

/-- A read of `a` on the own map reaches a commit-on-delivery register (R145): a pop, an RC register, a quill's QL_RXD or
the CAN high-priority window. -/
def codWord (k : Nat) : Bool :=
  (match regRow k with | some r => r.acc == .rc | none => false) ||
  (0x200000 ≤ k && k < 0x240000 && k % 0x1000 == 0x44) ||
  (0x80000 ≤ k && k < 0x90000 && 0x140 ≤ k % 0x1000 && k % 0x1000 < 0x190)
def codRead (a : Access) : Bool :=
  a.kind == .rd &&
  (if 0x24000 ≤ a.addr && a.addr < 0x28000 then 16 ≤ a.count
   else (List.range (ceilDiv a.count 4)).any (fun i => codWord (a.addr + 4 * i)))

/-- The request of tag `t` ends with a status (R127): the tag is free, the requester is answered. An OK read of a
commit-on-delivery register is acknowledged; for PCIe when its value is delivered, for an inbound backplane access while its
cycle is held (R146, R154, R379). A read that the SPI master has abandoned is answered to nobody and not acknowledged, so that its
value returns at its target (DEDUCED from R148, R157; log entry 23). -/
def endRequest (t : Nat) (st : Status) (d : List Byte) (s : State) : State :=
  let v := tagSt t s
  let s := freeTag t s
  if v.gone then errLog true v.dest v.acc st s else
  let gone := match v.org, s.pbp.held with
    | .bridge _, some h => !h.issued
    | .bridge _, none => true
    | _, _ => false
  let ack := st == .ok && codRead v.acc && !gone
  match v.org with
  | .pcie id idx => pcieResult id idx st d (if ack then some t else none) s
  | _ =>
    let s := complete v.org v.dest v.acc st d s
    if ack then sendAck v.dest t s else s

/-- The status a completion carries, none where it is no completion that R127 and R139 know. -/
def cplStatus (read : Bool) (f : Frame) : Option Status :=
  if f.typ = 4 then (if read then some .ok else none)
  else match Status.ofCode (f.addr % 16) with
    | some .ok => if read then none else some .ok
    | x => x

/-- Copies of frames of the MSG item of tag `t` that still wait. -/
def waitingCopies (t : Nat) (s : State) : List Nat :=
  (((link 0 s).loc ++ (link 1 s).loc).filter (fun o => o.f.typ == 5 && o.f.tag == t)).map (fun o => o.id)

/-- The item of tag `t` at the head of queue `q` has ended: it leaves its queue, and its cells are held, in no queue, while copies
of its frames still wait (R97, R163). -/
def itemLinger (t q : Nat) (s : State) : State :=
  let ids := waitingCopies t s
  let n := (((queue q s).items.head?).map itemCells).getD 0
  let s := freeHead q s
  if ids.isEmpty then s else setTx { s.tx with linger := s.tx.linger ++ [(ids, n)] } s

/-- Cells are held no longer once every copy they were held for has been sent or removed (R97). -/
def lingerEnd (s : State) : State :=
  let here := ((link 0 s).loc ++ (link 1 s).loc).map (fun o => o.id)
  setTx { s.tx with linger := s.tx.linger.filter (fun e => e.1.any (fun i => here.contains i)) } s

/-- A completion of a MSG item (R101). -/
def msgCompletion (t : Nat) (f : Frame) (s : State) : State :=
  let v := tagSt t s
  let st := if f.typ = 4 then none else Status.ofCode (f.addr % 16)
  if st = some .ok then
    let s := if v.resent then quarTag t s else freeTag t s
    itemLinger t v.queue s
  else
    let s := if st = some .busy then bump hubCntBusyIn 1 (bump (ringReg 0x094) 1 s) else bump (ringReg 0x098) 1 s
    setTag t { v with waiting := true } s

/-- COMPLETION: a CPL or CPLD accepted for its outstanding tag, or discarded as late (R127, R136, R142). A UR or UA outcome is
counted at this hub as the requester (R158). -/
def completion (f : Frame) (s : State) : State :=
  if !addressed f s || !(f.typ == 3 || f.typ == 4) then s
  else
    let t := f.tag % 1024
    let v := tagSt t s
    if v.use ≠ .out || v.dest ≠ f.src then bump hubCntLateCpl 1 s
    else if v.kind = 2 then msgCompletion t f s
    else match cplStatus (v.kind == 0) f with
      | none => bump hubCntLateCpl 1 s
      | some st =>
        let s := if st = .busy then bump hubCntBusyIn 1 s else if st = .ur || st = .ua then countStatus true st s else s
        let retry := st == .busy && !v.gone && (orgKey v.org == 1 || orgKey v.org == 2) && v.tries < rf s hubTxCfg 3 0
        if retry then setTag t { v with waiting := true } s
        else endRequest t st ((f.payload.drop (v.acc.addr % 8)).take v.acc.count) s

/-- 10 µs after a BUSY completion the request is sent again with its tag (R142). -/
def busyRetry (t : Nat) (s : State) : State :=
  let v := tagSt t s
  if v.use = .out && v.kind ≠ 2 && v.waiting then sendReq t (setTag t { v with tries := v.tries + 1 } s) else s

/-- HUB_TX_CTO has passed for tag `t` (R136, R101); a request waiting to retry ends BUSY (R142). -/
def completionTimeout (t : Nat) (s : State) : State :=
  let v := tagSt t s
  if v.use ≠ .out then s
  else if v.kind = 2 then
    if v.waiting then s else setTag t { v with waiting := true, resent := true } (bump (ringReg 0x098) 1 s)
  else if v.waiting then endRequest t .busy [] s
  else
    let s := quarTag t (bump hubCntCto 1 s)
    if v.gone then errLog true v.dest v.acc .ft s else
    match v.org with
    | .pcie id idx => pcieResult id idx .ft [] none s
    | _ => complete v.org v.dest v.acc .ft [] s

/-- The 16 ms of a tag's quarantine end (R136). -/
def tagQuarEnd (t : Nat) (s : State) : State := if (tagSt t s).use = .quarantine then freeTag t s else s

/-- A copy of an own RD or WR_N has come back and been stripped (R138). -/
def copyReturned (f : Frame) (s : State) : State :=
  let t := f.tag % 1024
  let v := tagSt t s
  if v.use ≠ .out || v.kind = 2 || v.waiting || v.dest ≠ f.dst || f.typ ≠ (if v.kind = 0 then 2 else 1) then s
  else setTag t { v with back := v.back + 1 } s

/-- Every copy sent of the request of tag `t` has come back: its destination is absent (R138). -/
def isAbsent (v : Tag) : Bool := v.use == .out && v.kind != 2 && !v.waiting && 0 < v.back && v.copies ≤ v.back

/-- Requests whose destination is absent end UR (R138). -/
def absentAll : List (Nat × Tag) → State → State
  | [], s => s
  | e :: t, s => absentAll t (if isAbsent e.2 then endRequest e.1 .ur [] (countStatus true .ur (bump hubCntNohost 1 s)) else s)

/-- ACK_FRAME: the pending value of its SRC and TAG commits, or the ACK is late (R145, R146). -/
def ackFrame (f : Frame) (s : State) : State :=
  if !addressed f s || f.typ ≠ 10 then s
  else match pendOf (.ring f.src (f.tag % 1024)) s with
    | some _ => if f.addr % 2 = 1 then commitOrg (.ring f.src (f.tag % 1024)) s else bump hubCntAckLate 1 s
    | none => bump hubCntAckLate 1 s

/-- The commit window of a read from the ring has ended without an ACK (R145). -/
def commitExpire (src tag : Nat) (s : State) : State := returnOrg (.ring src tag) s

/-! ## MSG items on offer (R101, R134, R177) -/

/-- Offer the closed head item of `q` to its remote subscriber: one item at a time, a tag and a cell (R130–R134). An item
with an uncorrectable error is not sent; the read that met it raised FS65 once (R177). -/
def msgOffer (q : Nat) (s : State) : State :=
  match remoteSub q s with
  | none => s
  | some (node, dq) =>
    let k := queue q s
    if sending q s then s
    else match k.pend, k.items with
      | none, i :: _ =>
        if itemBad i then meetBad q s
        else match takeTag 3 1 { kind := 2, dest := node, queue := q, dq := dq, single := bit (qCfg q s) 0 } s with
          | none => s
          | some (t, s) => sendItem t s
      | _, _ => s

/-- Offer the item of tag `t` again, with new SEQ values and the same tag (R101); an item whose data has gone bad since its last offer
stays at the head, and no frame leaves with it (R177). -/
def msgReoffer (t : Nat) (s : State) : State :=
  let v := tagSt t s
  if v.use = .out && v.kind = 2 && v.waiting then
    (if (queue v.queue s).items.head?.any itemBad then meetBad v.queue s else sendItem t s)
  else s

/-- HUB_TX_TAGS (R158): tags outstanding, those in quarantine among them (R130), and tags in quarantine. -/
def tagsWord (s : State) : Word :=
  let q := (s.tx.tags.filter (fun e => e.2.use == .quarantine)).length
  let o := (s.tx.tags.filter (fun e => e.2.use ≠ .free)).length
  w32 (o % 2048 + q % 2048 * 65536)

end Sys2Proof.Machine
end

