-- ==== Sys2Proof/Machine/Cph.lean ====
section
/-! DEFINITION. The keyed check engine (chapter 15): key slots, pages, counters, jobs; and the trailer of authenticated frames
(R483, R484). -/
namespace Sys2Proof.Machine
open Sys2Proof

def setCph (v : CphSt) (s : State) : State := { s with cph := v }
def keySlot (k : Nat) (s : State) : KeySlot := tget (fun _ => {}) s.cph.slots k
def setKeySlot (k : Nat) (v : KeySlot) (s : State) : State := setCph { s.cph with slots := tset (fun _ => {}) s.cph.slots k v } s
def page (p : Nat) (s : State) : CphPage := tget (fun _ => {}) s.cph.pages p
def setPage (p : Nat) (v : CphPage) (s : State) : State := setCph { s.cph with pages := tset (fun _ => {}) s.cph.pages p v } s

/-- Page `p` owns slot `k` (R526, R548). -/
def owns (p k : Nat) (s : State) : Bool := rb s (cphOwn k) 31 && rf s (cphOwn k) 3 0 == p

def cphInfo (p k : Nat) : Word := w32 (p % 16 + k % 32 * 16)

/-- Set CPH_EVT bit `i` of page `p`, with its notice (R546). -/
def cphEvt (p i : Nat) (info : Word) (s : State) : State := unitEvent (cphReg p 0x008) (cphReg p 0x00C) i 20 p info s

/-- A write to MRAM: how many words of MRAM it takes is not stated, so the count grows by a free value (R600). -/
def nvWrote (s : State) : State :=
  let (w, s) := fresh s
  { s with boot := { s.boot with words := (s.boot.words + w.toNat) % 2 ^ 64 } }

/-- A write to MRAM fails its read-back check (FS6, R585): the address is not known to the model. -/
def nvFail (s : State) : State :=
  let (w, s) := fresh s
  let a := w &&& 0x3FFFFF#32
  raise 6 a (wr (bootReg 0x110) a (bump (bootReg 0x10C) 1 s))

/-! ## Loads and erases (R527–R529, R546) -/

/-- What CPH_SLOTs_STAT shows page `p` (R532, R548). -/
def slotStat (p k : Nat) (s : State) : Word :=
  let v := keySlot k s
  if owns p k s then
    w32 (b2n v.key.isSome * 0x80000000 + b2n v.pers * 0x40000000
      + b2n ((v.key.getD []).length == 32) * 0x20000000 + b2n (v.halt || 0xFFFFFFFFFFFF0000 ≤ v.ctr) * 0x10000000 + v.gen % 65536)
  else 0
def slotCtr (p k : Nat) (s : State) : DWord := if owns p k s then BitVec.ofNat 64 (keySlot k s).ctr else 0

/-- A job that has started on slot `k` ends KEY_GONE (R537); one of a page that does not own the slot ends FAIL as before (R536, log
entry 46). -/
def goneOn (k : Nat) (s : State) : State :=
  match s.cph.job with
  | some j => if fld (wordAt j.item 0) 20 16 = k && j.rej = 0 && owns j.page k s then setCph { s.cph with job := some { j with gone := true } } s else s
  | none => s

/-- Empty slot `k` (R528, R529): the MRAM copy goes at once, or when NV writes are possible again. -/
def eraseSlot (k : Nat) (s : State) : State :=
  let v := keySlot k s
  let had := v.keyNv.isSome
  let due := had && nvInhibited s
  let s := setKeySlot k { v with key := none, pers := false, gen := (v.gen + 1) % 65536, keyNv := if due then v.keyNv else none, due := due } s
  goneOn k (if had && !due then nvWrote s else s)

/-- CPH_KEYIN as key bytes. -/
def keyBytes (p : Nat) (k256 : Bool) (s : State) : List Byte :=
  ((List.range (if k256 then 8 else 4)).map (fun i => nthD 0 (page p s).keyin i)).flatMap wordBytes

/-- Load slot `k` from page `p` (R527, R529): the code, 0 if done. `nvOk`: the write to the key store succeeds. -/
def keyLoad (p k ksize : Nat) (persist nvOk : Bool) (who : Word) (s : State) : Nat × State :=
  if !owns p k s then (0x83, s)
  else if 2 ≤ ksize then (0x84, s)
  else if persist && nvInhibited s then (0x85, s)
  else if persist && !nvOk then (0x89, raise 225 (cphInfo p k) (nvFail s))
  else
    let v := keySlot k s
    let key := keyBytes p (ksize == 1) s
    let g := (v.gen + 1) % 65536
    let due := !persist && v.keyNv.isSome && nvInhibited s
    let nv := if persist then some (key, g) else if due then v.keyNv else none
    let s := setKeySlot k { v with key := some key, pers := persist, gen := g, keyNv := nv, due := due } s
    let s := setPage p { page p s with keyin := [] } (if persist then nvWrote s else s)
    let s := blot 0x60 0 (cphInfo p k) (w32 g) who s
    (0, cphEvt p 0 (cphInfo p k) s)

def keyErase (p k : Nat) (who : Word) (s : State) : Nat × State :=
  if !owns p k s then (0x83, s)
  else
    let s := eraseSlot k s
    let s := blot 0x61 0 (cphInfo p k) (w32 (keySlot k s).gen) who s
    (0, cphEvt p 1 (cphInfo p k) s)

/-- NV writes are possible again: copies of erased keys are cleared (R529). -/
def clearDue : List (Nat × KeySlot) → State → State
  | [], s => s
  | (k, v) :: t, s => clearDue t (if v.due then nvWrote (setKeySlot k { v with due := false, keyNv := none } s) else s)

/-- A write of CPH_CMD (R548). -/
def cphCmd (p : Nat) (v : Word) (nvOk : Bool) (who : Word) (s : State) : State :=
  let k := fld v 20 16
  let put (c : Nat) (s : State) : State := wr (cphReg p 0x018) (w32 (c * 65536 + (if owns p k s then (keySlot k s).gen else 0))) s
  if fld v 31 28 = 1 then let r := keyLoad p k (fld v 9 8) (bit v 12) nvOk who s; put r.1 r.2
  else if fld v 31 28 = 2 then let r := keyErase p k who s; put r.1 r.2
  else s

/-- A write of CPH_KEYIN `i`. -/
def keyinWrite (p i : Nat) (v : Word) (s : State) : State :=
  let l := (page p s).keyin
  setPage p { page p s with keyin := setNth (l ++ List.replicate (8 - l.length) 0) i v } s

/-- A write of CPH_SLOT_OWNs: only while the slot holds no key, never for slots 0 and 1 (R526, R548). -/
def slotOwnWrite (k : Nat) (v : Word) (s : State) : State :=
  if k < 2 || (keySlot k s).key.isSome then s else stm (cphOwn k) 0x8000000F#32 v s

/-- FS224: an uncorrectable error in slot `k` (R545). The slot is erased, with the record and the event of every erase (R546); no
requester asked for it. A slot that no page owns is reported under page 0 (DESIGN CHOICE, log entry 46). -/
def keyError (k : Nat) (s : State) : State :=
  let p := if rb s (cphOwn k) 31 then rf s (cphOwn k) 3 0 else 0
  let s := eraseSlot k s
  raise 224 (cphInfo p k) (cphEvt p 1 (cphInfo p k) (blot 0x61 0 (cphInfo p k) (w32 (keySlot k s).gen) 0 s))

/-! ## Counters (R535, R538) -/

def ctrLimit : Nat := 0xFFFFFFFFFFFF0000

/-- A counter value can be issued: exhausted, waiting for MRAM, or ready. -/
inductive CtrState where
  | ready
  | stall
  | dead
  deriving DecidableEq, Repr

def ctrState (k : Nat) (s : State) : CtrState :=
  let v := keySlot k s
  if v.halt || ctrLimit ≤ v.ctr then .dead
  else if v.ctr % 65536 = 0 && v.ctrNv ≠ v.ctr && nvInhibited s then .stall
  else .ready

/-- Take the next counter value: a multiple of 2^16 is written to MRAM first (R538). -/
def takeCtr (k : Nat) (s : State) : Nat × State :=
  let v := keySlot k s
  let s := if v.ctr % 65536 = 0 && v.ctrNv ≠ v.ctr then nvWrote (setKeySlot k { v with ctrNv := v.ctr } s) else s
  (v.ctr, setKeySlot k { keySlot k s with ctr := v.ctr + 1 } s)

/-- CPH_COUNTER_PERSIST: the write that a multiple of 2^16 needs, and its failure (R538). -/
def ctrPersist (k : Nat) (ok : Bool) (s : State) : State :=
  let v := keySlot k s
  if v.ctr % 65536 ≠ 0 || v.ctrNv = v.ctr || v.halt || nvInhibited s then s
  else if ok then nvWrote (setKeySlot k { v with ctrNv := v.ctr } s)
  else raise 225 (cphInfo (if rb s (cphOwn k) 31 then rf s (cphOwn k) 3 0 else 0) k) (nvFail (setKeySlot k { v with halt := true } s))

/-! ## Authenticated frames (R483, R484) -/

/-- The bytes a trailer's tag covers after the counter: the header with HOP and RING taken as 0, the payload. -/
def authCover (f : Frame) (body : List Byte) : List Byte := (headerWords { f with hop := 0, ring := false }).flatMap wordBytes ++ body

/-- Send frame `f` with a trailer: false where slot 0 has no key or no counter value. `f` has its payload without trailer,
of a multiple of 8 bytes. -/
def sendAuth (f : Frame) (s : State) : Bool × State :=
  match (keySlot 0 s).key with
  | none => (false, s)
  | some key =>
    if ctrState 0 s ≠ .ready then (false, s)
    else
      let (c, s) := takeCtr 0 s
      let f := { f with src := ownNode s, seq := rf s ringSeq 15 0, len := f.payload.length / 8 + 2 }
      let tag := (cmacTag key c (authCover f f.payload)).take 8
      (true, (originate { f with payload := f.payload ++ leBytes 8 c ++ tag } s).2)

def authBody (f : Frame) : List Byte := f.payload.take (f.payload.length - 16)
def authCtr (f : Frame) : Nat := leNat ((f.payload.drop (f.payload.length - 16)).take 8)

/-- The tag verifies and the counter is greater than the last one accepted from its SRC (R484). -/
def authGood (f : Frame) (s : State) : Bool :=
  match (keySlot 0 s).key with
  | none => false
  | some key =>
    16 ≤ f.payload.length && (cmacTag key (authCtr f) (authCover f (authBody f))).take 8 == f.payload.drop (f.payload.length - 8)
      && tget (fun _ => 0) s.roles.ctrs f.src < authCtr f

/-- Note the counter of an accepted frame. -/
def authNote (f : Frame) (s : State) : State :=
  { s with roles := { s.roles with ctrs := tset (fun _ => 0) s.roles.ctrs f.src (authCtr f) } }

/-! ## Pages (R530–R534) -/

def cphEn (p : Nat) (s : State) : Bool := rb s (cphReg p 0) 0

/-- The check of R533. -/
def cphCheck (p : Nat) (s : State) : Nat :=
  if rb s (cphReg p 0x004) 31 then 0x8E
  else if (subOf (672 + 2 * p) s).1 then 0x81 else 0

/-- A job of page `p` stops without a result; a waiting direct job completes BUSY (R534). -/
def cphStop (p : Nat) (s : State) : State :=
  let d := (page p s).direct
  let s := match s.cph.job with
    | some j => if j.page = p then setCph { s.cph with job := none } (wb (cphReg p 0x004) 30 false s) else s
    | none => s
  match d with
  | some (o, a) => answer o a .busy [] (setPage p { page p s with direct := none } s)
  | none => s

/-- The unit reset of a page. -/
def cphReset (p : Nat) (s : State) : State :=
  let s := cphStop p (unitForget (cphReg p 0) [672 + 2 * p, 673 + 2 * p] s)
  let s := setPage p { page p s with keyin := [] } (wr (cphReg p 0x010) 0 s)
  if p = 0 then s else wb (cphReg p 0) 0 false s

def cphQuar (p : Nat) (s : State) : State := wb (cphReg p 0x004) 31 true (cphReset p s)

/-- A write of CPH_PAGE_CTL by `who` (R531–R534, R452). -/
def cphCtlWrite (p : Nat) (v who : Word) (s : State) : State :=
  if p = 0 then s
  else if cphEn p s then (if bit v 0 then s else cphReset p s)
  else if bit v 0 then
    let c := cphCheck p s
    let s := wf (cphReg p 0x004) 7 0 c s
    if c = 0 then wr (cphReg p 0x010) who (wb (cphReg p 0) 0 true s) else s
  else s

/-- Writes to page `p` by `who` complete DENIED (R532). -/
def cphDenied (p : Nat) (who : Word) (s : State) : Bool := p != 0 && cphEn p s && rd s (cphReg p 0x010) != who

/-! ## Jobs (R535–R542) -/

def jobOp (d : List Byte) : Nat := fld (wordAt d 0) 31 28
def jobSlot (d : List Byte) : Nat := fld (wordAt d 0) 20 16
def jobTlen (d : List Byte) : Nat := fld (wordAt d 0) 4 0
def jobCtr (d : List Byte) : Nat := leNat ((d.drop 8).take 8)

/-- The item is malformed (R539, R540). -/
def jobBad (d : List Byte) : Bool :=
  d.length < 32 || fld (wordAt d 0) 27 21 != 0 || fld (wordAt d 0) 15 5 != 0 || !(jobOp d == 1 || jobOp d == 2)
    || (if jobOp d = 1 then jobTlen d != 0 else jobTlen d < 8 || 16 < jobTlen d)

/-- The reason a job of page `p` is rejected for, 0 = none (R531, R538, R540). -/
def jobReject (p : Nat) (d : List Byte) (s : State) : Nat :=
  let k := jobSlot d
  if jobBad d then 0x88
  else if p = 0 || k < 2 then 0x80
  else if jobOp d = 2 then 0
  else if !owns p k s then 0x83
  else if (keySlot k s).key.isNone then 0x87
  else if ctrState k s = .dead then 0x86 else 0

/-- The next job of page `p`: the direct job, else the head item of its queue; none where the page is held up (R540–R542). -/
def nextJob (p : Nat) (s : State) : Option (List Byte × Option (Origin × Access)) :=
  if !cphEn p s || rb s (cphReg p 0x004) 31 || (page p s).result.isSome then none
  else match (page p s).direct with
    | some (o, a) => some (a.data, some (o, a))
    | none => match (queue (672 + 2 * p) s).items with
      | [] => none
      | i :: _ => if itemBad i then none else some (i.bytes, none)

/-- The job needs a counter value that cannot be issued yet (R538). -/
def jobStalls (p : Nat) (d : List Byte) (s : State) : Bool := jobReject p d s == 0 && jobOp d == 1 && ctrState (jobSlot d) s == .stall

/-- Pages in the order of their turns (R542). -/
def turnOrder (s : State) : List Nat := (List.range 16).map (fun i => (s.cph.last + 1 + i) % 16)

/-- Start the job of page `p` (R535, R537). -/
def startCph (p : Nat) (d : List Byte) (o : Option (Origin × Access)) (s : State) : State :=
  let rej := jobReject p d s
  let k := jobSlot d
  let v := keySlot k s
  let j : CphJob := { page := p, item := d, key := [], gen := if owns p k s then v.gen else 0, ctr := jobCtr d, from_ := o, rej := rej }
  let (j, s) := if rej ≠ 0 then (j, s)
    else if jobOp d = 1 then
      let (c, s) := takeCtr k s
      ({ j with key := v.key.getD [], ctr := c }, s)
    else ({ j with key := if owns p k s then v.key.getD [] else [] }, s)
  setCph { s.cph with job := some j, last := p } (wb (cphReg p 0x004) 30 true s)

/-- A page that would load the head item of its queue reads it, and meets an uncorrectable error in it (R165). -/
def loadMeets (p : Nat) (s : State) : State :=
  if cphEn p s && !rb s (cphReg p 0x004) 31 && (page p s).result.isNone && (page p s).direct.isNone &&
      (queue (672 + 2 * p) s).items.head?.any itemBad then
    meetBad (672 + 2 * p) s
  else s

/-- Pages whose next job waits for MRAM show CTRSTALL (R538); the event's information word is not stated. -/
def stallEvents : List Nat → State → State
  | [], s => s
  | p :: t, s =>
    let s := loadMeets p s
    let s := match nextJob p s with
      | some (d, _) => if jobStalls p d s then let (w, s) := fresh s; cphEvt p 5 w s else s
      | none => s
    stallEvents t s

/-- CPH_JOB_START: the next page in turn that has a job that can run. -/
def cphJobStart (s : State) : State :=
  if s.cph.job.isSome then s
  else
    let s := stallEvents (List.range 16) s
    match (turnOrder s).find? (fun p => match nextJob p s with | some (d, _) => !jobStalls p d s | none => false) with
    | none => s
    | some p => match nextJob p s with
      | some (d, o) => startCph p d o s
      | none => s

/-- RESULT of a job: 0 DONE, 1 PASS, 2 FAIL, 3 KEY_GONE, 4 REJECT, and its tag (R535–R537). -/
def jobOutcome (j : CphJob) : Nat × List Byte :=
  let tag := cmacTag j.key j.ctr (j.item.drop 32)
  if j.rej ≠ 0 then (4, [])
  else if j.gone then (3, [])
  else if jobOp j.item = 1 then (0, tag)
  else if !j.key.isEmpty && tag.take (jobTlen j.item) == ((j.item.drop 16).take 16).take (jobTlen j.item) then (1, []) else (2, [])

/-- The 32 bytes of a result (R540). -/
def jobResult (j : CphJob) : List Byte :=
  let (r, tag) := jobOutcome j
  let w0 := w32 (jobOp j.item * 0x10000000 + r * 0x1000000 + jobSlot j.item * 65536 + (if r = 4 then 0 else j.gen % 65536))
  let tail := if r = 0 then tag else if r = 4 then wordBytes (w32 j.rej) ++ List.replicate 12 0 else List.replicate 16 0
  wordBytes w0 ++ ((j.item ++ List.replicate 32 0).drop 4).take 4 ++ leBytes 8 j.ctr ++ tail

/-- Count a result and show its event (R546, R547). -/
def jobCount (p r : Nat) (w4 : Word) (s : State) : State :=
  let s := bump (cphReg p (0x040 + 4 * r)) 1 s
  if r = 2 then cphEvt p 4 w4 s else if r = 3 then cphEvt p 2 w4 s else if r = 4 then cphEvt p 3 w4 s else s

def putWords (k : Nat) : List Word → State → State
  | [], s => s
  | w :: t, s => putWords (k + 4) t (wr k w s)

/-- Place a result item, or hold it (R540). -/
def placeResult (p : Nat) (d : List Byte) (user : Word) (s : State) : State :=
  match putItem (673 + 2 * p) { bytes := d, user := user } s with
  | (true, s) => setPage p { page p s with result := none } s
  | (false, s) => setPage p { page p s with result := some (d, user) } s

/-- CPH_JOB_END: the job under way ends (R537, R540, R541). -/
def cphJobEnd (s : State) : State :=
  match s.cph.job with
  | none => s
  | some j =>
    let r := (jobOutcome j).1
    let d := jobResult j
    let p := j.page
    let s := wb (cphReg p 0x004) 30 false (setCph { s.cph with job := none } s)
    let s := jobCount p r (wordAt d 16) s
    match j.from_ with
    | some (o, a) =>
      let s := setPage p { page p s with direct := none } (putWords (cphReg p 0x500) (bytesWords 8 d) s)
      complete o (ownNode s) a (if r = 3 then .keyGone else .ok) [] s
    | none => placeResult p d (w32 (r * 0x1000000 + jobSlot j.item * 65536)) (freeHead (672 + 2 * p) s)

/-- CPH_RESULT_ADMIT: the output queue has room again (R540). -/
def cphAdmit (p : Nat) (s : State) : State :=
  match (page p s).result with
  | none => s
  | some (d, u) => if admits (673 + 2 * p) 1 s then placeResult p d u s else s

/-- A write of CPH_DIN by `o` (R541): its status, or none where the completion waits for the job. A page that is disabled or in
quarantine runs no job and answers BUSY, as R534 answers the direct job that a disable stops (DEDUCED, log entry 46). -/
def dinWrite (p : Nat) (o : Origin) (a : Access) (s : State) : Option Status × State :=
  if a.kind ≠ .wrN || a.addr % 0x1000 ≠ 0x400 || a.count < 32 || 248 < a.count then (some .ua, s)
  else if !cphEn p s || rb s (cphReg p 0x004) 31 || (page p s).direct.isSome then (some .busy, s)
  else (none, setPage p { page p s with direct := some (o, a) } s)

/-! ## Commands (R543) -/

/-- The session's holder may use the page of word 0 (R543). -/
def pageHolder (m p : Nat) (s : State) : Bool :=
  let h := rd s (kcReg m 0x10)
  if p = 0 then h == 0x40000000#32 || h == 0x80000000#32 else cphEn p s && rd s (cphReg p 0x010) == h

def kcDenied (m : Nat) (result : List Word) (s : State) : State := kcReply m 7 0 0 result s

def cmdPage (raw : List Byte) : Nat := fld (par raw 0) 3 0
def cmdSlot (raw : List Byte) : Nat := fld (par raw 0) 20 16

/-- KEY_LOAD; `nvOk` as `keyLoad`. -/
def kcKeyLoad (m : Nat) (nvOk : Bool) (raw : List Byte) (s : State) : State :=
  let p := cmdPage raw
  if !pageHolder m p s then kcDenied m [] s
  else
    let (c, s) := keyLoad p (cmdSlot raw) (fld (par raw 0) 9 8) (bit (par raw 0) 12) nvOk (rd s (kcReg m 0x10)) s
    if c = 0x85 then kcReply m 6 0 0 [] s else kcCode m c [w32 (keySlot (cmdSlot raw) s).gen] s

def kcKeyErase (m : Nat) (raw : List Byte) (s : State) : State :=
  let p := cmdPage raw
  if !pageHolder m p s then kcDenied m [] s
  else
    let (c, s) := keyErase p (cmdSlot raw) (rd s (kcReg m 0x10)) s
    kcCode m c [w32 (keySlot (cmdSlot raw) s).gen] s

/-- MAC_GEN. -/
def kcMacGen (m : Nat) (raw : List Byte) (s : State) : State :=
  let p := cmdPage raw
  let k := cmdSlot raw
  let n := fld (par raw 1) 11 0
  if 2024 < n then kcRefuse m 5 [] s
  else if pkLen raw < 8 + n then kcRefuse m 8 [] s
  else if !pageHolder m p s then kcDenied m [] s
  else if p = 0 || k < 2 then kcRefuse m 0x80 [] s
  else if !owns p k s then kcRefuse m 0x83 [] s
  else match (keySlot k s).key with
    | none => kcRefuse m 0x87 [] s
    | some key => match ctrState k s with
      | .dead => kcRefuse m 0x86 [] s
      | .stall => kcReply m 6 0 0 [] s
      | .ready =>
        let g := (keySlot k s).gen
        let (c, s) := takeCtr k s
        let tag := cmacTag key c ((raw.drop 24).take n)
        kcOk m (bytesWords 2 (leBytes 8 c) ++ bytesWords 4 tag ++ [w32 g]) (bump (cphReg p 0x040) 1 s)

/-- MAC_VERIFY. -/
def kcMacVerify (m : Nat) (raw : List Byte) (s : State) : State :=
  let p := cmdPage raw
  let k := cmdSlot raw
  let tl := fld (par raw 1) 4 0
  let n := fld (par raw 8) 10 0
  if tl < 8 || 16 < tl || 1996 < n then kcRefuse m 5 [] s
  else if pkLen raw < 36 + n then kcRefuse m 8 [] s
  else if !pageHolder m p s then kcDenied m [] s
  else if p = 0 || k < 2 then kcRefuse m 0x80 [] s
  else
    let tag := cmacTag ((keySlot k s).key.getD []) (leNat ((raw.drop 24).take 8)) ((raw.drop 52).take n)
    let ok := owns p k s && (keySlot k s).key.isSome && tag.take tl == ((raw.drop 32).take 16).take tl
    let (w, s) := fresh s
    let s := jobCount p (if ok then 1 else 2) w s
    kcOk m [w32 (b2n ok), w32 (if owns p k s then (keySlot k s).gen else 0)] s

end Sys2Proof.Machine
end

