-- ==== Sys2Proof/Machine/Roles.lean ====
section
/-! DEFINITION. Ring roles, witness and leases (chapter 13). Role 0 is the ring manager, role 1 the time master. -/
namespace Sys2Proof.Machine
open Sys2Proof

def setRoles (v : RolesSt) (s : State) : State := { s with roles := v }
def role (r : Nat) (s : State) : RoleSt := if r = 0 then s.roles.rm else s.roles.tm
def setRole (r : Nat) (v : RoleSt) (s : State) : State :=
  setRoles (if r = 0 then { s.roles with rm := v } else { s.roles with tm := v }) s

def roleState (r : Nat) : Nat := 0x810 + 8 * r
def roleEpoch (r : Nat) : Nat := 0x814 + 8 * r
def roleOwn (r : Nat) (s : State) : Nat := rf s (roleState r) 3 0
def roleActive (r : Nat) (s : State) : Nat := rf s (roleState r) 31 24
def epochOf (r : Nat) (s : State) : Nat := (rd s (roleEpoch r)).toNat

def witness (s : State) : Nat := rf s roleCfg 31 24
def isWitness (s : State) : Bool := witness s != 0 && witness s == ownNode s
def capable (r : Nat) (s : State) : Bool := rb s roleCfg (16 + r) && !isWitness s
def pairM (s : State) : Bool := rb s hubStatus 1

/-- The job of a handover of role `r`: mailbox and slot. -/
def swapJob (r : Nat) (s : State) : Option (Nat × Nat) :=
  (s.kc.boxes.filterMap (fun e => (e.2.jobs.find? (fun j => j.kind = .roleSwap r && jobLive j)).map (fun j => (e.1, j.slot)))).head?

/-- Set HUB_ROLE_EVT bit `i` with its notice (R490); event 0x04 is created whatever the mask holds. -/
def roleEvt (i unit : Nat) (info : Word) (s : State) : State :=
  if i = 3 && !rb s roleEvtR 3 then notify 21 4 unit info (wb roleEvtR 3 true s)
  else unitEvent roleEvtR roleNmask i 21 unit info s

/-- Change OWN of role `r`. -/
def setOwn (r st : Nat) (s : State) : State :=
  if roleOwn r s = st then s
  else
    let s := wf (roleState r) 3 0 st s
    roleEvt 1 r (rd s (roleState r)) s

/-- State a node takes that holds no part of the role (R475, R492). -/
def restState (r : Nat) (s : State) : Nat := if capable r s then 1 else 0

/-- The configuration has changed: a node not capable reads NONE, a capable one at least IDLE. -/
def roleRefresh (r : Nat) (s : State) : State :=
  if capable r s then (if roleOwn r s = 0 then setOwn r 1 s else s)
  else
    let s := if roleOwn r s = 4 && r = 1 then dropMaster s else s
    setOwn r 0 s

/-! ## Frames (R485) -/

/-- A role frame of subtype `sub` with `body`, padded to `n` bytes. -/
def roleFrame (dst sub n : Nat) (body : List Byte) : Frame := mkFrame dst 9 0 0 sub (body ++ List.replicate (n - body.length) 0)

def sendRole (dst sub n : Nat) (body : List Byte) (s : State) : State := (sendAuth (roleFrame dst sub n body) s).2

def ep4 (e : Nat) : List Byte := leBytes 4 e
def b8 (n : Nat) : Byte := BitVec.ofNat 8 n
def frEpoch (f : Frame) : Nat := leNat (f.payload.take 4)
def frByte (i : Nat) (f : Frame) : Nat := (nthD 0 f.payload i).toNat
def frRole (f : Frame) : Nat := frByte 4 f

/-- An authenticated frame that arrives on ring `r`: dup filter, tag, counter (R484). Pair M takes it (R26). -/
def authFrame (r : Nat) (f : Frame) (s : State) : Bool × State :=
  if !addressed f s || !pairM s then (false, s)
  else if destBad f then (false, cntRing 0x068 r 1 s)
  else if judge f.src (f.seq % 65536) s ≠ .fresh then dupFilter r f true s
  else if authGood f s then
    let (ok, s) := dupFilter r f true s
    (ok, authNote f s)
  else
    let src := w32 (f.src % 256)
    (false, raise 241 src (roleEvt 5 2 src (bump 0x834 1 s)))

def isRole (sub : Nat) (f : Frame) : Bool := f.typ == 9 && f.addr % 256 == sub

/-! ## Tables (R466, R472): the format of an entry is this model's -/

def censusBytes (n : Nat) (e : CensusEnt) : List Byte :=
  b8 1 :: b8 n :: (wordBytes e.roles ++ wordBytes e.status ++ e.seen.flatMap wordBytes)
def leaseBytes (l : LeaseEnt) : List Byte :=
  b8 2 :: b8 l.node :: b8 l.sess :: b8 0 :: (wordBytes l.res ++ leBytes 8 l.expiry.toNat)

def tableBytes (s : State) : List Byte :=
  s.roles.census.flatMap (fun e => match e.2 with | some v => censusBytes e.1 v | none => []) ++ s.roles.leases.flatMap leaseBytes

def segCount (s : State) : Nat := max 1 (ceilDiv (tableBytes s).length 232)

/-- Segment `i` of the table of role `r`. -/
def sendSeg (r dst n i : Nat) (d : List Byte) (s : State) : State :=
  let head := ep4 (epochOf r s) ++ leBytes 2 i ++ [b8 (b2n (i + 1 == n)), 0]
  sendRole dst 0x26 240 (head ++ (d.drop (232 * i)).take 232) s

def sendSegs (r dst n : Nat) (d : List Byte) : List Nat → State → State
  | [], s => s
  | i :: t, s => sendSegs r dst n d t (sendSeg r dst n i d s)

/-- Send the standby the whole table (R466, R474). -/
def sendTable (r : Nat) (s : State) : State :=
  let v := role r s
  if v.stby = 0 then s
  else
    let n := segCount s
    let d := tableBytes s
    sendSegs r v.stby n d (List.range n) (setRole r { v with segs := n, acked := [] } s)

/-- Read the entries of a table. -/
def readTable : Nat → List Byte → RolesSt → Nat → RolesSt
  | 0, _, v, _ => v
  | k + 1, d, v, now =>
    if (nthD 0 d 0).toNat = 1 && 74 ≤ d.length then
      let e : CensusEnt := { roles := wordAt d 2, status := wordAt d 6, seen := bytesWords 16 (d.drop 10), at_ := now }
      readTable k (d.drop 74) { v with census := tset (fun _ => none) v.census (nthD 0 d 1).toNat (some e) } now
    else if (nthD 0 d 0).toNat = 2 && 16 ≤ d.length then
      let l : LeaseEnt := { res := wordAt d 4, node := (nthD 0 d 1).toNat, sess := (nthD 0 d 2).toNat, expiry := BitVec.ofNat 64 (leNat ((d.drop 8).take 8)) }
      readTable k (d.drop 16) { v with leases := v.leases ++ [l] } now
    else v

/-! ## The active holder (R466, R467, R473) -/

/-- The authority lease has run out: 2 ms since the send of the newest heartbeat acknowledged (R467); before the first, since the grant
(DESIGN CHOICE, log entry 45). -/
def authOver (r : Nat) (s : State) : Bool := 2000000 ≤ (tb0 s - (role r s).authTb).toNat

/-- This node acts as the active holder: pair M runs, and its authority lease (R451, R467). -/
def acting (r : Nat) (s : State) : Bool := roleOwn r s == 4 && pairM s && !authOver r s

/-- Show what the last heartbeat names. -/
def showStby (r n : Nat) (sync : Bool) (s : State) : State := wb (roleState r) 7 sync (wf (roleState r) 23 16 n s)

/-- The heartbeat of role `r` (R485). -/
def heartbeatSend (r : Nat) (s : State) : State :=
  if !acting r s then s
  else
    let v := role r s
    let flags := b2n (rb s roleCfg 23) + 2 * b2n v.synced + 4 * b2n v.hand
    let body := ep4 (epochOf r s) ++ [b8 r, b8 v.stby, b8 (witness s), b8 flags] ++ leBytes 8 (tb0 s).toNat
      ++ [b8 (if r = 0 then rf s ringCfg 7 0 else 0)]
    sendRole 255 0x20 32 body (showStby r v.stby v.synced s)

/-- The lowest-numbered candidate for the standby place (R466). -/
def candidate (r : Nat) (s : State) : Option Nat :=
  (s.roles.census.find? (fun e => match e.2 with
    | some c => bit c.roles (16 + r) && e.1 ≠ ownNode s && e.1 ≠ witness s && !(role r s).passed.contains e.1
    | none => false)).map (fun e => e.1)

/-- Fill a vacant standby place: APPOINT and the table (R466). -/
def fillStandby (r : Nat) (s : State) : State :=
  if roleOwn r s ≠ 4 || (role r s).stby ≠ 0 then s
  else match candidate r s with
    | none => s
    | some n =>
      let s := setRole r { role r s with stby := n, synced := false } s
      sendTable r (sendRole n 0x27 16 (ep4 (epochOf r s) ++ [b8 r]) s)

/-- The standby place falls vacant (R473). -/
def vacate (r : Nat) (s : State) : State :=
  setRole r { role r s with stby := 0, synced := false, witAck := false, vacTb := tb0 s, acked := [], segs := 0 } s

/-- A node adopts epoch `e` with holder `n` (R465, R471). A former holder steps down; after a handover it waits to be synced. -/
def adoptRole (r e n : Nat) (s : State) : State :=
  let was := roleOwn r s
  let s := wr (roleEpoch r) (w32 e) (wf (roleState r) 31 24 n (showStby r 0 false s))
  let s := raise 240 (w32 (r * 16777216 + n % 256)) (bump 0x830 1 s)
  let s := roleEvt 0 r (rd s (roleState r)) s
  let v := role r s
  let hand := v.hand
  let s := setRole r { v with hand := false, stby := 0, synced := false, asked := none, passed := [], got := [], gotN := 0, segs := 0, acked := [] } s
  if n = ownNode s then s
  else
    let s := if was = 4 && r = 1 then dropMaster s else s
    if was = 4 && hand then setOwn r 2 s
    else if was = 0 then s else setOwn r 1 s

/-- A node that receives a grant is ACTIVE at once (R468, R478). -/
def becomeActive (r e : Nat) (s : State) : State :=
  let s := setOwn r 4 (adoptRole r e (ownNode s) s)
  let s := if r = 1 then takeMaster s else s
  fillStandby r (heartbeatSend r (setRole r { role r s with vacTb := tb0 s, witAck := false, authTb := tb0 s } s))

/-- A frame of a role's holder (R471): accepted or not. A newer epoch is adopted, an older one counted. -/
def fromHolder (r e src : Nat) (s : State) : Bool × State :=
  let cur := epochOf r s
  if newer e cur then (true, adoptRole r e src s)
  else if e = cur && src = roleActive r s && src ≠ 0 then (true, s)
  else if newer cur e then (false, bump 0x838 1 s)
  else (false, s)

/-! ## Heartbeats received (R467, R469, R470, R471) -/

/-- The witness hears a heartbeat. -/
def witnessHears (r e : Nat) (f : Frame) (s : State) : State :=
  let v := role r s
  if v.granted && newer v.wEpoch e then s
  else setRole r { v with granted := true, wEpoch := e, heard := true, witAt := s.hub.now, hbStby := frByte 5 f, hbSync := bitOf (frByte 7 f) 1,
                          hbHand := bitOf (frByte 7 f) 2 } s

/-- WITNESS or WHOST of the heartbeat differ from HUB_ROLE_CFG (R470, R489). -/
def hbMismatch (f : Frame) (s : State) : Bool := frByte 6 f != witness s || bitOf (frByte 7 f) 0 != rb s roleCfg 23

def block (r : Nat) (s : State) : State := if roleOwn r s = 6 then s else raise 244 (w32 r) (setOwn r 6 s)

/-- HEARTBEAT. -/
def heartbeat (ring : Nat) (f : Frame) (s : State) : State :=
  if !isRole 0x20 f then s
  else match authFrame ring f s with
    | (false, s) => s
    | (true, s) =>
      let r := frRole f
      if 2 ≤ r then s
      else match fromHolder r (frEpoch f) f.src s with
        | (false, s) => s
        | (true, s) =>
          let s := showStby r (frByte 5 f) (bitOf (frByte 7 f) 1) s
          let s := if isWitness s then witnessHears r (frEpoch f) f s else s
          let own := roleOwn r s
          let s := setRole r { role r s with asked := none, hbAt := s.hub.now, refAt := none } s
          let s := if (own = 2 || own = 3 || own = 6) && frByte 5 f ≠ ownNode s && own ≠ 2 then setOwn r 1 s else s
          let s := if hbMismatch f s then
              let s := raise 242 (w32 (f.src % 256)) (roleEvt 4 r (rd s (roleState r)) s)
              if roleOwn r s = 3 then block r s else s
            else if roleOwn r s = 6 && frByte 5 f = ownNode s then setOwn r 3 s else s
          if isWitness s || roleOwn r s = 3 then
            sendRole f.src 0x21 16 (ep4 (frEpoch f) ++ [b8 r, 0, 0, 0] ++ (f.payload.drop 8).take 8) s
          else s

/-! ## Leases at the arbiter (R473, R479–R481) -/

def leaseOf (res : Word) (s : State) : Option LeaseEnt := s.roles.leases.find? (fun l => l.res = res)
def dropLease (res : Word) (s : State) : State := setRoles { s.roles with leases := s.roles.leases.filter (fun l => l.res ≠ res) } s
def putLease (l : LeaseEnt) (s : State) : State :=
  setRoles { s.roles with leases := s.roles.leases.filter (fun x => x.res ≠ l.res) ++ [l] } s

/-- The identifier names a resource (R479). -/
def resValid (res : Word) : Bool :=
  let i := fld res 15 0
  match fld res 31 24 with
  | 1 => fld res 23 16 == 0 && i < 256
  | 2 => i < 32 && (i / 16 == 0 || i % 16 < 8)
  | 3 => i < 256
  | 4 => i < 16
  | _ => false

/-- A lease ends at its arbiter (R481). -/
def leaseEnd (res : Word) (s : State) : State :=
  match leaseOf res s with
  | none => s
  | some _ => roleEvt 2 2 res (bump 0x83C 1 (dropLease res s))

/-- LEASE_EXPIRE: pair M ends a lease that has run out (R26, R481). -/
def leaseExpire (res : Word) (s : State) : State := if pairM s then leaseEnd res s else s

/-- The current lease of `res`; one past its expiry ends now (R480). -/
def leaseNow (res : Word) (s : State) : Option LeaseEnt × State :=
  match leaseOf res s with
  | none => (none, s)
  | some l => if tb0 s < l.expiry then (some l, s) else (none, leaseEnd res s)

/-- Milliseconds a lease still runs. -/
def msLeft (l : LeaseEnt) (s : State) : Nat := (l.expiry - tb0 s).toNat / 1000000

/-- The body of a LEASE frame (R486). -/
def leaseBody (res : Word) (node sess d reason cn cs : Nat) : List Byte :=
  wordBytes res ++ [b8 node, b8 sess, 0, 0] ++ leBytes 4 d ++ [b8 reason, b8 cn, b8 cs, 0]

def leaseFrame (dst op tag : Nat) (body : List Byte) : Frame := mkFrame dst 11 0 (tag % 1024) op body
def lRes (f : Frame) : Word := wordAt f.payload 0
def lNode (f : Frame) : Nat := frByte 4 f
def lSess (f : Frame) : Nat := frByte 5 f
def lDur (f : Frame) : Nat := leNat ((f.payload.drop 8).take 4)

/-- The waiting command an answer belongs to (R481). -/
def waitOf (src tag : Nat) (s : State) : Option LeaseWait := s.roles.waits.find? (fun w => w.tag = tag && w.arb = src)
def dropWait (m : Nat) (s : State) : State := setRoles { s.roles with waits := s.roles.waits.filter (fun w => w.sess ≠ m) } s

/-- A GRANT reaches the requester: the holder's view of the expiry, or the release done (R480, R487). -/
def leaseGranted (src : Nat) (f : Frame) (s : State) : State :=
  match waitOf src f.tag s with
  | none => s
  | some w =>
    let s := dropWait w.sess s
    let mine := s.roles.mine.filter (fun e => !(e.1 = w.res && e.2.1 = w.sess))
    if w.op = 3 then kcOk w.sess [] (setRoles { s.roles with mine := mine } s)
    else
      let exp := w.tb + BitVec.ofNat 64 (w.d * 1000000)
      kcOk w.sess [loW exp, hiW exp, w32 src] (setRoles { s.roles with mine := mine ++ [(w.res, w.sess, src)] } s)

/-- A REFUSE reaches the requester; reason 0 is DENIED (R486, R487). -/
def leaseRefused (src : Nat) (f : Frame) (s : State) : State :=
  match waitOf src f.tag s with
  | none => s
  | some w =>
    let s := dropWait w.sess s
    if frByte 12 f ≠ 0 then kcRefuse w.sess (frByte 12 f) [] s
    else kcDenied w.sess [w32 (frByte 13 f + frByte 14 f % 16 * 256), w32 (lDur f)] s

/-- Send an answer to the requester's hub, or take it here. -/
def leaseAnswer (src op tag : Nat) (body : List Byte) (s : State) : State :=
  let f := leaseFrame src op tag body
  if src = ownNode s then
    if op = 4 then leaseGranted src { f with src := src } s else leaseRefused src { f with src := src } s
  else (sendAuth f s).2

def answerGrant (l : LeaseEnt) (src tag d : Nat) (s : State) : State := leaseAnswer src 4 tag (leaseBody l.res l.node l.sess d 0 0 0) s

/-- The entry of an ink lock may be granted (R473): 0 the synced standby has to acknowledge, 1 there is none and the witness has
acknowledged a heartbeat that says so, 2 neither. -/
def lockPath (s : State) : Nat := if (role 0 s).synced then 0 else if (role 0 s).witAck then 1 else 2

/-- Grant `d` ms of `res` (R480): an ink lock first enters the table of the synced standby (R473); one that is still SYNCING is sent the
table again with it. During a handover ink locks are refused with 0x96, since R474 stops their grants and names no answer (DESIGN
CHOICE, log entry 45). -/
def leaseGive (src tag : Nat) (res : Word) (node sess d : Nat) (s : State) : State :=
  let l : LeaseEnt := { res := res, node := node, sess := sess, expiry := tb0 s + BitVec.ofNat 64 (d * 1000000 + d * 1000000 / 512) }
  if fld res 31 24 = 1 then
    if (role 0 s).hand || (swapJob 0 s).isSome then leaseAnswer src 5 tag (leaseBody res node sess 0 0x96 0 0) s
    else match lockPath s with
      | 1 => answerGrant l src tag d (sendTable 0 (putLease l s))
      | 0 => sendTable 0 (putLease l (setRoles { s.roles with locks := s.roles.locks ++ [⟨l, src, tag, d⟩] } s))
      | _ => setRoles { s.roles with locks := s.roles.locks ++ [⟨l, src, tag, d⟩] } s
  else answerGrant l src tag d (putLease l s)

/-- This node is the arbiter of `res`. -/
def arbiterHere (res : Word) (s : State) : Bool :=
  if fld res 31 24 = 1 then acting 0 s else fld res 23 16 == ownNode s

/-- A request at the arbiter: OP 1 ACQUIRE, 2 RENEW, 3 RELEASE (R480). -/
def leaseRequest (op src tag : Nat) (f : Frame) (s : State) : State :=
  let res := lRes f
  let node := lNode f
  let sess := lSess f
  if !resValid res then leaseAnswer src 5 tag (leaseBody res node sess 0 0x98 0 0) s
  else if !arbiterHere res s || s.roles.locks.any (fun k => k.src = src && k.tag = tag) then s
  else
    let (cur, s) := leaseNow res s
    let holds := match cur with | some l => l.node == node && l.sess == sess | none => false
    if op = 1 then
      match cur with
      | none => leaseGive src tag res node sess (lDur f) s
      | some l => if holds then leaseGive src tag res node sess (lDur f) s
        else leaseAnswer src 5 tag (leaseBody res node sess (msLeft l s) 0 l.node l.sess) s
    else if !holds then leaseAnswer src 5 tag (leaseBody res node sess 0 0x97 0 0) s
    else if op = 2 then leaseGive src tag res node sess (lDur f) s
    else leaseAnswer src 4 tag (leaseBody res node sess 0 0 0 0) (dropLease res s)

/-- LEASE_OP_ACQUIRE, _RENEW, _RELEASE, _GRANT, _REFUSE: a LEASE frame of this OP on ring `ring` (R484, R486). -/
def leaseOp (op ring : Nat) (f : Frame) (s : State) : State :=
  if f.typ ≠ 11 || f.addr % 256 ≠ op then s
  else match authFrame ring f s with
    | (false, s) => s
    | (true, s) =>
      if op = 4 then leaseGranted f.src f s
      else if op = 5 then leaseRefused f.src f s
      else leaseRequest op f.src f.tag f s

/-- Grant every waiting lock. -/
def grantLocks : List LockWait → State → State
  | [], s => s
  | k :: t, s => grantLocks t (answerGrant k.ent k.src k.tag k.d (putLease k.ent s))

def locksGo (s : State) : State := grantLocks s.roles.locks (setRoles { s.roles with locks := [] } s)

def refuseLocks : List LockWait → State → State
  | [], s => s
  | k :: t, s => refuseLocks t (leaseAnswer k.src 5 k.tag (leaseBody k.ent.res k.ent.node k.ent.sess 0 0x96 0 0) (dropLease k.ent.res s))

/-- STANDBY_ACK_TIMEOUT: 200 µs without the standby's acknowledgement (R473). A holder that has heard neither refuses. -/
def standbyAckTimeout (s : State) : State :=
  if roleOwn 0 s ≠ 4 || s.roles.locks.isEmpty || !pairM s then s
  else if (role 0 s).stby ≠ 0 then vacate 0 s
  else if (role 0 s).witAck then locksGo s
  else refuseLocks s.roles.locks (setRoles { s.roles with locks := [] } s)

/-- AUTH_ACK at the holder (R467, R473). -/
def authAck (ring : Nat) (f : Frame) (s : State) : State :=
  if !isRole 0x21 f then s
  else match authFrame ring f s with
    | (false, s) => s
    | (true, s) =>
      let r := frRole f
      let v := role r s
      let tb : DWord := BitVec.ofNat 64 (leNat ((f.payload.drop 8).take 8))
      if 2 ≤ r || roleOwn r s ≠ 4 || frEpoch f ≠ epochOf r s || !(f.src == witness s || (f.src == v.stby && v.synced)) then s
      else
        let wit := f.src == witness s && !v.synced && v.vacTb ≤ tb
        let s := setRole r { v with authTb := if v.authTb < tb then tb else v.authTb, witAck := v.witAck || wit } s
        if wit then fillStandby r (if r = 0 then locksGo s else s) else s

/-- AUTHORITY_LEASE_EXPIRE (R467). -/
def authExpire (r : Nat) (s : State) : State :=
  if roleOwn r s ≠ 4 || !pairM s || !authOver r s then s
  else
    let s := if r = 1 then dropMaster s else refuseLocks s.roles.locks (setRoles { s.roles with locks := [] } s)
    raise 243 (w32 r) (setOwn r 5 s)

def lapsedEnd (r : Nat) (s : State) : State := if roleOwn r s = 5 && pairM s then setOwn r (restState r s) s else s

/-! ## Takeover (R468, R469, R474) -/

def sendTake (r : Nat) (swap : Bool) (s : State) : State :=
  let s := setRole r { role r s with asked := some swap } s
  sendRole (witness s) 0x22 16 (ep4 (epochOf r s) ++ [b8 r, b8 (b2n swap)]) s

/-- A standby may not take the time master role while TB0 is not LOCKED (R470). -/
def takeBlocked (r : Nat) (s : State) : Bool := r == 1 && rf s tbStatus 2 0 != 3

/-- MISS × 100 µs, in ns (R468). -/
def missNs (s : State) : Nat := rf s roleCfg 7 4 * 100000

/-- No heartbeat of the adopted epoch for MISS × 100 µs, and as long since a refusal (R468). -/
def silent (r : Nat) (s : State) : Bool :=
  let v := role r s
  v.hbAt + missNs s ≤ s.hub.now && v.refAt.all (fun t => t + missNs s ≤ s.hub.now)

/-- HEARTBEAT_SILENCE at a synced standby (R468, R470). -/
def heartbeatSilence (r : Nat) (s : State) : State :=
  if roleOwn r s ≠ 3 || !pairM s || !silent r s then s else if takeBlocked r s then block r s else sendTake r false s

/-- NO_HOLDER_TIMEOUT: a capable node has heard no holder for 20 ms (R469). -/
def noHolder (r : Nat) (s : State) : State :=
  if !capable r s || roleOwn r s = 4 || roleOwn r s = 5 || !pairM s || s.hub.now < (role r s).hbAt + 20000000 then s
  else sendTake r false s

/-- The witness's current epoch of a role. -/
def witEpoch (r : Nat) (s : State) : Nat := if (role r s).granted then (role r s).wEpoch else epochOf r s

def takeAnswer (r dst e : Nat) (ok : Bool) (s : State) : State := sendRole dst 0x23 16 (ep4 e ++ [b8 r, b8 (b2n ok)]) s

/-- The witness grants the role to `dst` with epoch + 1 (R465). -/
def witGrant (r dst : Nat) (s : State) : State :=
  let e := (witEpoch r s + 1) % 4294967296
  takeAnswer r dst e true (setRole r { role r s with granted := true, wEpoch := e, heard := false, witAt := s.hub.now, host := none, hbStby := 0, hbSync := false, hbHand := false } s)

def witRefuse (r dst : Nat) (s : State) : State := takeAnswer r dst (witEpoch r s) false (setRole r { role r s with host := none } s)

/-- The census does not say that the node is not manager-capable for role `r` (R469). -/
def mayHold (r n : Nat) (s : State) : Bool :=
  match tget (fun _ => none) s.roles.census n with
  | some c => bit c.roles (16 + r)
  | none => true

/-- The rule of R468, R469 and R474, by the time since the witness heard a heartbeat of its current epoch. -/
def witRule (r src e : Nat) (swap : Bool) (s : State) : Bool :=
  let v := role r s
  let quiet := s.hub.now - v.witAt
  if swap then v.heard && v.hbHand && v.hbStby == src && e == witEpoch r s && quiet ≤ 200000
  else (e == witEpoch r s && v.heard && v.hbStby == src && v.hbSync && missNs s ≤ quiet) ||
    ((!v.granted || 20000000 ≤ quiet) && mayHold r src s)

/-- TAKE_REQ at the witness. -/
def takeReq (ring : Nat) (f : Frame) (s : State) : State :=
  if !isRole 0x22 f then s
  else match authFrame ring f s with
    | (false, s) => s
    | (true, s) =>
      let r := frRole f
      let swap := bitOf (frByte 5 f) 0
      if 2 ≤ r || !isWitness s then s
      else if !witRule r f.src (frEpoch f) swap s || (role r s).host.isSome then takeAnswer r f.src (witEpoch r s) false s
      else if rb s roleCfg 23 then
        roleEvt 3 r (rd s (roleState r)) (setRole r { role r s with host := some ⟨f.src, s.hub.now⟩ } s)
      else witGrant r f.src s

/-- WITNESS_HOST_TIMEOUT: no decision within 20 ms (R469). -/
def hostTimeout (r : Nat) (s : State) : State :=
  match (role r s).host with
  | some h => if pairM s && h.since + 20000000 ≤ s.hub.now then witRefuse r h.node s else s
  | none => s

/-- TAKE_ANS at the requester (R468). -/
def takeAns (ring : Nat) (f : Frame) (s : State) : State :=
  if !isRole 0x23 f then s
  else match authFrame ring f s with
    | (false, s) => s
    | (true, s) =>
      let r := frRole f
      if 2 ≤ r || f.src ≠ witness s || (role r s).asked.isNone then s
      else if bitOf (frByte 5 f) 0 && newer (frEpoch f) (epochOf r s) then becomeActive r (frEpoch f) s
      else setRole r { role r s with asked := none, refAt := some s.hub.now } s

/-- APPOINT (R466). -/
def appoint (ring : Nat) (f : Frame) (s : State) : State :=
  if !isRole 0x27 f then s
  else match authFrame ring f s with
    | (false, s) => s
    | (true, s) =>
      let r := frRole f
      if 2 ≤ r then s
      else match fromHolder r (frEpoch f) f.src s with
        | (false, s) => s
        | (true, s) => if capable r s then setOwn r 2 (setRole r { role r s with got := [], gotN := 0 } s) else s

/-- A node has become the synced standby; a handover it gave ends DONE (R474). -/
def becomeStandby (r : Nat) (s : State) : State :=
  let s := setOwn r 3 s
  match swapJob r s with
  | some (m, i) => endJob m i 3 0 0 [w32 (roleActive r s), w32 (epochOf r s)] s
  | none => s

/-- The whole table has come: it replaces what the node held (R472). -/
def takeTable (r : Nat) (s : State) : State :=
  let v := role r s
  let d := ((List.range v.gotN).map (fun i => tget (fun _ => []) v.got i)).flatten
  let s := setRole r { v with got := [], gotN := 0 } s
  let s := setRoles (readTable d.length d { s.roles with leases := [], census := [] } s.hub.now) s
  if roleOwn r s = 2 then becomeStandby r s else s

/-- A TABLE segment at the appointed node: acknowledged, and taken once all have come. -/
def tableSeg (r : Nat) (f : Frame) (s : State) : State :=
  let i := frByte 4 f + 256 * frByte 5 f
  let v := role r s
  let got := tset (fun _ => []) v.got i ((authBody f).drop 8)
  let n := if frByte 6 f % 2 = 1 then i + 1 else v.gotN
  let s := setRole r { v with got := got, gotN := n } s
  let s := sendRole f.src 0x26 240 (ep4 (frEpoch f) ++ leBytes 2 i ++ [b8 (frByte 6 f), 1]) s
  if n ≠ 0 && (List.range n).all (fun j => got.any (fun e => e.1 = j)) then takeTable r s else s

/-- A segment acknowledged at the active holder (R466, R473). -/
def tableAck (r : Nat) (f : Frame) (s : State) : State :=
  let i := frByte 4 f + 256 * frByte 5 f
  let v := role r s
  let acked := if v.acked.contains i then v.acked else v.acked ++ [i]
  let full := (List.range v.segs).all (fun j => acked.contains j) && v.segs != 0
  let s := setRole r { v with acked := acked, synced := v.synced || full, witAck := v.witAck && !full } s
  if full && r = 0 then locksGo s else s

/-- TABLE names no role: the one whose epoch and parties it fits. -/
def tableRole (f : Frame) (s : State) : Option Nat :=
  [0, 1].find? (fun r => frEpoch f == epochOf r s &&
    (if frByte 7 f % 2 = 1 then roleOwn r s == 4 && (role r s).stby == f.src
     else (roleOwn r s == 2 || roleOwn r s == 3) && roleActive r s == f.src))

def table (ring : Nat) (f : Frame) (s : State) : State :=
  if !isRole 0x26 f then s
  else match authFrame ring f s with
    | (false, s) => s
    | (true, s) => match tableRole f s with
      | none => s
      | some r => if frByte 7 f % 2 = 1 then tableAck r f s else tableSeg r f s

/-- 10 ms without the whole table acknowledged (R466). -/
def passOver (r : Nat) (s : State) : State :=
  let v := role r s
  if roleOwn r s ≠ 4 || v.stby = 0 || v.synced || !pairM s then s
  else
    let s := vacate r s
    fillStandby r (setRole r { role r s with passed := v.passed ++ [v.stby] } s)

/-- SWAP_REQ at the standby (R474). -/
def swapReq (ring : Nat) (f : Frame) (s : State) : State :=
  if !isRole 0x28 f then s
  else match authFrame ring f s with
    | (false, s) => s
    | (true, s) =>
      let r := frRole f
      if 2 ≤ r then s
      else match fromHolder r (frEpoch f) f.src s with
        | (false, s) => s
        | (true, s) => if roleOwn r s ≠ 3 then s else if takeBlocked r s then block r s else sendTake r true s

/-- ROLE_SWAP_TIMEOUT: no new epoch after 10 ms (R474). -/
def swapTimeout (r : Nat) (s : State) : State :=
  match swapJob r s with
  | none => s
  | some (m, i) =>
    if roleOwn r s = 2 || !(jobAt m i s).any (fun j => j.since + 10000000 ≤ s.hub.now) then s
    else
      let s := setRole r { role r s with hand := false } s
      let s := raise 245 (w32 r) (roleEvt 6 r (rd s (roleState r)) s)
      endJob m i 3 2 0x95 [] s

/-- One step of a handover job (R474): the final table; then the heartbeats with HANDOVER and SWAP_REQ, past which it cannot be
cancelled. -/
def swapStep (m : Nat) (j : Job) (r : Nat) (s : State) : State :=
  if !pairM s then s else
  let v := role r s
  let s := putJob m { j with steps := j.steps + 1, fixed := j.fixed || j.steps == 1 } s
  if j.steps = 0 then sendTable r s
  else if j.steps = 1 then
    let s := heartbeatSend r (setRole r { v with hand := true } s)
    sendRole v.stby 0x28 16 (ep4 (epochOf r s) ++ [b8 r]) s
  else s

/-! ## Census and size (R476, R477) -/

def ownCensus (s : State) : CensusEnt :=
  { status := ringStatusVal s, seen := (List.range 16).map (fun i => seenVal i s),
    roles := w32 (roleOwn 0 s + 16 * roleOwn 1 s + 65536 * (rf s roleCfg 17 16)), at_ := s.hub.now }

def putCensus (n : Nat) (e : Option CensusEnt) (s : State) : State :=
  setRoles { s.roles with census := tset (fun _ => none) s.roles.census n e } s

/-- CENSUS_RPT_SEND: the body's last word holds OWN of both roles and the CAP bits. -/
def censusSend (s : State) : State :=
  if !pairM s then s
  else
    let e := ownCensus s
    let body := wordBytes e.status ++ e.seen.flatMap wordBytes ++ wordBytes e.roles
    sendRole 255 0x24 72 body (putCensus (ownNode s) (some e) s)

def censusRpt (ring : Nat) (f : Frame) (s : State) : State :=
  if !isRole 0x24 f then s
  else match authFrame ring f s with
    | (false, s) => s
    | (true, s) =>
      let e : CensusEnt := { status := wordAt f.payload 0, seen := bytesWords 16 (f.payload.drop 4), roles := wordAt f.payload 68, at_ := s.hub.now }
      let clear (r : Nat) (s : State) : State := setRole r { role r s with passed := (role r s).passed.filter (fun n => n ≠ f.src) } s
      fillStandby 1 (fillStandby 0 (clear 1 (clear 0 (putCensus f.src (some e) s))))

/-- NODE_ABSENT: no report for 30 ms (R476). -/
def nodeAbsent (n : Nat) (s : State) : State :=
  let out (r : Nat) (s : State) : State := if roleOwn r s = 4 && (role r s).stby = n then fillStandby r (vacate r s) else s
  match tget (fun _ => none) s.roles.census n with
  | some c => if pairM s && c.at_ + 30000000 ≤ s.hub.now then out 1 (out 0 (putCensus n none s)) else s
  | none => s

def presentCount (s : State) : Nat := (s.roles.census.filter (fun e => e.2.isSome)).length
def sizeValue (s : State) : Nat := max (presentCount s) (rf s roleCfg 15 8)

def sizeSetSend (s : State) : State :=
  if !acting 0 s then s
  else
    let n := sizeValue s
    sendRole 255 0x25 16 (ep4 (epochOf 0 s) ++ [b8 n]) (wf ringCfg 7 0 n s)

def sizeSet (ring : Nat) (f : Frame) (s : State) : State :=
  if !isRole 0x25 f then s
  else match authFrame ring f s with
    | (false, s) => s
    | (true, s) => match fromHolder 0 (frEpoch f) f.src s with
      | (false, s) => s
      | (true, s) => wf ringCfg 7 0 (frByte 4 f) s

/-! ## Commands (R487) -/

/-- What every role command needs (R451, R483): pair M, and a key in slot 0. -/
def roleCmd (m : Nat) (f : State → State) (s : State) : State :=
  if !pairM s then kcBusy m s else if (keySlot 0 s).key.isNone then kcRefuse m 0x90 [] (wr roleReason 0x90 s) else f s

def roleCfgBad (v own : Nat) : Nat :=
  let w := bitsOf v 31 24
  if bitsOf v 7 4 < 3 || bitsOf v 15 8 < 2 || 254 < bitsOf v 15 8 then 5
  else if bitsOf v 17 16 ≠ 0 && (w == 0 || w == own) then 0x92
  else if w = 0 then 0x92 else 0

/-- ROLE_SET CONFIG (R487, R491). -/
def roleSetConfig (m : Nat) (raw : List Byte) (s : State) : State :=
  if fld (par raw 0) 3 0 = 2 || fld (par raw 0) 3 0 = 3 then s
  else if !pairM s then kcBusy m s
  else if fld (par raw 0) 3 0 ≠ 1 then kcRefuse m 5 [] s
  else
    let v := par raw 1
    let c := roleCfgBad v.toNat (ownNode s)
    let c := if c = 5 then 5 else if (keySlot 0 s).key.isNone then 0x90 else c
    let s := wr roleReason (w32 c) s
    if c ≠ 0 then kcRefuse m c [] s
    else kcOk m [] (roleRefresh 1 (roleRefresh 0 (stm roleCfg 0xFF83FFF0#32 v s)))

/-- ROLE_SET GRANT and DENY (R469, R487). -/
def roleSetHost (m op : Nat) (raw : List Byte) (s : State) : State :=
  if fld (par raw 0) 3 0 ≠ op then s
  else roleCmd m (fun s =>
    let r := fld (par raw 1) 0 0
    match (role r s).host with
    | none => kcRefuse m 0x9A [] (wr roleReason 0x9A s)
    | some h =>
      if !isWitness s then kcRefuse m 0x9A [] (wr roleReason 0x9A s)
      else kcOk m [] (if op = 2 then witGrant r h.node s else witRefuse r h.node s)) s

/-- ROLE_SWAP (R474). -/
def kcRoleSwap (m : Nat) (raw : List Byte) (s : State) : State :=
  roleCmd m (fun s =>
    let r := fld (par raw 0) 0 0
    if roleOwn r s ≠ 4 then kcRefuse m 0x94 [] (wr roleReason 0x94 s)
    else if !(role r s).synced then kcRefuse m 0x93 [] (wr roleReason 0x93 s)
    else startJob m (.roleSwap r) raw s) s

/-- Send or send again the LEASE frame of a waiting command. -/
def leaseSend (w : LeaseWait) (s : State) : State :=
  let f := leaseFrame w.arb w.op w.tag (leaseBody w.res (ownNode s) w.sess w.d 0 0 0)
  if w.arb = ownNode s then leaseRequest w.op w.arb w.tag { f with src := w.arb } s else (sendAuth f s).2

/-- LEASE_ACQUIRE, LEASE_RENEW, LEASE_RELEASE (R481, R487). -/
def kcLease (m op : Nat) (raw : List Byte) (s : State) : State :=
  roleCmd m (fun s =>
    let res := par raw 0
    let d := if op = 3 then 0 else (par raw 1).toNat
    let arb := if fld res 31 24 = 1 then roleActive 0 s else fld res 23 16
    if op ≠ 3 && (d < 1 || 60000 < d) then kcRefuse m 5 [] s
    else if !resValid res then kcRefuse m (if op = 1 then 0x98 else 0x97) [] s
    else if arb = 0 || arb = 255 then kcRefuse m 0x96 [] s
    else
      let w : LeaseWait := { sess := m, since := s.hub.now, op := op, res := res, d := d, tag := s.roles.nextTag, tb := tb0 s, arb := arb }
      leaseSend w (setRoles { s.roles with waits := s.roles.waits ++ [w], nextTag := (s.roles.nextTag + 1) % 1024 } s)) s

/-- LEASE_REQUEST_REPEAT: 200 µs without an answer (R481). -/
def leaseRepeat (m : Nat) (s : State) : State :=
  match s.roles.waits.find? (fun w => w.sess = m) with
  | none => s
  | some w => if pairM s then leaseSend w s else s

/-- LEASE_ANSWER_TIMEOUT: 2 ms without an answer (R481). -/
def leaseTimeout (m : Nat) (s : State) : State :=
  if s.roles.waits.any (fun w => w.sess == m && w.since + 2000000 ≤ s.hub.now) then kcRefuse m 0x96 [] (dropWait m s) else s

def releaseList (m : Nat) : List (Word × Nat × Nat) → State → State
  | [], s => s
  | e :: t, s =>
    let w : LeaseWait := { sess := m, since := s.hub.now, op := 3, res := e.1, d := 0, tag := s.roles.nextTag, tb := tb0 s, arb := e.2.2 }
    releaseList m t (leaseSend w (setRoles { s.roles with nextTag := (s.roles.nextTag + 1) % 1024 } s))

/-- A session closes: every lease held through it is released (R481); without pair M, which carries the requests, a lease ends by its
expiry (R26). -/
def releaseLeases (m : Nat) (s : State) : State :=
  let l := if pairM s then s.roles.mine.filter (fun e => e.2.1 = m) else []
  releaseList m l (dropWait m (setRoles { s.roles with mine := s.roles.mine.filter (fun e => e.2.1 ≠ m) } s))

/-- One word of CENSUS_READ. -/
def censusWord (n : Nat) (e : CensusEnt) (s : State) : Word :=
  let b (i : Nat) := b2n (bit e.status i)
  w32 (n * 16777216 + b2n (seenOn n 0 s) * 0x800000 + b2n (seenOn n 1 s) * 0x400000 + b 2 * 0x200000 + b 3 * 0x100000
    + b 0 * 0x80000 + b 1 * 0x40000 + b2n (bit e.roles 16) * 0x20000 + b2n (bit e.roles 17) * 0x10000
    + min 255 ((s.hub.now - e.at_) / 1000000))

/-- CENSUS_READ (R487): the present nodes from `first` on, up to the count. -/
def kcCensusRead (m : Nat) (raw : List Byte) (s : State) : State :=
  roleCmd m (fun s =>
    let first := fld (par raw 0) 7 0
    let n := fld (par raw 0) 15 8
    if n = 0 || 250 < n then kcRefuse m 5 [] s
    else if roleOwn 0 s ≠ 4 && roleOwn 0 s ≠ 3 then kcRefuse m 0x99 [w32 (roleActive 0 s)] (wr roleReason 0x99 s)
    else
      let l := s.roles.census.filterMap (fun e => if first ≤ e.1 then e.2.map (fun v => censusWord e.1 v s) else none)
      let head := [rd s (roleEpoch 0), w32 (rf s (roleState 0) 23 16 * 16777216 + roleActive 0 s * 65536 + rf s ringCfg 7 0 * 256 + presentCount s % 256)]
      kcOk m (head ++ l.take n) s) s

/-! ## Pair M out of service (R26, R32, R475) -/

/-- A node whose pair M has restarted takes part in a role only as IDLE: what it held of the role is gone. What it knows as witness
stays. -/
def roleStop (r : Nat) (s : State) : State :=
  let s := if roleOwn r s = 4 && r = 1 then dropMaster s else s
  let v := role r s
  let s := setRole r { v with hand := false, stby := 0, synced := false, asked := none, host := none, got := [], gotN := 0, segs := 0,
                              acked := [], passed := [] } s
  if roleOwn r s ≤ 1 then s else setOwn r (restState r s) s

/-- Pair M goes out of service. -/
def pairMStop (s : State) : State :=
  roleStop 1 (roleStop 0 (wb hubStatus 1 false (setRoles { s.roles with locks := [] } s)))

end Sys2Proof.Machine
end

