-- ==== Sys2Proof/Machine/Pbp.lean ====
section
/-! DEFINITION. The parallel backplane bridge (chapter 10): outbound requests and their cycles, prefetch buffers, inbound
cycles, the crossing rule, interrupt levels and sideband wires. -/
namespace Sys2Proof.Machine
open Sys2Proof

/-! ## Registers and events -/

def setPbp (v : PbpSt) (s : State) : State := { s with pbp := v }

/-- The bridge serves cycles: enabled, RUN = 1, no node safe state (R387). -/
def pbpRuns (s : State) : Bool := rb s pbpCtl 0 && dataPath s
def pbpVme (s : State) : Bool := rf s pbpCfg 1 0 == 1
def pbpArb (s : State) : Bool := rf s pbpCfg 8 7 == 1
def pbpOwn (s : State) : Bool := rb s pbpStatus 30
def pbpHold (s : State) : Bool := rb s pbpStatus 29
def pbpAct (s : State) : Bool := rb s pbpStatus 28
/-- Strobe-timed profile with RTY_N in use. -/
def pbpRty (s : State) : Bool := !pbpVme s && rb s pbpCfg 16

/-- Event bit `i`, with its notice (R392). -/
def pbpEvt (i : Nat) (s : State) : State :=
  unitEvent pbpEvtR (pbpReg 0x00C) i 16 0 (rd s (if i = 0 || i = 2 then pbpReg 0x038 else pbpStatus)) s

/-- Outbound and inbound window registers: enabled, SIZE, ATTR. -/
def winOEn (w : Nat) (s : State) : Bool := rb s (winO w 0) 0
def winIEn (i : Nat) (s : State) : Bool := rb s (winI i 0) 0
/-- Start and size of outbound window `w` (R370), and of inbound window `i` on the backplane (R377). -/
def winOStart (w : Nat) (s : State) : Nat := 0x010000000000 + rf s (winO w 0x08) 27 0 * 4096
def winOSize (w : Nat) (s : State) : Nat := 2 ^ rf s (winO w 0x0C) 5 0
def winIBase (i : Nat) (s : State) : Nat := rf s (winI i 0x08) 31 12 * 4096
def winISize (i : Nat) (s : State) : Nat := 2 ^ rf s (winI i 0x0C) 5 0
/-- Target offset of inbound window `i` (R377). -/
def winITgt (i : Nat) (s : State) : Nat := rf s (winI i 0x14) 23 0 * 2 ^ 32 + rf s (winI i 0x10) 31 12 * 4096

/-- The IACK area (R370, R386). -/
def iackBase : Nat := 0x01FFFFFFF000

/-- Outbound window that covers an offset (R370). -/
def winOf' (addr : Nat) (s : State) : Option Nat :=
  (List.range 16).find? (fun w => winOEn w s && winOStart w s ≤ addr && addr < winOStart w s + winOSize w s)

/-! ## Byte lanes (R369) -/

/-- XOR mask of a SWAP field. -/
def swapMask (n : Nat) : Nat := if n = 1 then 1 else if n = 2 then 3 else 0

/-- Bit position of the lane of backplane byte `a` in a cycle of `w` bytes. -/
def laneOf (w a : Nat) (s : State) : Nat :=
  if pbpVme s then (if w = 4 then 24 - 8 * (a % 4) else if a % 2 = 0 then 8 else 0)
  else 8 * (a % 2 ^ rf s pbpCfg 3 2)

/-- Data lanes of fabric bytes `d` at fabric address `addr`, in one cycle of `w` bytes. -/
def packLanes (w k addr : Nat) : List Byte → State → Nat
  | [], _ => 0
  | b :: t, s => b.toNat * 2 ^ laneOf w (addr ^^^ k) s ||| packLanes w k (addr + 1) t s

/-- The fabric bytes at `addr` that a cycle of `w` bytes brings on its data lanes. -/
def unpackLanes (w k : Nat) (lanes : Word) (s : State) : Nat → Nat → List Byte
  | _, 0 => []
  | addr, n + 1 => BitVec.ofNat 8 (lanes.toNat / 2 ^ laneOf w (addr ^^^ k) s) :: unpackLanes w k lanes s (addr + 1) n

/-! ## Outbound requests (R370–R374) -/

/-- Width of the cycles of an access in bytes (R371). -/
def cycleWidth (w : Nat) (count : Nat) (s : State) : Nat := min count (2 ^ rf s (winO w 0x14) 1 0)

/-- The access is legal in outbound window `w` (R371). -/
def winLegal (w : Nat) (a : Access) (s : State) : Bool :=
  let dw := rf s (winO w 0x14) 1 0
  let split := rb s (winO w 0x14) 7
  a.count == 1 || (a.count == 2 && (1 ≤ dw || split)) || (a.count == 4 && (2 ≤ dw || split)) || (8 ≤ a.count && split)

/-- A cycle the hub runs: fabric address, its backplane address, its width, and its byte lane mask. -/
structure Cyc where
  fab : Nat
  bus : Nat
  w   : Nat
  k   : Nat
  deriving DecidableEq, Repr

/-- Prefetching read (R375). -/
def isPf (q : OutReq) (s : State) : Bool :=
  match q.win with
  | some w => q.acc.kind == .rd && rb s (winO w 0x14) 6
  | none => false

def pfBuf (w : Nat) (s : State) : Option PfBuf := tget (fun _ => none) s.pbp.pf w
def setPf (w : Nat) (v : Option PfBuf) (s : State) : State :=
  wb (winO w 0x04) 8 v.isSome (setPbp { s.pbp with pf := tset (fun _ => none) s.pbp.pf w v } s)

/-- The buffer of window `w` holds fabric byte `addr`. -/
def pfHas (w addr : Nat) (s : State) : Bool :=
  match pfBuf w s with
  | some b => b.off ≤ addr && addr < b.off + b.bytes.length
  | none => false

def popcount : Nat → Nat → Nat
  | 0, _ => 0
  | k + 1, n => n % 2 + popcount k (n / 2)

/-- Invalidate the buffer of window `w`; fetched bytes that no OK completion returned are a counted discard (R376). -/
def pfDrop (w : Nat) (s : State) : State :=
  match pfBuf w s with
  | none => s
  | some b =>
    let s := setPf w none s
    let n := b.bytes.length - popcount 64 b.ret
    if n = 0 then s
    else blot 0x13 0 (w32 (w + 256 * n)) (w32 b.addr) 0 (pbpEvt 6 (bump (pbpReg 0x098) 1 s))

def pfDropAll : List Nat → State → State
  | [], s => s
  | w :: t, s => pfDropAll t (pfDrop w s)

/-- Backplane address of a fabric address of window `w` (R370). -/
def busAddr (w addr : Nat) (s : State) : Nat := rf s (winO w 0x10) 31 12 * 4096 + (addr - winOStart w s)

/-- Bytes `addr` on of the valid buffer of window `w`, at most `n`. -/
def pfTake (w addr n : Nat) (s : State) : List Byte :=
  match pfBuf w s with
  | some b => if b.off ≤ addr then (b.bytes.drop (addr - b.off)).take n else []
  | none => []

/-- Mark bytes of the buffer as returned in an OK completion (R376). -/
def pfReturned (w addr n : Nat) (s : State) : State :=
  match pfBuf w s with
  | none => s
  | some b =>
    let lo := addr - b.off
    let hi := min 64 (addr + n - b.off)
    setPf w (some { b with ret := b.ret ||| ((2 ^ (hi - lo) - 1) * 2 ^ lo) }) s

/-- Drop the oldest outbound request; with the last one an arbitrated bus is released (R368). -/
def outPop (s : State) : State :=
  let todo := s.pbp.todo.drop 1
  let s := setPbp { s.pbp with todo := todo } s
  if todo.isEmpty && pbpArb s then wb pbpStatus 30 false s else s

/-- A write with no open completion has failed (R373). -/
def writeFailed (q : OutReq) (st : Status) (s : State) : State :=
  let w := q.win.getD 0
  let wd := cycleWidth w q.acc.count s
  let at_ := busAddr w (q.acc.addr + wd * q.done) s
  let s := match q.org with
    | .pcie _ _ => if q.posted then s else errLog false (ownNode s) q.acc st s
    | _ => s
  let s := raise 161 (w32 (w + 256 * st.code)) (pbpEvt 3 (bump (pbpReg 0x090) 1 s))
  blot 0x12 0 (w32 (w + 256 * st.code)) (w32 at_) 0 s

/-- Outcome of an IACK cycle of the level its address names (R386, R396). `id` is the value read. -/
def iackNote (a : Access) (st : Status) (id : Word) (s : State) : State :=
  let n := (a.addr - iackBase) / 8
  let sz := if a.count = 1 then 0 else if a.count = 2 then 1 else 2
  wr (pbpReg (0x060 + 4 * (n - 1))) (w32 (0x80000000 + sz * 2 ^ 29 + st.code * 2 ^ 20 + id.toNat % 65536)) s

/-- The oldest outbound request ends with a status: what is counted, answered and recorded (R372, R373, R386). -/
def outEnd (st : Status) (s : State) : State :=
  match s.pbp.todo with
  | [] => s
  | q :: _ =>
    let ran := pbpAct s
    let s := wb pbpStatus 28 false s
    let s := if q.told then s else bump (pbpReg 0x080) 1 s
    let s := outPop s
    if q.told then s
    else if q.posted || q.acc.kind = .wrP then
      let s := if q.posted then freeHead (640 + q.win.getD 0) s else s
      if st = .ok then s else writeFailed q st s
    else
      let s := match q.win with
        | none =>
          if st = .ok then iackNote q.acc st (wordAt q.got 0) s
          else if !ran then s
          else let (x, s) := fresh s; iackNote q.acc st x s
        | some w => if st = .ok && isPf q s then pfReturned w q.acc.addr q.acc.count s else s
      answer q.org q.acc st (if st = .ok then q.got else []) s

/-- A far-side error or timeout is counted (R372, R374). -/
def cntFail (st : Status) (s : State) : State :=
  if st = .fe then bump (pbpReg 0x088) 1 s else if st = .ft then bump (pbpReg 0x08C) 1 s else s

/-- A read whose next bytes lie in the buffer takes them; with its last byte it is answered (R375). -/
def pfServe (s : State) : State :=
  match s.pbp.todo with
  | q :: rest =>
    match q.win with
    | some w =>
      if isPf q s && !q.told then
        let q' := { q with got := q.got ++ pfTake w (q.acc.addr + q.got.length) (q.acc.count - q.got.length) s }
        setPbp { s.pbp with todo := q' :: rest } s
      else s
    | none => s
  | [] => s

/-- The bytes of the block under fetch are complete. -/
def pfFull (w : Nat) (s : State) : Bool :=
  match pfBuf w s with | some b => b.bytes.length == 64 | none => true

/-- A read that has all its bytes is answered at once; its fetch goes on to the end of the block, and the request is
forgotten then (R375). -/
def pfFinish (s : State) : State :=
  match s.pbp.todo with
  | q :: rest =>
    match q.win with
    | some w =>
      if isPf q s && q.got.length = q.acc.count then
        if pfFull w s || q.done = 0 then outEnd .ok s
        else if q.told then s
        else
          let s := bump (pbpReg 0x080) 1 (pfReturned w q.acc.addr q.acc.count s)
          let s := setPbp { s.pbp with todo := { q with told := true } :: rest } s
          answer q.org q.acc .ok q.got s
      else s
    | none => s
  | [] => s

/-- Reads at the head that need no cycle are answered from the buffer, in order. -/
def pfHits : Nat → State → State
  | 0, s => s
  | n + 1, s =>
    match s.pbp.todo with
    | q :: _ =>
      match q.win with
      | some w =>
        if isPf q s && q.done = 0 && !q.told && (List.range q.acc.count).all (fun i => pfHas w (q.acc.addr + i) s) then
          pfHits n (pfFinish (pfServe s))
        else s
      | none => s
    | [] => s

/-- The next cycle of the oldest request, and the request as it then stands (R371, R375, R386). A prefetching read that
needs a byte outside the buffer starts a new block, and the buffer is invalidated; a write invalidates it first. -/
def nextCyc (q : OutReq) (s : State) : Cyc × OutReq × State :=
  match q.win with
  | none =>
    let n := (q.acc.addr - iackBase) / 8
    (⟨q.acc.addr, if pbpVme s then 2 * n + q.acc.count % 2 else n, q.acc.count, 0⟩, q, s)
  | some w =>
    let k := swapMask (rf s (winO w 0x14) 3 2)
    if isPf q s then
      let wd := 2 ^ rf s (winO w 0x14) 1 0
      let next := q.acc.addr + q.got.length
      let blk := next / 64 * 64
      let (q, s) := if q.done = 0 || (!q.told && pfFull w s) then
          ({ q with done := 0 }, setPf w (some ⟨blk, busAddr w blk s, [], 0⟩) (pfDrop w s))
        else (q, s)
      let b := (pfBuf w s).getD ⟨blk, 0, [], 0⟩
      let fab := b.off + b.bytes.length
      (⟨fab, busAddr w ((fab ^^^ k) / wd * wd) s, wd, k⟩, q, s)
    else
      let s := if q.acc.kind = .rd then s else pfDrop w s
      let wd := cycleWidth w q.acc.count s
      let fab := q.acc.addr + wd * q.done
      (⟨fab, busAddr w ((fab ^^^ k) / wd * wd) s, wd, k⟩, q, s)

/-- Data lanes of a write cycle. -/
def cycData (q : OutReq) (c : Cyc) (s : State) : Nat :=
  if q.acc.kind = .rd then 0 else packLanes c.w c.k c.fab ((q.acc.data.drop (c.fab - q.acc.addr)).take c.w) s

/-- The lengths of a cycle's phases in PORT clocks. VMEbus-compatible: address before AS_N, AS_N to DS_N, acknowledge to DS_N rising,
DS_N to AS_N, AS_N to address released (R366). Strobe-timed: address of a multiplexed bus, setup, strobe, hold (R367). -/
def cyclePhases (s : State) : List Nat :=
  let g := rd s (pbpReg 0x014)
  if pbpVme s then [8, 2, 3, 2, 2]
  else [if rb s pbpCfg 6 then fld g 31 24 + fld g 23 16 else 0, fld g 7 0, fld g 15 8, fld g 23 16]

/-- Clocks of turnaround for a cycle: a direction line changes, ADIR and CDIR to outward or DDIR to the cycle's direction (R363,
R394). -/
def turnClocks (write : Bool) (s : State) : Nat :=
  if (pin 466 s).out && (pin 468 s).out == write then 0 else max 1 (rf s pbpCfg 15 12)

/-- The posted write at the head waits in its queue with an uncorrectable error in its cells (R165). -/
def postedBad (s : State) : Option Nat :=
  match s.pbp.todo with
  | q :: _ => if q.posted && (queue (640 + q.win.getD 0) s).items.head?.any itemBad then some (640 + q.win.getD 0) else none
  | [] => none

/-- PBP_OUTBOUND_CYCLE_START: the next cycle of the oldest request, once the hub has the bus (R368, R372). A sole master
owns it with its first cycle. -/
def pbpCycleStart (s : State) : State :=
  let s := if pbpAct s then s else pfServe (pfHits s.pbp.todo.length s)
  if !pbpRuns s || pbpHold s || pbpAct s || (pbpArb s && !pbpOwn s) then s
  else match postedBad s with
  | some u => meetBad u s
  | none =>
  match s.pbp.todo with
  | [] => s
  | q :: rest =>
    let (c, q, s) := nextCyc q s
    let am := match q.win with | some w => rf s (winO w 0x14) 31 26 | none => 0
    let s := wb pbpStatus 28 true (wb pbpStatus 30 true s)
    let write := q.acc.kind != .rd
    let ev := PbpBus.cycle q.win.isNone write c.bus am c.w (w32 (cycData q c s)) (turnClocks write s) (cyclePhases s)
    setPbp { s.pbp with todo := q :: rest, bus := s.pbp.bus ++ [ev] } s

/-- The request at the head has run its last cycle. -/
def outDone (q : OutReq) (s : State) : Bool :=
  match q.win with
  | none => q.done == 1
  | some w => q.done * cycleWidth w q.acc.count s == q.acc.count

/-- PBP_CYCLE_ACK: the cycle ends, and a read takes its data from the lanes (R366, R369). -/
def pbpCycleAck (lanes : Word) (s : State) : State :=
  match s.pbp.todo with
  | [] => s
  | q :: rest =>
    if !pbpAct s then s
    else match q.win with
    | none =>
      let q := { q with done := 1, got := leBytes q.acc.count lanes.toNat }
      outEnd .ok (setPbp { s.pbp with todo := q :: rest } s)
    | some w =>
      let k := swapMask (rf s (winO w 0x14) 3 2)
      let s := wb pbpStatus 28 false s
      if isPf q s && (pfBuf w s).isNone then
        if q.told then outEnd .ok s else setPbp { s.pbp with todo := { q with done := 0 } :: rest } s
      else if isPf q s then
        let b := (pfBuf w s).getD ⟨q.acc.addr, 0, [], 0⟩
        let wd := 2 ^ rf s (winO w 0x14) 1 0
        let s := setPf w (some { b with bytes := b.bytes ++ unpackLanes wd k lanes s (b.off + b.bytes.length) wd }) s
        let s := pfServe (setPbp { s.pbp with todo := { q with done := q.done + 1 } :: rest } s)
        let q := s.pbp.todo.headD q
        if q.late && !q.told && q.got.length ≠ q.acc.count then outEnd .ft (cntFail .ft s) else pfFinish s
      else
        let wd := cycleWidth w q.acc.count s
        let d := if q.acc.kind = .rd then unpackLanes wd k lanes s (q.acc.addr + wd * q.done) wd else []
        let q := { q with done := q.done + 1, got := q.got ++ d }
        let s := setPbp { s.pbp with todo := q :: rest } s
        if outDone q s then outEnd .ok s else if q.late then outEnd .ft (cntFail .ft s) else s

/-- A cycle fails with FE or FT: the request stops at it (R371, R372). -/
def pbpCycleFail (st : Status) (s : State) : State := if pbpAct s then outEnd st (cntFail st s) else s

/-- PBP_CYCLE_RETRY: the hub repeats the cycle (R367). -/
def pbpCycleRetry (s : State) : State :=
  match s.pbp.todo with
  | [] => s
  | q :: rest =>
    if !pbpAct s || !pbpRty s then s
    else
      match s.pbp.bus.filter (fun e => match e with | .cycle .. => true | _ => false) |>.getLast? with
      | some ev => setPbp { s.pbp with todo := q :: rest, bus := s.pbp.bus ++ [ev] } s
      | none => s

/-- PBP_BUS_GRANT: BGIN_N low with BBSY_N high while the hub requests (R368). -/
def pbpBusGrant (s : State) : State :=
  if pbpRuns s && pbpArb s && !pbpHold s && !s.pbp.todo.isEmpty then wb pbpStatus 30 true s else s

/-- Take request `i` out of the order and end it FT; a posted one is a failed write (R368, R373). -/
def dropReq (i : Nat) (st : Status) (s : State) : State :=
  match nthD none (s.pbp.todo.map some) i with
  | none => s
  | some q =>
    if i = 0 then outEnd st s
    else
      let s := setPbp { s.pbp with todo := s.pbp.todo.eraseIdx i } s
      let s := bump (pbpReg 0x080) 1 s
      if q.posted || q.acc.kind = .wrP then
        let s := if q.posted then
            let w := 640 + q.win.getD 0
            let before := (s.pbp.todo.take i).countP (fun x => x.posted && x.win == q.win)
            putQueue w { queue w s with items := (queue w s).items.eraseIdx before } s
          else s
        writeFailed q st s
      else answer q.org q.acc st [] s

/-- PBP_ARB_TIMEOUT: request `i` has not started its first cycle within PBP_ARB_LIMIT of its arrival (R368). -/
def pbpArbTimeout (i : Nat) (s : State) : State :=
  match nthD none (s.pbp.todo.map some) i with
  | none => s
  | some q =>
    if q.done ≠ 0 || q.told || (i = 0 && pbpAct s) then s
    else dropReq i .ft (pbpEvt 8 (bump (pbpReg 0x0B0) 1 s))

/-- PBP_REQUEST_LIMIT: non-posted request `i` has been open for 10 ms (R374): it ends at its next cycle boundary. -/
def pbpRequestLimit (i : Nat) (s : State) : State :=
  match nthD none (s.pbp.todo.map some) i with
  | none => s
  | some q =>
    if q.posted || q.acc.kind = .wrP || q.told then s
    else if i = 0 && pbpAct s then setPbp { s.pbp with todo := setNth s.pbp.todo 0 { q with late := true } } s
    else dropReq i .ft (cntFail .ft s)

/-! ## Inbound cycles (R377–R379) -/

/-- End the held cycle on the backplane: 0 acknowledge, 1 error, 2 retry (R377, R379). -/
def endHeld (how : Nat) (lanes : Word) (s : State) : State :=
  wb pbpStatus 29 false (setPbp { s.pbp with held := none, bus := s.pbp.bus ++ [.ended how lanes] } s)

/-- The held cycle ends unfinished: a retry where the profile has one, else an error. -/
def breakHeld (s : State) : State := endHeld (if pbpRty s then 2 else 1) 0 s

/-- PBP_HOLD_LIMIT_EXPIRE (R379), and the end of a held cycle in safe state or reset (R387). -/
def pbpHoldEnd (s : State) : State :=
  match s.pbp.held with
  | none => s
  | some h => raise 162 (w32 h.win) (pbpEvt 4 (bump (pbpReg 0x09C) 1 (breakHeld s)))

/-- AM codes an AS admits (R365). -/
def amOk (as am : Nat) : Bool :=
  (as == 0 && (am == 0x29 || am == 0x2D)) || (as == 1 && (am == 0x39 || am == 0x3A || am == 0x3D || am == 0x3E)) ||
  (as == 2 && (am == 0x09 || am == 0x0A || am == 0x0D || am == 0x0E))

/-- Address bits an AS, or the width AW of a strobe-timed bus, carries. -/
def asBits (n : Nat) : Nat := if n = 0 then 16 else if n = 1 then 24 else 32

/-- Inbound window `i` decodes a cycle (R365, R377). -/
def winDecodes (i addr am width : Nat) (s : State) : Bool :=
  let at_ := rd s (winI i 0x18)
  let as := fld at_ 25 24
  let a := addr % 2 ^ (if pbpVme s then asBits as else asBits (rf s pbpCfg 5 4))
  winIEn i s && width ≤ 2 ^ fld at_ 1 0 &&
  (!pbpVme s || (if bit at_ 16 then amOk as am else am == fld at_ 31 26)) &&
  winIBase i s ≤ a && a < winIBase i s + winISize i s

/-- The posted write held is admitted to Q(656+i): its cycle ends, and it joins the writes to send (R378). -/
def postHeld (s : State) : State :=
  match s.pbp.held with
  | none => s
  | some h =>
    if h.acc.kind ≠ .wrP then s
    else match putItem (656 + h.win) { bytes := h.acc.data } s with
      | (false, s) => s
      | (true, s) => endHeld 0 0 (setPbp { s.pbp with posts := s.pbp.posts ++ [(h.win, h.node, h.acc)] } s)

/-- PBP_INBOUND_DECODE: a cycle of another master that an inbound window decodes is held (R377, R378). `width` is in
bytes. -/
def pbpInbound (addr am width : Nat) (write : Bool) (lanes : Word) (s : State) : State :=
  if !pbpRuns s || !pbpArb s || pbpOwn s || pbpHold s || !(width == 1 || width == 2 || width == 4) || addr % width ≠ 0 then s
  else match (List.range 8).find? (fun i => winDecodes i addr am width s) with
  | none => s
  | some i =>
    let at_ := rd s (winI i 0x18)
    let k := swapMask (fld at_ 3 2)
    let a := addr % 2 ^ (if pbpVme s then asBits (fld at_ 25 24) else asBits (rf s pbpCfg 5 4))
    let off := (a ^^^ k) / width * width - winIBase i s
    let fab := (winITgt i s + off) % 2 ^ 56
    let kind := if !write then AccKind.rd else if bit at_ 5 then .wrP else .wrN
    let data := if write then unpackLanes width k lanes s fab width else []
    let s := wb pbpStatus 29 true (bump (pbpReg 0x084) 1 s)
    let h : HeldIn := ⟨i, rf s (winI i 0x14) 31 24, ⟨kind, fab, width, data⟩, false⟩
    postHeld (setPbp { s.pbp with held := some h } s)

/-- PBP_INBOUND_COMPLETE: the completion of the inbound request outstanding (R377, R379). -/
def pbpInboundDone (w : Nat) (st : Status) (d : List Byte) (s : State) : State :=
  let read := match s.pbp.out with | some (_, r) => r | none => false
  let s := setPbp { s.pbp with out := none, result := none } s
  let late (s : State) : State := returnOrg (.bridge w) (if read then bump (pbpReg 0x0A0) 1 s else s)
  match s.pbp.held with
  | none => late s
  | some h =>
    if !h.issued then late s
    else if st = .ok then
      let k := swapMask (rf s (winI h.win 0x18) 3 2)
      commitOrg (.bridge w) (endHeld 0 (w32 (packLanes h.acc.count k h.acc.addr d s)) s)
    else endHeld 1 0 (bump (pbpReg 0x0A4) 1 s)

/-! ## Outbound arrival and the crossing rule (R370–R372, R380, R381) -/

/-- A crossing: the bridge holds its backplane for an access that waits on the ring or for its queue, and the request
comes from another node (R380, R381). -/
def crosses (o : Origin) (s : State) : Bool :=
  match s.pbp.held, o with
  | some h, .ring src _ => src != ownNode s && (h.acc.kind == .wrP || (h.node != 0 && h.node != ownNode s))
  | _, _ => false

/-- Take a request into the bridge's order; a write through a posted window is admitted to Q(640+w) or refused (R372). -/
def outAdmit (o : Origin) (a : Access) (win : Option Nat) (s : State) : State :=
  let posted := match win with | some w => a.kind != .rd && rb s (winO w 0x14) 5 | none => false
  let push (s : State) : State := setPbp { s.pbp with todo := s.pbp.todo ++ [{ org := o, acc := a, win := win, posted := posted }] } s
  if posted then
    match putItem (640 + win.getD 0) { bytes := a.data.take a.count } s with
    | (true, s) => answer o a .ok [] (push s)
    | (false, s) => answer o a .busy [] (pbpEvt 7 (bump (pbpReg 0x094) 1 s))
  else
    let s := push s
    let s := if s.pbp.todo.length = 1 then pfHits 1 s else s
    if a.kind = .wrP && isLocal o then complete o (ownNode s) a .ok [] s else s

/-- A request arrives in the bridge's part of the node-local map. -/
def pbpRequest (o : Origin) (a : Access) (s : State) : State :=
  let iack := iackBase ≤ a.addr && a.addr < iackBase + 4096
  let win := winOf' a.addr s
  if !iack && win.isNone then answer o a .ur [] s
  else if iack && a.kind ≠ .rd then answer o a .ua [] s
  else if iack && !(rb s pbpCtl 0 && a.addr % 8 = 0 && iackBase + 8 ≤ a.addr && a.addr ≤ iackBase + 56 &&
      (a.count == 1 || a.count == 2 || a.count == 4)) then answer o a .ur [] s
  else if !iack && !winLegal (win.getD 0) a s then answer o a .ua [] s
  else if !dataPath s then answer o a .busy [] s
  else if crosses o s then
    let src := orgNode o s
    if src < ownNode s then
      let w := match s.pbp.held with | some h => h.win | none => 0
      let s := raise 165 (w32 (w + 256 * src)) (pbpEvt 5 (bump (pbpReg 0x0A8) 1 (breakHeld s)))
      outAdmit o a win s
    else answer o a .busy [] (bump (pbpReg 0x0AC) 1 s)
  else outAdmit o a win s

/-! ## Safe state, reset, enable (R387–R390) -/

/-- The bridge releases the backplane: the held cycle ends as at the hold limit, the cycle under way ends FT (R387). -/
def pbpRelease (s : State) : State :=
  let s := pbpHoldEnd s
  let s := if pbpAct s then outEnd .ft s else s
  wb pbpStatus 30 false s

/-- Node safe state (R387, R376). -/
def pbpSafe (s : State) : State := if rb s pbpCtl 0 then pfDropAll (List.range 16) (pbpRelease s) else s

/-- Requests waiting without a posted write complete BUSY at a unit reset (R34). -/
def outBusy : List OutReq → State → State
  | [], s => s
  | q :: t, s => outBusy t (if q.posted then s else if q.acc.kind = .wrP then refuseP q.org q.acc .busy s else answer q.org q.acc .busy [] s)

def winClear : List Nat → State → State
  | [], s => s
  | k :: t, s => winClear t (wb k 0 false s)

/-- Pins the configuration claims (R362), in ascending order of the table. -/
def pbpPins (s : State) : List Nat :=
  let vme := pbpVme s
  let dw := rf s pbpCfg 3 2
  let aw := rf s pbpCfg 5 4
  let mux := !vme && rb s pbpCfg 6
  let arb := pbpArb s
  let sb := (List.range 8).filterMap (fun k => if rb s (pbpReg (0x040 + 4 * k)) 31 then some (rf s (pbpReg (0x040 + 4 * k)) 8 0) else none)
  List.range' 384 8 ++ (if 1 ≤ dw then List.range' 392 8 else []) ++ (if dw = 2 then List.range' 400 16 else []) ++
  (if mux then [] else List.range' 416 16 ++ (if 1 ≤ aw then List.range' 432 8 else []) ++ (if aw = 2 then List.range' 440 8 else [])) ++
  List.range' 448 6 ++ (if pbpRty s then [454] else []) ++ [455] ++ (if vme || 1 ≤ dw then List.range' 456 6 else []) ++
  (if arb then [462, 463, 465] else []) ++ (if vme && arb then [464] else []) ++ List.range' 466 5 ++ List.range' 471 7 ++ sb

/-- The bridge check (R389): 0 = pass. -/
def pbpCheck (s : State) : Nat :=
  let c := rd s pbpCfg
  let g := rd s (pbpReg 0x014)
  let prof := fld c 1 0
  let dw := fld c 3 2
  let aw := fld c 5 4
  let out (o hi lim : Nat) : Bool := rf s (pbpReg o) hi 0 == 0 || lim < rf s (pbpReg o) hi 0
  let ps := pbpPins s
  if rb s pbpStatus 31 then 0x5E
  else if prof = 0 || prof = 3 || (prof = 1 && dw = 0) || 2 ≤ fld c 8 7 || aw = 3 || dw = 3 then 0x50
  else if prof = 2 && (fld g 31 24 = 0 || fld g 23 16 = 0 || fld g 15 8 = 0 || fld g 7 0 = 0 || (bit c 6 && 8 * 2 ^ dw < asBits aw)) then 0x51
  else if out 0x018 9 1000 || out 0x01C 9 1000 || out 0x020 13 10000 || out 0x024 9 1000 then 0x05
  else if ps.any (fun p => pinClaimed p s) then 0x01
  else if ps.any (fun p => pinFiveVt p s) then 0x03
  else if ps.any (fun p => pinVioBad p false s) then 0x02
  else 0

def claimAll : List Nat → State → State
  | [], s => s
  | p :: t, s => claimAll t (claimPin p 4 0 0 s)

def releaseAll : List Nat → State → State
  | [], s => s
  | p :: t, s => releaseAll t (if owner p s = 4 then releasePin p s else s)

/-- PBP_CTL.EN written 1 (R389). -/
def pbpStart (s : State) : State :=
  if rb s pbpCtl 0 then s
  else
    let c := pbpCheck s
    let s := wf pbpStatus 7 0 c s
    if c = 0 then claimAll (pbpPins s) (wb pbpCtl 0 true s) else s

/-- Unit reset: EN written 0, or quarantine (R388, R34, R196). Wire levels received and sent are forgotten with it. -/
def pbpReset (s : State) : State :=
  let s := returnWhere (unitValue 0x400000 0x402000 (List.range' 640 32)) s
  let s := pfDropAll (List.range 16) (pbpRelease s)
  let waiting := s.pbp.todo
  let s := setPbp { s.pbp with todo := waiting.filter (fun q => q.posted), wsent := 0, rxGen := none } s
  let s := outBusy waiting s
  let s := wr (pbpReg 0x038) 0 (wr (pbpReg 0x03C) 0 s)
  let s := winClear ((List.range 16).map (fun w => winO w 0) ++ (List.range 8).map (fun i => winI i 0)) s
  wb pbpCtl 0 false (releaseAll (List.range 512) s)

def pbpStop (s : State) : State := if rb s pbpCtl 0 then pbpReset s else s

/-- A write of PBP_CTL (R389, R388). -/
def pbpCtlWrite (v : Word) (s : State) : State := if bit v 0 then pbpStart s else pbpStop s

/-- Quarantine of the bridge (R388). -/
def pbpQuar (s : State) : State := wb pbpStatus 31 true (pbpReset s)

/-- Two ranges overlap. -/
def overlaps (a n b m : Nat) : Bool := a < b + m && b < a + n

/-- The window check (R390): 0 = pass. `inb` says inbound. -/
def winCheck (inb : Bool) (w : Nat) (s : State) : Nat :=
  let at_ := if inb then rd s (winI w 0x18) else rd s (winO w 0x14)
  let as := fld at_ 25 24
  let lg := if inb then rf s (winI w 0x0C) 5 0 else rf s (winO w 0x0C) 5 0
  let n := 2 ^ lg
  let start := if inb then winIBase w s else rf s (winO w 0x08) 27 0 * 4096
  let tgt := if inb then winITgt w s else rf s (winO w 0x10) 31 12 * 4096
  let node := rf s (winI w 0x14) 31 24
  let clash := if inb then
      (List.range 8).any (fun i => i != w && winIEn i s && rf s (winI i 0x18) 25 24 == as && overlaps start n (winIBase i s) (winISize i s))
    else (List.range 16).any (fun i => i != w && winOEn i s && overlaps (start + 0x010000000000) n (winOStart i s) (winOSize i s))
  if !rb s pbpCtl 0 then 0x57
  else if lg < 12 || 32 < lg || (as = 0 && 16 < lg) || (as = 1 && 24 < lg) || start % n ≠ 0 || tgt % n ≠ 0 ||
      (!inb && 0xFFFFFFF000 < start + n) then 0x53
  else if clash then 0x54
  else if (pbpVme s && (as = 3 || rf s pbpCfg 5 4 < as || !amOk as (fld at_ 31 26))) || (inb && rf s pbpCfg 8 7 = 0) then 0x55
  else if rf s pbpCfg 3 2 < fld at_ 1 0 || fld at_ 3 2 = 3 then 0x56
  else if inb && (node = 255 || ((node = 0 || node = ownNode s) && 0x010000000000 < tgt + n && tgt < 0x020000000000)) then 0x58
  else 0

/-- A window's EN written 1: the check, its result in the window's REASON (R390). -/
def winStart (inb : Bool) (w : Nat) (s : State) : State :=
  let ctl := if inb then winI w 0 else winO w 0
  if rb s ctl 0 then s
  else
    let c := winCheck inb w s
    let s := wf (if inb then winI w 0x04 else winO w 0x04) 7 0 c s
    if c = 0 then wb ctl 0 true s else s

/-- A window's EN written 0 (R376). -/
def winStop (inb : Bool) (w : Nat) (s : State) : State :=
  if inb then wb (winI w 0) 0 false s else pfDrop w (wb (winO w 0) 0 false s)

def winCtlWrite (inb : Bool) (w : Nat) (v : Word) (s : State) : State := if bit v 0 then winStart inb w s else winStop inb w s

/-- PBP_PREFETCH_AGE of a buffer whose fetch is over (R376). -/
def pbpPrefetchAge (w : Nat) (s : State) : State :=
  match s.pbp.todo with
  | q :: _ => if q.win = some w && q.done ≠ 0 then s else pfDrop w s
  | [] => pfDrop w s

/-! ## Interrupt levels and sideband wires (R382–R384) -/

/-- Levels to send: IRQ1–IRQ7 asserted, and the sideband inputs; a line driven from received levels is sent as 0 (R383). -/
def wireLevels (s : State) : Nat :=
  let irq := (List.range 7).map (fun n => if rb s (pbpReg 0x030) (16 + n) || (pin (471 + n) s).f then 0 else 2 ^ n)
  let sb := (List.range 8).map (fun k =>
    let r := pbpReg (0x040 + 4 * k)
    if rb s r 31 && !rb s (pbpReg 0x034) k && (pin (rf s r 8 0) s).f then 2 ^ (7 + k) else 0)
  sumN irq + sumN sb

/-- Send a WIRE frame with the present levels, which PBP_WIRE_LOCAL then shows (R382, R383, R393). -/
def wireSend (s : State) : State :=
  let l := wireLevels s
  let dst := rf s (pbpReg 0x030) 7 0
  if !pbpRuns s || dst = 0 then s
  else
    let pl := leBytes 2 l ++ leBytes 2 (l ^^^ s.pbp.wsent) ++ leBytes 4 s.pbp.wgen
    let s := (originate (mkFrame dst 6 0 0 1 pl) (wr (pbpReg 0x038) (w32 l) s)).2
    setPbp { s.pbp with wgen := (s.pbp.wgen + 1) % 4294967296, wsent := l } s

/-- WIRE_LEVEL_CHANGE: PBP_WIRE_LOCAL follows the levels, an IRQ input that changed is an event, a change is sent (R383,
R392, R395). -/
def wireChange (s : State) : State :=
  let l := wireLevels s
  let old := rf s (pbpReg 0x038) 14 0
  if !pbpRuns s || l = old then s
  else
    let s := wr (pbpReg 0x038) (w32 l) s
    wireSend (if l % 128 = old % 128 then s else pbpEvt 0 s)

/-- A WIRE frame the duplicate filter accepted (R384). -/
def wireAccept (f : Frame) (s : State) : State :=
  let src := rf s (pbpReg 0x030) 15 8
  let gen := leNat ((f.payload.drop 4).take 4)
  let newer := match s.pbp.rxGen with
    | none => true
    | some g => let d := (gen + 4294967296 - g) % 4294967296; d ≠ 0 && d < 2147483648
  if !rb s pbpCtl 0 || src = 0 || f.src ≠ src || !newer then s
  else
    let l := leNat (f.payload.take 2) % 32768
    let old := rf s (pbpReg 0x03C) 14 0
    let s := wr (pbpReg 0x03C) (w32 (0x80000000 + l)) (setPbp { s.pbp with rxGen := some gen } s)
    if l = old then s else pbpEvt 2 s

/-- WIRE_FRAME delivered on ring `r`. -/
def wireFrame (r : Nat) (f : Frame) (s : State) : State :=
  if !addressed f s then s
  else if f.typ ≠ 6 || destBad f || f.addr ≠ 1 || f.len ≠ 1 then cntRing 0x068 r 1 s
  else match dupFilter r f true s with
    | (true, s) => wireAccept f s
    | (false, s) => s

/-- WIRE_LOST: 400 µs without an accepted frame (R384). -/
def wireLost (s : State) : State :=
  if !rb s (pbpReg 0x03C) 31 then s
  else
    let s := bump (pbpReg 0x0B4) 1 (wb (pbpReg 0x03C) 31 false s)
    raise 163 (w32 (256 * rf s (pbpReg 0x030) 15 8)) (pbpEvt 1 s)

/-! ## Pins (R362, R363, R384, R386) -/

/-- The cycle the hub runs now: interrupt acknowledge, write, address, AM, width, data lanes. -/
def cycleNow (s : State) : Option (Bool × Bool × Nat × Nat × Nat × Nat) :=
  if !pbpAct s then none
  else match (s.pbp.bus.filter (fun e => match e with | .cycle .. => true | _ => false)).getLast? with
    | some (.cycle iack write addr am w lanes _ _) => some (iack, write, addr, am, w, lanes.toNat)
    | _ => none

/-- Lanes of a cycle that carry a byte, as BE_N[3:0] active high (R369). -/
def beMask (addr w : Nat) (s : State) : Nat := ((2 ^ w - 1) * 2 ^ (addr % 2 ^ rf s pbpCfg 3 2)) % 16

/-- What the bridge drives on pin `p`: output enable and level. `own` that the hub owns the bus, `c` its cycle. -/
def bridgePin (own : Bool) (c : Option (Bool × Bool × Nat × Nat × Nat × Nat)) (s : State) (p : Nat) : Bool × Bool :=
  let vme := pbpVme s
  let mux := !vme && rb s pbpCfg 6
  let idle : Bool × Bool := (own, true)
  let low (b : Bool) : Bool × Bool := (b, false)
  let (iack, write, addr, am, w, lanes) := c.getD (false, false, 0, 0, 0, 0)
  let act := c.isSome
  let rx := rd s (pbpReg 0x03C)
  if p < 416 then (act && write, bitOf lanes (p - 384))
  else if p = 416 && vme then (act, act && w != 4)
  else if p < 448 then (act && !mux, bitOf addr (p - 416))
  else if p = 448 then if vme then (own, !act) else (own, false)
  else if p = 449 then (own, !(act && (if vme then w != 1 || addr % 2 = 1 else !write && !iack)))
  else if p = 450 then (own, !(act && (if vme then w != 1 || addr % 2 = 0 else write)))
  else if p = 451 then (own, !(act && (!vme || write)))
  else if p = 455 then (own, !(act && iack))
  else if 456 ≤ p && p < 462 then
    if vme then (act, bitOf am (p - 456)) else (act && p < 460, !bitOf (beMask addr w s) (p - 456))
  else if p = 462 then low (pbpArb s && !s.pbp.todo.isEmpty)
  else if p = 464 then (true, (pbpArb s && !s.pbp.todo.isEmpty) || (pin 463 s).f)
  else if p = 465 then low (pbpArb s && own)
  else if p = 466 || p = 470 then (true, own)
  else if p = 467 then (true, false)
  else if p = 468 then (true, (act && write) || s.pbp.held.any (fun h => h.acc.kind == .rd))
  else if p = 469 then (true, !(act || pbpHold s))
  else if 471 ≤ p && p < 478 then low (rb s (pbpReg 0x030) (16 + (p - 471)) && bit rx 31 && bit rx (p - 471))
  else if 454 ≤ p && p < 480 then (false, false)
  else idle

/-- A sideband output follows the received level, or SBLOST once they are lost (R384). -/
def sidePin (k : Nat) (s : State) : Bool × Bool :=
  let rx := rd s (pbpReg 0x03C)
  (rb s (pbpReg 0x034) k, if bit rx 31 then bit rx (7 + k) else rb s (pbpReg 0x034) (8 + k))

/-- The sideband line that pin `p` carries (R383). -/
def sideOf (p : Nat) (s : State) : Option Nat :=
  (List.range 8).find? (fun k => rb s (pbpReg (0x040 + 4 * k)) 31 && rf s (pbpReg (0x040 + 4 * k)) 8 0 == p)

/-- Output enable and level of pin `p` as the bridge drives it: a sideband line as it was received, a bus line as the cycle under way
needs it; an open-drain pin is not driven high (R197, R245). -/
def bridgeLevels (s : State) (p : Nat) : Bool × Bool :=
  let (oe, lvl) := match sideOf p s with
    | some k => sidePin k s
    | none => if p < 384 then (false, false) else if 452 ≤ p && p < 455 then (false, false) else bridgePin (pbpOwn s) (cycleNow s) s p
  (oe && !(rb s (xbPin p) 0 && lvl), lvl)

/-- Put what the bridge drives on every pin it owns. -/
def bridgeDrive : List Nat → State → State
  | [], s => s
  | p :: t, s =>
    if owner p s ≠ 4 then bridgeDrive t s
    else
      let d := bridgeLevels s p
      bridgeDrive t (drivePin p d.1 d.2 s)

/-- The bridge's pins, settled at the end of a command while it runs. -/
def bridgeSettle (s : State) : State := if pbpRuns s then bridgeDrive (List.range 512) s else s

end Sys2Proof.Machine
end

