-- ==== Sys2Proof/Machine/Power.lean ====
section
/-! DEFINITION. Power (chapter 16): the companion's feeds, slots, sequencing and temperature, the die-to-die link, the NV-write
inhibit, the standby counter and load shedding. -/
namespace Sys2Proof.Machine
open Sys2Proof

def setPwr (v : PwrSt) (s : State) : State := { s with pwr := v }
def setHub (v : HubSt) (s : State) : State := { s with hub := v }

/-! ## The companion's registers (R550) -/

/-- What the companion's register `k` holds, and its change. PWR_EVT and PWR_STATUS.INFAIL have a companion side of their own. -/
def crd (s : State) (k : Nat) : Word := tget resetOf s.pwr.comp k
def cwr (k : Nat) (v : Word) (s : State) : State := setPwr { s.pwr with comp := tset resetOf s.pwr.comp k v } s
def crf (s : State) (k hi lo : Nat) : Nat := fld (crd s k) hi lo
def crb (s : State) (k i : Nat) : Bool := bit (crd s k) i
def cwf (k hi lo v : Nat) (s : State) : State := cwr k (setFld (crd s k) hi lo v) s
def cwb (k i : Nat) (b : Bool) (s : State) : State := cwr k (setBit (crd s k) i b) s
def cbump (k n : Nat) (s : State) : State := cwr k (satAdd (crd s k) n) s

/-- The die-to-die link is up (R23). -/
def d2dUp (s : State) : Bool := rb s hubStatus 2

/-- The companion has something to report. Records of a link loss are summed instead (R578). -/
def report (e : CompEv) (s : State) : State :=
  match e with
  | .rcd typ _ _ _ =>
    if d2dUp s then setPwr { s.pwr with evq := s.pwr.evq ++ [e] } s
    else if typ = 0x40 then setPwr { s.pwr with lostTrip := s.pwr.lostTrip + 1 } s
    else if typ = 0x42 then setPwr { s.pwr with lostFeed := s.pwr.lostFeed + 1 } s
    else s
  | _ => setPwr { s.pwr with evq := s.pwr.evq ++ [e] } s

/-- Event bit `i` of the companion's unit `unit` (event register `ev`, mask `nm`): a bit that turns 1 while its mask bit is
1 makes a notice (R579). -/
def compEvt (ev nm unit i : Nat) (s : State) : State :=
  if crb s ev i then s
  else
    let s := cwb ev i true s
    if crb s nm i then report (.evt unit i) s else s

def feedEvt (x i : Nat) (s : State) : State := compEvt (feedReg x 0x08) (feedReg x 0x0C) (8 + x) i s
def slotEvt (n i : Nat) (s : State) : State := compEvt (slotReg' n 0x08) (slotReg' n 0x0C) n i s
def pwrCompEvt (i : Nat) (s : State) : State := compEvt pwrEvtR (pwrReg 0x008) 10 i s

/-- An event of the logic side: PWR_EVT bits 2, 6 and 7 (R550, R579). -/
def pwrEvt (i : Nat) (s : State) : State := unitEvent pwrEvtR (pwrReg 0x008) i 19 10 (rd s pwrStatus) s

/-! ## The boot record and the journal in MRAM (R585, R599) -/

/-- Write the boot record in force: over the copy that is not the one a reader would use (R585). -/
def rcdStore (s : State) : State :=
  let b := s.boot
  let keep := ((b.copies.find? (fun c => !c.bad)) <|> b.copies.head?).getD {}
  nvWrote { s with boot := { b with copies := [{ rcd := b.rcd, place := 1 - keep.place }, keep], rcdDue := false } }

/-- Write the counts in force as the entry after the newest one (R599). -/
def jnlStore (s : State) : State :=
  let b := s.boot
  let newest := ((b.ring.find? (fun e => !e.bad)) <|> b.ring.head?).getD { place := 255 }
  let e : JEntry := { cnt := b.jnl, place := (newest.place + 1) % 256 }
  nvWrote { s with boot := { b with ring := e :: b.ring.filter (fun x => x.place != e.place), jnlDue := false } }

/-! ## The NV-write inhibit and the standby counter (R570, R572, R420) -/

/-- The standby counter now: XTAL32 periods since it was loaded or restarted, 32768 in a second (R572). -/
def stbyNow (s : State) : Nat := (s.pwr.stby + (s.hub.now - s.pwr.stbyAt) * 32768 / 1000000000) % 2 ^ 48

/-- Load the standby counter, which is then valid (R572), its oscillator running. -/
def stbyLoad (n : Nat) (s : State) : State :=
  wb (pwrReg 0x020) 0 true (wb (pwrReg 0x020) 1 true (setPwr { s.pwr with stby := n % 2 ^ 48, stbyAt := s.hub.now } s))

/-- STBY_COUNTER_REFRESH: pair M writes TB0 into the counter while TB0 is LOCKED or MASTER (R420). -/
def stbyRefresh (s : State) : State :=
  if rb s hubStatus 1 && !unlocked s then stbyLoad ((tb0 s).toNat * 32768 / 1000000000) s else s

/-- STBY_COUNTER_INVALID: VSTBY has fallen, or, with `osc` false, the oscillator has missed 4 periods; the counter restarts from 0
(R572). The spec names OSCOK without saying when it reads 1: here from a load on, until the oscillator misses (DESIGN CHOICE, log
entry 47). -/
def stbyInvalid (osc : Bool) (s : State) : State :=
  wb (pwrReg 0x020) 0 false (wb (pwrReg 0x020) 1 (osc && rb s (pwrReg 0x020) 1) (setPwr { s.pwr with stby := 0, stbyAt := s.hub.now } s))

/-- NV_INHIBIT_ENTER with the causes VCORE, V3P3, FEEDLOW in bits 0–2 (R570); the level bits of PWR_STATUS follow (R581). The entry to
FEEDLOW refreshes the standby counter (R420). -/
def nvEnter (causes : Nat) (s : State) : State :=
  let c := causes % 8
  let s := if bitOf c 2 && !s.hub.feedLow then stbyRefresh s else s
  let s := wb pwrStatus 30 (bitOf c 2) (setHub { s.hub with feedLow := bitOf c 2 } s)
  let s := wb pwrStatus 5 (bitOf c 0) (wb pwrStatus 6 (bitOf c 1) (setPwr { s.pwr with nvCause := c, nvAt := s.hub.now } s))
  if c = 0 || rb s pwrStatus 31 then s
  else raise 220 (w32 c) (pwrEvt 2 (bump (pwrReg 0x040) 1 (wb nvmStatus 31 true (wb pwrStatus 31 true s))))

/-- Boot-record and journal writes that waited for the end of the inhibit are made (R589). -/
def nvFlush (s : State) : State :=
  let s := if s.boot.rcdDue then rcdStore s else s
  if s.boot.jnlDue then jnlStore s else s

/-- NV_INHIBIT_END: the causes have been clear for 10 ms (R570, R529). FEEDLOW is the companion's own level. -/
def nvEnd (s : State) : State :=
  if s.hub.feedLow || !rb s pwrStatus 31 || s.hub.now < s.pwr.nvAt + 10000000 then s
  else
    let s := wb pwrStatus 5 false (wb pwrStatus 6 false (setPwr { s.pwr with nvCause := 0 } s))
    nvFlush (clearDue s.cph.slots (wb nvmStatus 31 false (wb pwrStatus 31 false s)))

/-- A write of PWR_STBY_SET_LO, and of PWR_STBY_SET_HI, which loads the counter (R572). -/
def stbySetLo (v : Word) (s : State) : State := setPwr { s.pwr with stbySet := v } s
def stbySetHi (v : Word) (s : State) : State := stbyLoad (fld v 15 0 * 2 ^ 32 + s.pwr.stbySet.toNat) s

/-- A read of PWR_STBY_CNT_LO captures the upper bits (R572). -/
def stbyReadLo (s : State) : Word × State := (w32 (stbyNow s), wr (pwrReg 0x028) (w32 (stbyNow s / 2 ^ 32 % 65536)) s)

/-- FEEDLOW as the companion drives it (R21, R555, R570): a change of its level changes the causes of the inhibit. -/
def feedLowWire (b : Bool) (s : State) : State :=
  if b = s.hub.feedLow then s else nvEnter (s.pwr.nvCause % 4 + 4 * b2n b) s

/-! ## Input feeds (R551–R556) -/

def feed (x : Nat) (s : State) : FeedSt := tget (fun _ => {}) s.pwr.feeds x
def setFeed (x : Nat) (v : FeedSt) (s : State) : State := setPwr { s.pwr with feeds := tset (fun _ => {}) s.pwr.feeds x v } s
def feedGood (x : Nat) (s : State) : Bool := crb s (feedReg x 0x04) 31
def feedV (x : Nat) (s : State) : Nat := crf s (feedReg x 0x20) 15 0
def feedUv (x : Nat) (s : State) : Nat := crf s (feedReg x 0x14) 15 0
def feedOv (x : Nat) (s : State) : Nat := crf s (feedReg x 0x14) 31 16

/-- FEED_CHANGE record (R578). -/
def feedChange (x cause : Nat) (s : State) : State :=
  report (.rcd 0x42 (w32 (x + 256 * b2n (feedGood x s) + 4096 * cause)) (w32 (feedV x s)) 0) s

/-- FEED_GOOD (R551). -/
def feedBecomesGood (x : Nat) (s : State) : State :=
  if feedGood x s then s
  else feedChange x 0 (feedEvt x 0 (cwb (feedReg x 0x04) 31 true (setFeed x { feed x s with inWin := 0, outWin := 0 } s)))

/-- FEED_LOST (R551). -/
def feedLost (x : Nat) (s : State) : State :=
  if !feedGood x s then s
  else
    let s := cwb (feedReg x 0x04) 31 false (setFeed x { feed x s with inWin := 0, outWin := 0 } s)
    let s := report (.flt (194 + x) (w32 (feedV x s))) (feedEvt x 1 (cbump (feedReg x 0x2C) 1 s))
    feedChange x (if crb s (feedReg x 0x04) 28 then 2 else 1) s

/-- A comparator of a lower, of an upper threshold `t` in mV: the hysteresis is 1 % of the threshold (R552). It is taken on the way
back: a value that has crossed the threshold has to come back past it by 1 % (DESIGN CHOICE, log entry 47). -/
def below (was : Bool) (v t : Nat) : Bool := if was then 100 * v < 101 * t else v < t
def above (was : Bool) (v t : Nat) : Bool := if was then 99 * t < 100 * v else t < v

/-- The ORing FET of feed `x` is on (R553). R553 has no row for a feed not GOOD beside one above OV, nor for a GOOD one with SHARE = 1
beside one not GOOD: both are ideal diodes (DESIGN CHOICE, log entry 47). -/
def orOn (x : Nat) (s : State) : Bool :=
  let o := 1 - x
  let v := feedV x s
  if crb s (feedReg x 0x04) 28 || !crb s (feedReg x 0) 0 || (feed x s).rev then false
  else if !feedGood x s then !feedGood o s && s.pwr.vfeed < v
  else if crb s (feedReg x 0x10) 0 && feedGood o s then true
  else s.pwr.vfeed < v

/-- Active sharing (R554): both feeds GOOD and enabled, SHARE on both, within 0.5 V. -/
def sharing (s : State) : Bool :=
  feedGood 0 s && feedGood 1 s && crb s (feedReg 0 0) 0 && crb s (feedReg 1 0) 0 &&
  crb s (feedReg 0 0x10) 0 && crb s (feedReg 1 0x10) 0 && feedV 0 s ≤ feedV 1 s + 500 && feedV 1 s ≤ feedV 0 s + 500

/-- Set ORON and SHARING of a feed from what was measured (R580). -/
def feedStatus (x : Nat) (s : State) : State :=
  let r := feedReg x 0x04
  cwb r 30 (orOn x s) (cwb r 29 (sharing s) s)

/-- FEED_OVERVOLTAGE: VIN above OV cuts the feed, whatever the other does (R553). -/
def feedOvervolt (x vin : Nat) (s : State) : State :=
  if vin ≤ feedOv x s then s
  else
    let s := cwf (feedReg x 0x20) 15 0 vin s
    let s := if crb s (feedReg x 0x04) 28 then s else feedEvt x 2 s
    feedStatus x (cwb (feedReg x 0x04) 28 true (cwb (feedReg x 0x04) 27 false s))

/-- FEED_REVERSE_CURRENT (R553). -/
def feedReverse (x : Nat) (s : State) : State :=
  if !crb s (feedReg x 0x04) 30 then s
  else
    let s := setFeed x { feed x s with rev := true, revOn := 0 } s
    let s := report (.flt (196 + x) 0) (feedEvt x 3 (cbump (feedReg x 0x28) 1 s))
    feedStatus x (feedChange x 3 s)

/-- FEED_REVERSE_RECOVER (R553). -/
def feedReverseEnd (x : Nat) (s : State) : State :=
  if (feed x s).rev then feedStatus x (setFeed x { feed x s with rev := false, revOn := 0 } s) else s

/-- FEED_IMBALANCE: A's share in % (R554). -/
def feedImbalance (share : Nat) (s : State) : State :=
  if !sharing s then s else report (.flt 198 (w32 (share % 256))) (feedEvt 1 4 (feedEvt 0 4 s))

/-- INFAIL_ENTER and INFAIL_END (R555). -/
def infailing (s : State) : Bool := crb s pwrStatus 29
def infailRecord (on : Bool) (s : State) : State :=
  report (.rcd 0x43 (w32 (b2n on)) (w32 (feedV 0 s)) (w32 (feedV 1 s))) s
def infailEnter (s : State) : State :=
  if infailing s then s
  else
    let s := cbump (pwrReg 0x044) 1 (cwb pwrStatus 29 true (setPwr { s.pwr with inf := 0 } s))
    infailRecord true (report (.flt 199 (w32 s.pwr.vfeed)) (pwrCompEvt 0 s))
def infailEnd (s : State) : State :=
  if !infailing s then s
  else infailRecord false (pwrCompEvt 1 (cwb pwrStatus 29 false (setPwr { s.pwr with inf := 0 } s)))

/-- The feed rule of R552, over a feed's window and thresholds. -/
def feedRule (win thr : Word) : Bool :=
  let uv := fld win 15 0
  let ov := fld win 31 16
  9000 ≤ uv && uv < fld thr 15 0 && fld thr 15 0 ≤ fld thr 31 16 && fld thr 31 16 < ov && ov ≤ 57000

def rshOk (v : Word) : Bool := 100 ≤ fld v 19 0 && fld v 19 0 ≤ 1000000

/-- Writes of FEED_CTL (R556), and of the checked registers (R552, R550). -/
def feedCtlWrite (x : Nat) (v : Word) (s : State) : State :=
  let r := feedReg x 0x04
  let was := crb s (feedReg x 0) 0
  if bit v 0 then
    if was then s
    else if !feedRule (crd s (feedReg x 0x14)) (crd s (feedReg x 0x18)) then cwf r 7 0 0x78 s
    else if !rshOk (crd s (feedReg x 0x1C)) then cwf r 7 0 0x7A s
    else feedStatus x (cwb (feedReg x 0) 0 true (cwf r 7 0 0 s))
  else if !was then s
  else if !feedGood (1 - x) s || !crb s (feedReg (1 - x) 0) 0 then cwf r 7 0 0x7B s
  else feedStatus x (cwb (feedReg x 0) 0 false s)

def feedWinWrite (x : Nat) (v : Word) (s : State) : State :=
  if feedRule v (crd s (feedReg x 0x18)) then cwr (feedReg x 0x14) v s else cwf (feedReg x 0x04) 7 0 0x78 s
def feedThrWrite (x : Nat) (v : Word) (s : State) : State :=
  if feedRule (crd s (feedReg x 0x14)) v then cwr (feedReg x 0x18) v s else cwf (feedReg x 0x04) 7 0 0x78 s
def feedRshWrite (x : Nat) (v : Word) (s : State) : State :=
  if rshOk v then cwr (feedReg x 0x1C) (v &&& 0xFFFFF#32) s else cwf (feedReg x 0x04) 7 0 0x7A s

/-- PWR_BUSWIN (R557). -/
def busWinWrite (v : Word) (s : State) : State :=
  if 9000 ≤ fld v 15 0 && fld v 15 0 < fld v 31 16 && fld v 31 16 ≤ 57000 then cwr (pwrReg 0x00C) v s else s

/-! ## Slot feeds (R557–R567) -/

def slot (n : Nat) (s : State) : SlotSt := tget (fun _ => {}) s.pwr.slots n
def setSlot (n : Nat) (v : SlotSt) (s : State) : State := setPwr { s.pwr with slots := tset (fun _ => {}) s.pwr.slots n v } s
/-- SLOT_STATUS.STATE: 0 OFF, 1 WAIT, 2 RAMP, 3 ON, 4 WARNOFF, 5 COOL, 6 LATCHED (R557). -/
def slotState (n : Nat) (s : State) : Nat := crf s (slotReg' n 0x04) 27 24
def slotTo (n st : Nat) (s : State) : State := cwf (slotReg' n 0x04) 27 24 st s
def slotPg (n : Nat) (s : State) : Bool := crb s (slotReg' n 0x04) 31
def slotOn (n : Nat) (s : State) : Bool := crb s (slotReg' n 0) 1
def slotEn (n : Nat) (s : State) : Bool := crb s (slotReg' n 0) 0
def slotCfgF (n hi lo : Nat) (s : State) : Nat := crf s (slotReg' n 0x10) hi lo

/-- SLOT_PG deasserts. -/
def pgDown (n : Nat) (s : State) : State :=
  if slotPg n s then slotEvt n 1 (cwb (slotReg' n 0x04) 31 false (setSlot n { slot n s with pgHeld := 0, under := 0 } s)) else s

/-- The gate turns off, SLOT_PG with it. -/
def gateOff (n : Nat) (s : State) : State :=
  pgDown n (setSlot n { slot n s with gate := false, ramped := false, limit := 0 } s)

/-- RAMP starts (R558): the gate is driven, START_TIMER and the on-time run from its first tick. -/
def rampStart (n : Nat) (s : State) : State :=
  slotTo n 2 (setSlot n { slot n s with gate := true, ramped := false, ontime := 0, limit := 0, cool := 0, wait := 0 } s)

/-- WAIT (R557): its count starts anew. -/
def slotWait (n : Nat) (s : State) : State := slotTo n 1 (setSlot n { slot n s with wait := 0 } s)

/-- OFF; a slot with EN = 1 and ON = 1 leaves it for WAIT (R557). -/
def slotOff (n : Nat) (s : State) : State :=
  let s := slotTo n 0 (gateOff n s)
  if slotEn n s && slotOn n s then slotWait n s else s

/-- The on-time is noted (R567). -/
def noteOntime (n : Nat) (s : State) : State := cwr (slotReg' n 0x2C) (satAdd 0 (slot n s).ontime) s

/-- The gate is driven in this state. -/
def gateState (st : Nat) : Bool := st == 2 || st == 3 || st == 4

/-- A trip of cause `c` (R566, R567, R578): counted, recorded, raised; the slot enters COOL or LATCHED, from WARNOFF OFF
(R564). `vout` is VOUT before the trip. Cause 5 waits for the temperature in COOL (R577; DESIGN CHOICE, log entry 47: the spec names
no state for it). A fast trip whose slot has been turned off before the tick that records it is recorded and changes no state. -/
def slotTrip (n c vout : Nat) (s : State) : State :=
  let was := slotState n s
  let t := (slot n s).ontime
  let s := gateOff n (noteOntime n s)
  let s := setSlot n { slot n s with fast := false } (cwf (slotReg' n 0x04) 15 12 c s)
  let s := slotEvt n 3 (cbump (slotReg' n 0x30) 1 s)
  let s := report (.rcd 0x40 (w32 (n + 256 * c)) (satAdd 0 t) (w32 vout)) s
  let s := report (.flt (200 + n) (w32 (c + 256 * min t 16777215))) s
  if was = 4 then slotOff n s
  else if !gateState was then s
  else if c = 5 then slotTo n 5 s
  else
    let r := crf s (slotReg' n 0x04) 23 16
    if r < slotCfgF n 23 16 s then slotTo n 5 (setSlot n { slot n s with cool := 10 * t } s)
    else
      let s := slotEvt n 4 (slotTo n 6 s)
      let s := report (.rcd 0x41 (w32 n) (w32 r) 0) s
      report (.flt (208 + n) (w32 r)) s

/-- SLOT_INSERTION_DELAY_END: INSDLY with the bus in window (R557). -/
def insertEnd (n : Nat) (s : State) : State := if slotState n s = 1 then rampStart n s else s

/-- SLOT_FAST_TRIP: the gate goes down at once; the trip is recorded in the next tick (R565). -/
def fastTrip (n : Nat) (s : State) : State :=
  if gateState (slotState n s) && (slot n s).gate then
    let s := pgDown n s
    setSlot n { slot n s with gate := false, fast := true } s
  else s

/-- SLOT_START_TIMER_EXPIRE (R566) and SLOT_FAULT_TIMER_EXPIRE (R562). -/
def startExpire (n : Nat) (s : State) : State :=
  if slotState n s = 2 then slotTrip n 2 (crf s (slotReg' n 0x24) 15 0) s else s
def faultExpire (n : Nat) (s : State) : State :=
  if slotState n s = 3 || slotState n s = 4 then slotTrip n 3 (crf s (slotReg' n 0x24) 15 0) s else s

/-- SLOT_COOLDOWN_END (R567). -/
def coolEnd (n : Nat) (s : State) : State :=
  if slotState n s = 5 && crf s (slotReg' n 0x04) 15 12 ≠ 5 then
    let r := crf s (slotReg' n 0x04) 23 16
    rampStart n (cbump (slotReg' n 0x38) 1 (cwf (slotReg' n 0x04) 23 16 (min 255 (r + 1)) s))
  else s

/-- SLOT_LEAD_END (R564). -/
def leadEnd (n : Nat) (s : State) : State := if slotState n s = 4 then slotOff n (noteOntime n s) else s

/-- SLOT_WARN_N has a cause (R563). -/
def warnCause (n : Nat) (s : State) : Bool :=
  (slot n s).limit ≠ 0 || slotState n s == 4 || (infailing s && crb s (slotReg' n 0x10) 31)

/-- SLOT_WARN_RELEASE (R563). -/
def warnRelease (n : Nat) (s : State) : State :=
  if warnCause n s then s else cwb (slotReg' n 0x04) 30 false (setSlot n { slot n s with warnEnd := 0 } s)

/-- SLOT_PG_UNDERVOLTAGE (R562): SLOT_PG deasserts, the gate stays on. -/
def pgUnder (n : Nat) (s : State) : State :=
  if slotPg n s && (slotState n s = 3 || slotState n s = 4) then slotEvt n 6 (pgDown n s) else s

/-- SLOT_RETRIES_CLEAR (R567). -/
def retriesClear (n : Nat) (s : State) : State := if slotPg n s then cwf (slotReg' n 0x04) 23 16 0 s else s

/-- SLOT_BUS_OVERVOLTAGE (R560). -/
def busOver (n : Nat) (s : State) : State :=
  if slotState n s = 2 || slotState n s = 3 then slotEvt n 5 (slotWait n (gateOff n (noteOntime n s))) else s

/-- SLOT_PG asserts, and a slot in RAMP is ON (R561). -/
def pgAssert (n : Nat) (s : State) : State :=
  slotEvt n 0 (slotTo n (if slotState n s = 2 then 3 else slotState n s) (cwb (slotReg' n 0x04) 31 true (setSlot n { slot n s with pgHeld := 0, under := 0 } s)))

/-- The levels of SLOT_PG[n] and SLOT_WARN_N[n] (R621): SLOT_PG is low unless asserted, SLOT_WARN_N is low while asserted; both are
held low in the companion's power-on reset. -/
def slotPgPin (n : Nat) (s : State) : Bool := !s.hub.cprst && slotPg n s
def slotWarnPin (n : Nat) (s : State) : Bool := !s.hub.cprst && !crb s (slotReg' n 0x04) 30

/-- The enable check of a slot (R574): 0 = pass. -/
def slotCheck (n : Nat) (s : State) : Nat :=
  let lim := crd s (slotReg' n 0x14)
  let tmr := crd s (slotReg' n 0x18)
  let ilim := fld lim 7 0
  let ft := if fld lim 23 16 = 0 then 2 * (250 * ilim) else 500 * fld lim 23 16
  let ramp := slotCfgF n 7 0 s
  let pg := slotCfgF n 15 8 s
  if ilim < 4 || 200 < ilim || ilim < fld lim 15 8 then 0x70
  else if ft ≤ 250 * ilim || 100000 < ft then 0x71
  else if fld tmr 31 16 = 0 || 10000 < fld tmr 31 16 || fld tmr 15 8 = 0 || fld tmr 7 0 = 0 || 1000 < crf s (slotReg' n 0x1C) 15 0 then 0x72
  else if ramp = 0 || pg < 50 || 99 < pg then 0x73
  else if !rshOk (crd s (slotReg' n 0x20)) then 0x74
  else if fld tmr 15 8 * (100 * ramp) ≤ crf s (pwrReg 0x00C) 31 16 then 0x75
  else 0

/-- SLOT_CTL.EN written (R574, R557). -/
def slotEnable (n : Nat) (s : State) : State :=
  if slotEn n s then s
  else
    let c := slotCheck n s
    let s := cwf (slotReg' n 0x04) 7 0 c s
    if c ≠ 0 then s
    else
      let s := cwb (slotReg' n 0) 0 true s
      if slotOn n s then slotWait n s else s
def slotDisable (n : Nat) (s : State) : State :=
  if slotEn n s then slotTo n 0 (gateOff n (noteOntime n (cwb (slotReg' n 0) 0 false s))) else s

/-- SLOT_CTL.ON written 1: RETRIES clears on 0 to 1, and an enabled slot leaves OFF (R557, R567). -/
def slotOnWrite (n : Nat) (s : State) : State :=
  let was := slotOn n s
  let s := cwb (slotReg' n 0) 1 true s
  let s := setPwr { s.pwr with shedN := s.pwr.shedN &&& (255 - 2 ^ n) } s
  let s := if was then s else cwf (slotReg' n 0x04) 23 16 0 s
  if slotEn n s && slotState n s = 0 then slotWait n s else s

/-- SLOT_CTL.ON written 0 (R564, R557). A slot in WAIT or COOL, of which the spec says nothing here, is OFF at once (DESIGN CHOICE, log
entry 47). -/
def slotOffWrite (n : Nat) (s : State) : State :=
  let s := cwb (slotReg' n 0) 1 false s
  let st := slotState n s
  if st = 3 then slotTo n 4 (cwb (slotReg' n 0x04) 30 true (setSlot n { slot n s with lead := 0 } s))
  else if st = 4 || st = 0 then s
  else if st = 2 then slotTo n 0 (gateOff n (noteOntime n s))
  else slotTo n 0 (gateOff n s)

/-- ON written 0 without the warning lead: the gate turns off at once, as by EN written 0 (R575). -/
def slotOffNow (n : Nat) (s : State) : State :=
  let s := cwb (slotReg' n 0) 1 false s
  slotTo n 0 (gateOff n (if gateState (slotState n s) then noteOntime n s else s))

/-- SLOT_CTL.RETRY written 1: RETRIES clears, and a LATCHED slot with ON = 1 leaves for WAIT (R557, R567). -/
def slotRetry (n : Nat) (s : State) : State :=
  let s := cwf (slotReg' n 0x04) 23 16 0 s
  if slotState n s = 6 && slotOn n s then slotWait n s else s

/-- A write of SLOT_CTL (R582): EN, then RETRY, then ON. -/
def slotCtlWrite (n : Nat) (v : Word) (s : State) : State :=
  let s := if bit v 0 then slotEnable n s else slotDisable n s
  let s := if bit v 2 then slotRetry n s else s
  if bit v 1 then slotOnWrite n s else if slotOn n s then slotOffWrite n s else s

/-! ## Temperature (R576, R577) -/

/-- COMPANION_TEMP_WARNING: above 140 °C. -/
def tempWarn (t : Int) (s : State) : State := report (.flt 217 (wOfInt (t % 65536))) (pwrCompEvt 4 s)

def tripAll : List Nat → State → State
  | [], s => s
  | n :: t, s => tripAll t (if gateState (slotState n s) then slotTrip n 5 (crf s (slotReg' n 0x24) 15 0) s else s)

/-- COMPANION_THERMAL_SHUTDOWN at 160 °C (R577): every gate goes off; one shutdown is reported until the temperature is below 140 °C. -/
def thermalShut (t : Int) (s : State) : State :=
  if s.pwr.hot then tripAll (List.range 8) s
  else report (.flt 218 (wOfInt (t % 65536))) (pwrCompEvt 5 (tripAll (List.range 8) (setPwr { s.pwr with hot := true } s)))

def rewait : List Nat → State → State
  | [], s => s
  | n :: t, s =>
    rewait t (if slotState n s = 5 && crf s (slotReg' n 0x04) 15 12 = 5 then (if slotOn n s then slotWait n s else slotTo n 0 s) else s)

/-- COMPANION_THERMAL_RECOVER below 140 °C (R577). -/
def thermalEnd (s : State) : State := if s.pwr.hot then rewait (List.range 8) (setPwr { s.pwr with hot := false } s) else s

/-! ## Carrier sequencing (R571) -/

def seqReg : Nat := pwrReg 0x014
def seqSt (s : State) : Nat := crf s seqReg 26 24
/-- USE, DELAY and TIMEOUT in ticks of the sequence that runs: PWR_SEQ_CFG as it was at its start. -/
def seqUse (s : State) : Nat := fld s.pwr.seqCfg 19 16
def seqDelay (s : State) : Nat := 1000 * fld s.pwr.seqCfg 15 8
def seqLimit (s : State) : Nat := 1000 * fld s.pwr.seqCfg 7 0
def seqOut (s : State) : Nat := crf s seqReg 19 16
def seqTo (st : Nat) (s : State) : State := cwf seqReg 26 24 st s

/-- A sequence, or a new try of one, starts with the PWR_SEQ_CFG of now (DEDUCED, log entry 47). -/
def seqBegin (s : State) : State := seqTo 1 (setPwr { s.pwr with seqCfg := crd s (pwrReg 0x010), seqK := 0, seqT := 0, seqG := 0 } s)

/-- The highest output that is asserted is deasserted; the next follows DELAY later, until none is left. -/
def seqDrop (s : State) : State :=
  match ((List.range 4).filter (fun k => bitOf (seqOut s) k)).getLast? with
  | none => setPwr { s.pwr with seqDn := false, seqT := 0 } s
  | some k =>
    let s := cwf seqReg (16 + k) (16 + k) 0 s
    setPwr { s.pwr with seqDn := seqOut s ≠ 0, seqT := 0 } s

/-- The next output to assert, and whether the one before it has a good input. -/
def seqNext (s : State) : Option Nat := (List.range 4).find? (fun k => s.pwr.seqK ≤ k && bitOf (seqUse s) k)
def seqReady (s : State) : Bool := (List.range 4).all (fun k => !bitOf (seqOut s) k || bitOf (crf s seqReg 3 0) k)

/-- Every used output is asserted and its input good: the sequence is done. -/
def seqDone (s : State) : State := if seqSt s = 1 && (seqNext s).isNone && seqReady s && !s.pwr.seqDn then seqTo 2 s else s

/-- CSEQ_OUTPUT_ASSERT: DELAY ms after the previous input is good; output 0 goes first, once one feed is GOOD. -/
def seqAssert (s : State) : State :=
  let st := seqSt s
  if !(st = 1 || (st = 0 && (feedGood 0 s || feedGood 1 s))) || s.hub.cprst || s.pwr.seqDn then s
  else
    let s := if st = 0 then cwf seqReg 21 20 0 (seqBegin s) else s
    if !seqReady s then s
    else match seqNext s with
    | none => seqDone s
    | some k => cwf seqReg (16 + k) (16 + k) 1 (setPwr { s.pwr with seqK := k + 1, seqT := 0, seqG := 0 } s)

/-- A sequence failure at output `k` (R571, R576, R578). -/
def seqFail (k : Nat) (s : State) : State :=
  let t := crf s seqReg 21 20
  report (.rcd 0x44 (w32 k) (w32 t) 0) (report (.flt 216 (w32 (k + 16 * t))) (pwrCompEvt 3 s))

/-- CSEQ_TIMEOUT: the last output's input is not good in time; up to three tries. -/
def seqTimeout (s : State) : State :=
  if seqSt s ≠ 1 || seqReady s then s
  else
    let k := s.pwr.seqK - 1
    let t := crf s seqReg 21 20 + 1
    let s := cwf seqReg 21 20 (min 3 t) (setPwr { s.pwr with seqK := 0, seqG := 0 } s)
    seqFail k (seqTo (if t < 3 then 3 else 4) (seqDrop s))

/-- CSEQ_RETRY: 1 s after a failure, the outputs all low. -/
def seqRetry (s : State) : State := if seqSt s = 3 && !s.pwr.seqDn then seqBegin s else s

/-- CSEQ_SHUTDOWN: both feeds below UV for 1 ms. -/
def seqShut (s : State) : State :=
  if feedV 0 s < feedUv 0 s && feedV 1 s < feedUv 1 s && seqSt s ≠ 4 && seqSt s ≠ 0 then
    seqTo 0 (seqDrop (setPwr { s.pwr with seqK := 0, seqG := 0, seqLow := 0 } s))
  else s

/-- CSEQ_PG_FALL: input `k` falls after the sequence has completed; no output changes. -/
def seqPgFall (k : Nat) (s : State) : State :=
  if seqSt s = 2 && k < 4 && bitOf (seqUse s) k then seqFail k (cwf seqReg k k 0 s) else s

/-- The timers of the sequence in one tick: a deassertion DELAY after the one before, the next output DELAY after its input, a
timeout, a new try after 1 s, and the shutdown after 1 ms with both feeds below UV. -/
def seqTimers (s : State) : State :=
  let low := if feedV 0 s < feedUv 0 s && feedV 1 s < feedUv 1 s then s.pwr.seqLow + 1 else 0
  let p := { s.pwr with seqLow := low, seqT := s.pwr.seqT + 1, seqG := if seqReady s then s.pwr.seqG + 1 else 0 }
  let s := setPwr p s
  if p.seqDn then (if seqDelay s ≤ p.seqT then seqDrop s else s)
  else if 1000 ≤ low then seqShut s
  else match seqSt s with
  | 0 => seqAssert s
  | 1 =>
    if (seqNext s).isNone then (if seqReady s then seqDone s else if seqLimit s ≤ p.seqT then seqTimeout s else s)
    else if seqOut s = 0 || seqDelay s ≤ p.seqG then seqAssert s
    else if !seqReady s && seqLimit s ≤ p.seqT then seqTimeout s
    else s
  | 3 => if 1000000 ≤ p.seqT then seqRetry s else s
  | _ => s

def seqFalls : List Nat → Nat → State → State
  | [], _, s => s
  | k :: t, pg, s => seqFalls t pg (if bitOf (crf s seqReg 3 0) k && !bitOf pg k then seqPgFall k s else s)

/-- Carrier sequencing in one tick, with the inputs as sampled. -/
def seqTick (pg : Nat) (s : State) : State := seqTimers (cwf seqReg 3 0 pg (seqFalls (List.range 4) pg s))

/-! ## The tick (R549) -/

/-- A mA value of a shunt voltage in µV over a shunt in µΩ (R559). -/
def milliAmps (uv : Int) (rsh : Nat) : Word := wOfInt (uv * 1000 / rsh)

/-- Step 1 for feed `x`: what was measured, its window counts, its FET (R551, R553). -/
def feedTick (x vin : Nat) (sns : Int) (s : State) : State :=
  let r := feedReg x 0x04
  let wasOv := crb s r 28
  let hi := above wasOv vin (feedOv x s)
  let lo := below (crb s r 27) vin (feedUv x s)
  let s := cwr (feedReg x 0x24) (milliAmps sns (crf s (feedReg x 0x1C) 19 0)) (cwf (feedReg x 0x20) 15 0 vin s)
  let s := cwb r 28 hi (cwb r 27 lo s)
  let s := if hi && !wasOv then feedEvt x 2 s else s
  let ok := !hi && !lo
  let f := feed x s
  let thr := crd s (feedReg x 0x18)
  let ew := below f.ewLow vin (fld thr 15 0)
  let f := { f with ewLow := ew, nvLow := below f.nvLow vin (fld thr 31 16), ewOk := if ew then 0 else f.ewOk + 1 }
  let s := if ok then
      let s := setFeed x { f with inWin := f.inWin + 1, outWin := 0 } s
      if 10000 ≤ f.inWin + 1 then feedBecomesGood x s else s
    else
      let s := setFeed x { f with inWin := 0, outWin := f.outWin + 1 } s
      if 2 ≤ f.outWin + 1 then feedLost x s else s
  let s := if sns < -1000 then feedReverse x s else s
  let f := feed x s
  if f.rev && s.pwr.vfeed + 50 < vin then
    if 10 ≤ f.revOn + 1 then feedReverseEnd x s else setFeed x { f with revOn := f.revOn + 1 } s
  else setFeed x { f with revOn := 0 } s

/-- Step 1 over both feeds: FETs, sharing, FEEDLOW and input failing (R553–R555). -/
def feedsTick (t : TickIn) (s : State) : State :=
  let win := crd s (pwrReg 0x00C)
  let s := setPwr { s.pwr with vfeed := t.vfeed, busHi := above s.pwr.busHi t.vfeed (fld win 31 16),
                               busLo := below s.pwr.busLo t.vfeed (fld win 15 0) } s
  let s := feedTick 1 t.vinB t.snsB (feedTick 0 t.vinA t.snsA s)
  let s := feedStatus 1 (feedStatus 0 s)
  let ia := max (crd s (feedReg 0 0x24)).toInt 0
  let ib := max (crd s (feedReg 1 0x24)).toInt 0
  let share := (ia * 100 / max (ia + ib) 1).toNat
  let f := feed 0 s
  let s := if sharing s && 0 < ia + ib && (share < 45 || 55 < share) then
      let s := setFeed 0 { f with imbal := f.imbal + 1 } s
      if f.imbal + 1 = 10000 then feedImbalance share s else s
    else setFeed 0 { f with imbal := 0 } s
  let s := feedLowWire ((feed 0 s).nvLow && (feed 1 s).nvLow) s
  if (feed 0 s).ewLow && (feed 1 s).ewLow then
    let s := setPwr { s.pwr with inf := s.pwr.inf + 1 } s
    if 2 ≤ s.pwr.inf then infailEnter s else s
  else
    let s := setPwr { s.pwr with inf := 0 } s
    if 1000 ≤ (feed 0 s).ewOk || 1000 ≤ (feed 1 s).ewOk then infailEnd s else s

/-- The limit in force in µV (R559). -/
def limitUv (n : Nat) (s : State) : Nat :=
  let w := crd s (slotReg' n 0x14)
  250 * (if slotState n s = 2 && fld w 15 8 ≠ 0 then fld w 15 8 else fld w 7 0)

/-- The fast-trip level in µV (R565). -/
def fastUv (n : Nat) (s : State) : Nat :=
  let w := crd s (slotReg' n 0x14)
  if fld w 23 16 = 0 then 500 * fld w 7 0 else 500 * fld w 23 16

/-- A slot's bus window, on-time, limit and timers in one tick: steps 2 and 3 (R557–R567). `was` is VOUT before it. -/
def slotTimers (n was : Nat) (i : SlotIn) (s : State) : State :=
  let st := slotState n s
  let k := slot n s
  let active := gateState st && k.gate && limitUv n s ≤ i.peak
  let began := active && !crb s (slotReg' n 0x04) 29
  let s := cwb (slotReg' n 0x04) 29 active s
  let s := if began then slotEvt n 2 (cbump (slotReg' n 0x34) 1 s) else s
  let s := if gateState st && k.gate then setSlot n { k with ontime := k.ontime + 1, ramped := k.ramped || i.full } s else s
  let k := slot n s
  if (st = 2 || st = 3) && s.pwr.busHi && k.gate then busOver n s
  else if k.fast || (gateState st && k.gate && fastUv n s ≤ i.peak) then slotTrip n 1 was s
  else if st = 2 then
    if 1000 * crf s (slotReg' n 0x18) 15 8 ≤ k.ontime then slotTrip n 2 was s else s
  else if st = 3 || st = 4 then
    let s := setSlot n { k with limit := if active then k.limit + 1 else 0, lead := if st = 4 then k.lead + 1 else 0 } s
    let k := slot n s
    if active && 100 * crf s (slotReg' n 0x18) 7 0 ≤ k.limit then slotTrip n 3 was s
    else if st = 4 && 1000 * crf s (slotReg' n 0x1C) 15 0 ≤ k.lead then leadEnd n s
    else s
  else if st = 1 then
    if !s.pwr.busHi && !s.pwr.busLo then
      let s := setSlot n { k with wait := k.wait + 1 } s
      if 1000 * crf s (slotReg' n 0x18) 31 16 ≤ k.wait + 1 then rampStart n s else s
    else setSlot n { k with wait := 0 } s
  else if st = 5 && crf s (slotReg' n 0x04) 15 12 ≠ 5 then
    if k.cool ≤ 1 then coolEnd n s else setSlot n { k with cool := k.cool - 1 } s
  else s

/-- SLOT_PG in one tick: step 4 (R561, R562, R567). -/
def slotPgTick (n : Nat) (i : SlotIn) (s : State) : State :=
  let st := slotState n s
  let k := slot n s
  let active := crb s (slotReg' n 0x04) 29
  let pgth := slotCfgF n 15 8 s
  if slotPg n s then
    let low := !active && i.vout * 100 < (pgth - 5) * s.pwr.vfeed
    let s := setSlot n { k with under := if low then k.under + 1 else 0, pgHeld := k.pgHeld + 1 } s
    if low && 3 ≤ k.under + 1 then pgUnder n s
    else if 10000000 ≤ k.pgHeld + 1 then retriesClear n s
    else s
  else if gateState st && k.gate && k.ramped && !active && pgth * s.pwr.vfeed ≤ i.vout * 100 then pgAssert n s
  else s

/-- SLOT_WARN_N in one tick: step 5 (R563). -/
def slotWarnTick (n : Nat) (s : State) : State :=
  let k := slot n s
  if warnCause n s then cwb (slotReg' n 0x04) 30 true (setSlot n { k with warnEnd := 0 } s)
  else if crb s (slotReg' n 0x04) 30 then
    if 1000 ≤ k.warnEnd then warnRelease n s else setSlot n { k with warnEnd := k.warnEnd + 1 } s
  else s

def slotTick (n : Nat) (i : SlotIn) (s : State) : State :=
  let was := crf s (slotReg' n 0x24) 15 0
  let s := cwr (slotReg' n 0x28) (milliAmps i.sense (crf s (slotReg' n 0x20) 19 0)) (cwf (slotReg' n 0x24) 15 0 i.vout s)
  slotWarnTick n (slotPgTick n i (slotTimers n was i s))

def slotsTick : Nat → List SlotIn → State → State
  | _, [], s => s
  | n, i :: t, s => if n < 8 then slotsTick (n + 1) t (slotTick n i s) else s

/-- COMPANION_TICK: windows, fast trips, limits and timers, SLOT_PG, SLOT_WARN_N (R549). The commands of the logic die take
effect at their acknowledgement (R22). -/
def compTick (t : TickIn) (s : State) : State :=
  if s.hub.cprst then s
  else
    let hotter := crb s (pwrReg 0x01C) 31
    let s := if d2dUp s then s else setPwr { s.pwr with lostT := s.pwr.lostT + 1 } s
    let s := feedsTick t s
    let before := (BitVec.ofNat 16 (crf s (pwrReg 0x01C) 15 0)).toInt
    let s := cwr (pwrReg 0x01C) (wOfInt (t.temp % 65536)) s
    let s := if 2240 < t.temp && before ≤ 2240 && !hotter then tempWarn t.temp s else s
    let s := if 2560 ≤ t.temp then thermalShut t.temp s else if t.temp < 2240 then thermalEnd s else s
    slotsTick 0 t.slots (seqTick t.pg s)

/-! ## The die-to-die link (R22–R24, R550, R578) -/

/-- Status register of a unit of R579. -/
def unitStatus (u : Nat) (s : State) : Word :=
  if u < 8 then rd s (slotReg' u 0x04) else if u < 10 then rd s (feedReg (u - 8) 0x04) else rd s pwrStatus

/-- The logic die's copy of every companion register is refreshed (R550). -/
def copyComp (s : State) : State :=
  let t := s.regs.filter (fun e => !compReg e.1)
  let c := s.pwr.comp.filter (fun e => compReg e.1)
  let s := { s with regs := c.foldl (fun t e => tset resetOf t e.1 e.2) t }
  let ev := (rd s pwrEvtR &&& 0xC4#32) ||| (crd s pwrEvtR &&& 0x13B#32)
  wb pwrStatus 28 (s.pwr.shedN ≠ 0) (wb pwrStatus 29 (infailing s) (wr pwrEvtR ev s))

/-- What the companion reports takes effect on the logic die. -/
def deliverEvs : List CompEv → State → State
  | [], s => s
  | .flt n w :: t, s => deliverEvs t (raise n w s)
  | .rcd ty a b c :: t, s => deliverEvs t (blot ty 0 a b c s)
  | .evt u i :: t, s => deliverEvs t (notify 19 (i + 1) u (unitStatus u s) s)

/-- D2D_STATUS_FRAME (R22, R24, R578): the copies are refreshed and the reports delivered; after a loss one record sums it. -/
def d2dStatus (s : State) : State :=
  if s.hub.cprst then s
  else
    let back := !d2dUp s
    let s := wb hubStatus 2 true s
    let s := if back then pwrCompEvt 8 s else s
    let q := s.pwr.evq
    let s := deliverEvs q (copyComp (setPwr { s.pwr with evq := [] } s))
    if back then
      let s := blot 0x45 0 (w32 s.pwr.lostTrip) (w32 s.pwr.lostFeed) (w32 s.pwr.lostT) s
      setPwr { s.pwr with lostT := 0, lostTrip := 0, lostFeed := 0 } s
    else s

/-- D2D_LINK_LOST (R23). -/
def d2dLost (s : State) : State := if d2dUp s then raise 192 0 (wb hubStatus 2 false s) else s

/-- Enable bit that locks a companion-side RWL register, if any: SLOT_CTL.EN. -/
def slotLocked (k : Nat) (s : State) : Bool :=
  let o := (k - 0x41000) % 0x40
  0x41000 ≤ k && 0x10 ≤ o && o ≤ 0x20 && crb s (k - o) 0

/-- One companion-side register takes a written word, at the companion (R550, R18, R19). -/
def compWrite (k : Nat) (v : Word) (s : State) : State :=
  let x := if 0x40140 ≤ k then 1 else 0
  let n := (k - 0x41000) / 0x40
  match regRow k with
  | none => s
  | some r =>
    if k = pwrReg 0x00C then busWinWrite v s
    else if k = feedReg x 0 then feedCtlWrite x v s
    else if k = feedReg x 0x14 then feedWinWrite x v s
    else if k = feedReg x 0x18 then feedThrWrite x v s
    else if k = feedReg x 0x1C then feedRshWrite x v s
    else if 0x41000 ≤ k && k = slotReg' n 0 then slotCtlWrite n v s
    else if slotLocked k s then s
    else match r.acc with
      | .rw | .rwl => cwr k ((crd s k &&& ~~~w32 r.mask) ||| (v &&& w32 r.mask)) s
      | .w1c => cwr k (crd s k &&& ~~~v) s
      | _ => s

/-- A command given at the companion directly while the link is up; else BUSY, with no effect (R23). Its copy follows. -/
def atComp (f : State → State) (s : State) : State :=
  if d2dUp s && !s.hub.cprst then copyComp (f s) else s

/-- The words of a companion-side write take effect in ascending order. -/
def compWords : Nat → List Word → State → State
  | _, [], s => s
  | k, v :: t, s =>
    let s := if compReg k then compWrite k v s
      else if k = pwrEvtR then
        let s := cwr k (crd s k &&& ~~~v) s
        wr k (rd s k &&& ~~~v) s
      else if k = pwrReg 0x018 then stm k 0x8000FFFF#32 v s
      else if k = pwrReg 0x02C then stbySetLo v s
      else if k = pwrReg 0x030 then stbySetHi v s
      else s
    compWords (k + 4) t s

/-- COMPANION_WRITE_ACK: the oldest companion-side write takes effect and completes OK (R22). -/
def compAck (s : State) : State :=
  match s.hub.d2dWait with
  | [] => s
  | (o, a) :: rest =>
    if !d2dUp s || s.hub.cprst then s
    else
      let s := setHub { s.hub with d2dWait := rest } s
      answer o a .ok [] (copyComp (compWords a.addr (bytesWords (a.count / 4) a.data) s))

/-- Writes in flight into a companion that enters reset complete BUSY (R34). -/
def busyWaits : List (Origin × Access) → State → State
  | [], s => s
  | (o, a) :: t, s => busyWaits t (answer o a .busy [] s)

/-- COMPANION_POWER_ON_RESET (R32, R44, R571): gates off, timers cleared, registers at their reset values; the logic die sees
CPRST. Writes in flight complete BUSY (R34). -/
def compReset (s : State) : State :=
  let s := returnWhere (fun c => match c with | .count off _ => compReg off | .frag _ _ | .quillRx _ | .canHp _ => false) s
  let w := s.hub.d2dWait
  let s := setHub { s.hub with cprst := true, d2dWait := [], feedLow := false } s
  let p := s.pwr
  let s := setPwr { ({} : PwrSt) with nvCause := p.nvCause % 4, nvAt := p.nvAt, stby := p.stby, stbyAt := p.stbyAt, stbySet := p.stbySet }
    (wb pwrStatus 30 false s)
  busyWaits w (wb hubRstCause 6 true s)

/-- COMPANION_RESET_END (R571). -/
def compResetEnd (s : State) : State := setHub { s.hub with cprst := false } s

/-! ## Load shedding and Kilco group 0x06 (R573, R575) -/

def sumSlots (s : State) : Int := (List.range 8).foldl (fun a n => a + (rd s (slotReg' n 0x28)).toInt) 0

/-- LOAD_SHED (R573). -/
def loadShed (s : State) : State :=
  let c := rd s (pwrReg 0x018)
  let one := (rb s (feedReg 0 0x04) 31) != (rb s (feedReg 1 0x04) 31)
  if !bit c 31 || !rb s hubStatus 1 || !one || sumSlots s ≤ Int.ofNat (fld c 15 0 * 100) || !d2dUp s then s
  else match ((List.range 8).filter (fun n => rb s (slotReg' n 0x10) 30 && rb s (slotReg' n 0) 1)).getLast? with
  | none => s
  | some n =>
    let s := atComp (slotOffWrite n) s
    let s := setPwr { s.pwr with shedN := s.pwr.shedN ||| 2 ^ n } s
    pwrEvt 7 (wb pwrStatus 28 true s)

/-- Slots of a mask. -/
def maskSlots (v : Nat) : List Nat := (List.range 8).filter (fun n => bitOf v n)

def atSlots (f : Nat → State → State) : List Nat → State → State
  | [], s => s
  | n :: t, s => atSlots f t (f n s)

/-- The words of FEED_STATUS (R575). -/
def feedWords (s : State) : List Word :=
  [rd s pwrStatus, rd s (feedReg 0 0x04), rd s (feedReg 1 0x04), rd s (feedReg 0 0x20), rd s (feedReg 1 0x20),
   rd s (feedReg 0 0x24), rd s (feedReg 1 0x24)] ++ (List.range 8).map (fun n => rd s (slotReg' n 0x04))

def kcFeedStatus (m : Nat) (s : State) : State := kcOk m (feedWords s) s

/-- SLOT_ON, SLOT_OFF, SLOT_RETRY (R575): refused as a whole by the slots' state as pair K reads it (R550), then REFUSED 0x09 where
the write fails because the link is lost. -/
def kcSlotCmd (m op : Nat) (raw : List Byte) (s : State) : State :=
  let mask := fld (par raw 0) 7 0
  let l := maskSlots mask
  let now := op == 3 && bit (par raw 1) 0
  let down := !d2dUp s || s.hub.cprst
  if op = 4 then
    if l.any (fun n => rf s (slotReg' n 0x04) 27 24 ≠ 6) then kcRefuse m 0x7E [] s
    else if down then kcRefuse m 0x09 [] s
    else
      let s' := atComp (atSlots slotRetry l) s
      kcOk m [w32 (sumN (l.map (fun n => if slotState n s' = 6 then 0 else 2 ^ n)))] s'
  else if l.any (fun n => !rb s (slotReg' n 0) 0) then kcRefuse m 0x7D [] s
  else if down then kcRefuse m 0x09 [] s
  else
    let f := if op = 2 then slotOnWrite else if now then slotOffNow else slotOffWrite
    let s' := atComp (atSlots f l) s
    let ch := l.filter (fun n => slotOn n s != slotOn n s')
    kcOk m [w32 (sumN (ch.map (fun n => 2 ^ n)))] s'

end Sys2Proof.Machine
end

