-- ==== Sys2Proof/Machine/Faults.lean ====
section
/-! DEFINITION. Fault collector reactions, the blotter's controls and the monitors (chapter 14). -/
namespace Sys2Proof.Machine
open Sys2Proof

def setFlt (v : FltSt) (s : State) : State := { s with flt := v }

/-! ## Quarantine (R499, R522) -/

/-- The unit a contain raise of source `n` names: KIND and index (R499). -/
def quarUnit (n : Nat) (info : Word) : Option (Nat × Nat) :=
  if 96 ≤ n && n ≤ 100 then some (1, fld info 7 0)
  else if 128 ≤ n && n ≤ 131 then some (2, fld info 5 0)
  else if (144 ≤ n && n ≤ 147) || n = 149 then some (3, fld info 3 0)
  else if 160 ≤ n && n ≤ 165 then some (4, 0)
  else if 224 ≤ n && n ≤ 239 then some (5, fld info 3 0)
  else none

/-- Units of a KIND (R522). -/
def kindCount (k : Nat) : Nat := if k = 1 then 256 else if k = 2 then 64 else if k = 3 then 16 else if k = 4 then 1 else if k = 5 then 16 else 0

/-- The unit reset of a quarantine, with the unit's QUAR bit (R203, R308, R351, R388). -/
def quarReset (kind i : Nat) (s : State) : State :=
  if kind = 1 then nibQuar i s else if kind = 2 then qlQuar i s else if kind = 3 then canQuar i s
  else if kind = 4 then pbpQuar s else cphQuar i s

/-- The status register that shows a unit's QUAR bit, bit 31. -/
def quarReg (kind i : Nat) : Nat :=
  if kind = 1 then nibReg i 0x04 else if kind = 2 then qlReg i 0x04 else if kind = 3 then canReg i 0x04
  else if kind = 4 then pbpStatus else cphReg i 0x004

def putQuar (l : List (Nat × Nat)) (s : State) : State := wf fltStatus 15 0 l.length (setFlt { s.flt with quar := l } s)

/-- The QUAR record of a contain raise; that of an injected one carries INJ (R504, R507). -/
def quarRecord (n kind i : Nat) (inj : Bool) (s : State) : State :=
  let s := blot 0x02 n (w32 (kind * 2 ^ 28 + i)) 0 0 (setFlt { s.flt with inj := inj } s)
  setFlt { s.flt with inj := false } s

/-- Carry out a contain raise (R499). -/
def quarantine (n : Nat) (info : Word) (inj : Bool) (s : State) : State :=
  match quarUnit n info with
  | none => notify 1 0x03 0xFFFF (w32 n) s
  | some (kind, i) =>
    if s.flt.quar.contains (kind, i) then s
    else
      let s := putQuar (s.flt.quar ++ [(kind, i)]) (quarReset kind i s)
      let s := quarRecord n kind i inj s
      notify 1 0x03 i (w32 (kind * 2 ^ 28 + n)) s

/-- Clear the quarantine of a unit; `byCmd` for FLT_CLEAR (R499, R507, R522). -/
def unquar (kind i : Nat) (byCmd : Bool) (s : State) : State :=
  if kindCount kind ≤ i || !s.flt.quar.contains (kind, i) then s
  else
    let s := wb (quarReg kind i) 31 false (putQuar (s.flt.quar.erase (kind, i)) s)
    blot 0x03 0 (w32 (kind * 2 ^ 28 + i)) (w32 (b2n byCmd)) 0 s

/-- A write of FLT_UNQUAR (R522). -/
def unquarWrite (v : Word) (s : State) : State := unquar (fld v 31 28) (fld v 15 0) false s

/-! ## Handling, safe state, injection (R501–R504) -/

/-- Handling ends (R501). -/
def endHandling (s : State) : State :=
  let st := rd s fltStatus
  wr fltFirstCnt 0 (wr fltStatus (setFld (st &&& 0x1FFFFFFF#32) 25 24 0) s)

/-- A write of FLT_STATUS. -/
def fltStatusWrite (v : Word) (s : State) : State := if bit v 31 then endHandling s else s

def canSafeEnds : List Nat → State → State
  | [], s => s
  | k :: t, s => canSafeEnds t (canSafeEnd k s)

/-- SAFE_EXIT, where R503 permits it. -/
def safeExit (s : State) : State :=
  if !rb s fltStatus 28 || rb s fltStatus 31 || rb s fltStatus 27 then s
  else
    let s := wb fltStatus 28 false (wb hubStatus 4 false s)
    let s := notify 1 0x05 0 0 (blot 0x05 0 0 0 0 s)
    canSafeEnds (List.range 16) s

/-- A write of FLT_CTL (R521). -/
def fltCtlWrite (v : Word) (s : State) : State :=
  let s := stm fltCtl 1 v s
  if bit v 1 then safeExit s else s

/-- A write of FLT_SEVn: SEV of a locked source does not change, a reserved source reads 0 (R493, R498, R522). -/
def fltSevWrite (n : Nat) (v : Word) (s : State) : State :=
  if (fixedClass n).isNone then s else stm (fltSev n) (if locked n then 0x10#32 else 0x13#32) v s

/-- A write of FLT_INJ (R504). -/
def fltInject (v : Word) (s : State) : State :=
  if !rb s hubStatus 3 then s
  else
    let s := raise (fld v 7 0) (rd s fltInjInfo) (setFlt { s.flt with inj := true } s)
    setFlt { s.flt with inj := false } s

/-- PLL_LOCK_LOSS of PLL `p`: 0 CORE, 1 CTRL, 2 PORT, 3 TIME (FS11). -/
def pllLoss (p : Nat) (s : State) : State := raise 11 (w32 (p % 4)) s

/-- The TJ limit of the VQ9256-FCX, 125 °C in 1/16 °C (R5); that the part is of this ordering code is the model's (DESIGN CHOICE, log
entry 1). -/
def tjLimit : Int := 2000

/-- LOGIC_TEMP_LIMIT with the temperature in 1/16 °C: FS13 each time it rises through the TJ limit, and not again until it has fallen
5 °C below the limit (R608). -/
def tempLimit (t : Int) (s : State) : State :=
  if tjLimit < t then (if s.hub.tjHot then s else raise 13 (wOfInt t) (setHub { s.hub with tjHot := true } s))
  else if t ≤ tjLimit - 80 then setHub { s.hub with tjHot := false } s
  else s

/-! ## The blotter (R505–R513) -/

def bltFreeze (b : Bool) (s : State) : State := wb bltCtl 0 b s
def bltClear (s : State) : State := wr bltStatus 0 (setFlt { s.flt with recs := [] } s)
def bltClrWrite (v : Word) (s : State) : State := if bit v 0 then bltClear s else s

/-- The eight words of a record (R505, R506). -/
def recWords (r : BltRec) : List Word :=
  let body := [w32 (r.typ % 256 * 2 ^ 24 + r.source % 256 * 65536 + r.secs % 4096 * 16 + r.flags % 16),
    w32 (r.hours % 2 ^ 24 * 256 + r.seq % 256), w32 (r.pcyc % 2 ^ 24 * 256 + r.node % 256), r.tb0, r.w4, r.w5, r.w6]
  let c := crc16 (body.flatMap wordBytes)
  body ++ [w32 (if r.bad then 65535 - c % 65536 else c)]

/-- Record `i`: 32 zero bytes at or beyond COUNT (R513). -/
def bltRecord (i : Nat) (s : State) : List Word :=
  match nthD none (s.flt.recs.map some) i with
  | some r => recWords r
  | none => List.replicate 8 0

/-- A read of record `i` that meets an uncorrectable error raises FS9 (R506). -/
def bltTouch (i : Nat) (s : State) : State :=
  match nthD none (s.flt.recs.map some) i with
  | some r => if r.bad then raise 9 (w32 i) s else s
  | none => s

def bltTouchAll : List Nat → State → State
  | [], s => s
  | i :: t, s => bltTouchAll t (bltTouch i s)

/-- Record and word of an offset in BLT_WIN. -/
def winRecord (k : Nat) (s : State) : Nat := 128 * rf s (bltCtl + 0x00C) 4 0 + (k - 0x51000) / 32
def winWord (k : Nat) (s : State) : Word := nthD 0 (bltRecord (winRecord k s) s) ((k - 0x51000) / 4 % 8)

/-! ## Monitors (R514–R517) -/

def mon (m : Nat) (s : State) : MonSt := tget (fun _ => {}) s.mons m
def setMon (m : Nat) (v : MonSt) (s : State) : State := { s with mons := tset (fun _ => {}) s.mons m v }

/-- KIND is listed and PARAM in range (R514). -/
def monOk (cfg : Word) : Bool :=
  let p := fld cfg 15 0
  match fld cfg 31 28 with
  | 1 => p ≤ 1 | 2 => p ≤ 255 | 3 => p ≤ 1023 | 4 => p ≤ 9 | 5 => p ≤ 9 | 6 => p ≤ 1
  | 7 => p == 0 || p == 1 || p == 256 || p == 257
  | _ => false

def wrAll (v : Word) : List Nat → State → State
  | [], s => s
  | k :: t, s => wrAll v t (wr k v s)

/-- Clear a slot's results (R516). -/
def monClear (m : Nat) (s : State) : State :=
  let s := wrAll 0 ([monReg m 0x18, monReg m 0x24] ++ (List.range 32).map (fun i => monReg m (0x28 + 4 * i))) s
  wr (monReg m 0x1C) 0x7FFFFFFF (wr (monReg m 0x20) 0x80000000 s)

/-- ARM (R516); the periods of R514 count from it. -/
def monArm (m : Nat) (s : State) : State :=
  let cfg := rd s (monReg m 0x04)
  if !monOk cfg then wr (monReg m 0) 4 s
  else
    let s := setMon m ⟨cfg, rd s (monReg m 0x08), rd s (monReg m 0x0C), rd s (monReg m 0x10), rd s (monReg m 0x14), s.hub.now, none⟩ s
    wr (monReg m 0) 1 (monClear m s)

/-- STOP (R516). -/
def monStop (m : Nat) (s : State) : State := wb (monReg m 0) 0 false s

/-- A write of MON_CTLm. -/
def monCtlWrite (m : Nat) (v : Word) (s : State) : State :=
  let s := if bit v 31 then monArm m s else s
  if bit v 30 then monStop m s else s

/-- The measurement of a slot: what the state shows of it, else the value measured `v` (R514). -/
def monValue (cfg : Word) (v : Int) (s : State) : Int :=
  let p := fld cfg 15 0
  match fld cfg 31 28 with
  | 3 => (queueCells (queue (p % 1024) s) : Nat)
  | 4 => if p < 8 then (rd s (slotReg' p 0x28)).toInt else (rd s (feedReg (p - 8) 0x24)).toInt
  | 5 => if p < 8 then (rf s (slotReg' p 0x24) 15 0 : Nat) else (rf s (feedReg (p - 8) 0x20) 15 0 : Nat)
  | 6 => if p = 1 then (BitVec.ofNat 16 (rf s (pwrReg 0x01C) 15 0)).toInt else v
  | 7 => if p < 256 then (rf s (laneReg (p % 2) 0x01C) 15 8 : Nat) else (rf s (laneReg (p % 2) 0x01C) 7 0 : Nat)
  | _ => v

/-- The bin of a sample (R515). -/
def monBin (v ofs : Int) (width : Nat) : Nat :=
  let i := (v - ofs) / (max 1 width : Nat)
  if i < 0 then 0 else min 31 i.toNat

/-- The period of MON_PERm that now runs; none: every event is sampled (R514). -/
def monPeriod (k : MonSt) (s : State) : Option Nat :=
  let per := fld k.per 19 0
  if per = 0 && fld k.cfg 31 28 ≤ 2 then none else some ((s.hub.now - k.start) / (1000 * max 1 per))

/-- MON_SAMPLE (R514–R516): one sample in each period. -/
def monSample (m : Nat) (v : Int) (s : State) : State :=
  let k := mon m s
  let per := monPeriod k s
  if !rb s (monReg m 0) 0 || (per.isSome && k.last == per) then s
  else
    let s := setMon m { k with last := per } s
    let w := wOfInt (monValue k.cfg v s)
    let s := bump (monReg m (0x28 + 4 * monBin w.toInt k.ofs.toInt k.width.toNat)) 1 (wr (monReg m 0x24) w (bump (monReg m 0x18) 1 s))
    let s := if w.toInt < (rd s (monReg m 0x1C)).toInt then wr (monReg m 0x1C) w s else s
    let s := if (rd s (monReg m 0x20)).toInt < w.toInt then wr (monReg m 0x20) w s else s
    if k.lim ≠ 0 && rd s (monReg m 0x18) = k.lim then
      notify 1 0x07 m (rd s (monReg m 0x18)) (wb (monReg m 0) 1 true (monStop m s))
    else s

/-! ## Memory errors (R494 and the owning chapters) -/

/-- Cell `c` of closed item `n` of queue `q`, the cell with index `idx`, holds an uncorrectable error (R165): every read of it raises
FS65 from now on. -/
def badCell (q n c idx : Nat) (s : State) : State :=
  let k := queue q s
  match nthD none (k.items.map some) n with
  | some i => if c < itemCells i then putQueue q { k with items := setNth k.items n { i with bad := i.bad ++ [(c, idx)], met := false } } s else s
  | none => s

def badRecord (i : Nat) (s : State) : State :=
  match nthD none (s.flt.recs.map some) i with
  | some r => setFlt { s.flt with recs := setNth s.flt.recs i { r with bad := true } } s
  | none => s

/-- A memory corrects an error: of the cells and their link words in INK_CNT_CE (R165), of the MRAM in NVM_CNT_CE. -/
def memCorrected (src : Nat) (s : State) : State :=
  if src = 65 || src = 66 then bump (inkReg 0x04C) 1 s else if src = 5 then bump (bootReg 0x104) 1 s else s

/-- An MRAM word can no longer be read (R585): what it belongs to by R584 is a copy of the boot record or a journal entry, which fails
its CRC, a configuration store, which is invalid (R596), or an image, whose word is a free value until it is written anew. -/
def mramLost (a : Nat) (s : State) : State :=
  let b := s.boot
  let hurt (at_ : Nat) (i : ImgSt) (w : Word) : ImgSt :=
    let all := i.colo ++ i.body
    let all := if at_ < all.length then (all.take (at_ - at_ % 4) ++ wordBytes w ++ all.drop (at_ - at_ % 4 + 4)).take all.length else all
    { i with colo := all.take i.colo.length, body := all.drop i.colo.length }
  let (w, f) := fresh s
  if a < 0x180000 then { f with boot := { b with img0 := hurt a b.img0 w } }
  else if a < 0x300000 then { f with boot := { b with img1 := hurt (a - 0x180000) b.img1 w } }
  else if a < 0x340000 then { s with boot := { b with st0 := none } }
  else if a < 0x380000 then { s with boot := { b with st1 := none } }
  else if a < 0x381000 then
    { s with boot := { b with copies := b.copies.map (fun c => if c.place = (a - 0x380000) / 2048 then { c with bad := true } else c) } }
  else if a < 0x382000 then
    { s with boot := { b with ring := b.ring.map (fun e => if e.place = (a - 0x381000) / 16 then { e with bad := true } else e) } }
  else s

/-- MEMORY_UNCORRECTABLE: the source whose memory it is, and its information word; of a cell's data (FS65) the place of the cell in
the queue it belongs to, of a record (FS9) its index, of a key in the key store (FS226) its slot: these are raised by the reads that
meet the error. An error on the local interconnect (FS7) strikes the next access (DESIGN CHOICE, log entry 28). FS193 is the
companion's internal check. -/
def memError (src : Nat) (info : Word) (q n c : Nat) (s : State) : State :=
  if src = 5 then raise 5 (info &&& 0x3FFFFF#32) (mramLost (fld info 21 0) (bump (bootReg 0x108) 1 s))
  else if src = 7 then raise 7 (info &&& 7#32) (setHub { s.hub with icBad := true } s)
  else if src = 9 then badRecord (fld info 11 0) s
  else if src = 10 then raise 10 info (monClear (fld info 3 0) (wr (monReg (fld info 3 0) 0) 0 s))
  else if src = 65 then badCell q n c (fld info 14 0) s
  else if src = 128 || src = 129 then raise src info (qlError (fld info 5 0) s)
  else if src = 144 then canMsgError (fld info 3 0) (fld info 10 4) s
  else if src = 224 then keyError (fld info 8 4) s
  else if src = 226 then setKeySlot (fld info 8 4) { keySlot (fld info 8 4) s with nvBad := true } s
  else if [8, 38, 39, 66, 96, 145, 160, 176, 184, 186, 193, 246].contains src then raise src info s
  else s

/-! ## Group 0x03 (R518) -/

def kcBltFreeze (m : Nat) (s : State) : State := let s := bltFreeze true s; kcOk m [rd s bltStatus] s
def kcBltThaw (m : Nat) (s : State) : State := let s := bltFreeze false s; kcOk m [rd s bltStatus] s
def kcBltClear (m : Nat) (s : State) : State := kcOk m [w32 (rf s bltStatus 12 0)] (bltClear s)

def kcBltRead (m : Nat) (raw : List Byte) (s : State) : State :=
  let i := fld (par raw 0) 11 0
  let n := fld (par raw 1) 4 0
  if n = 0 then kcRefuse m 0x05 [] s
  else
    let l := (List.range n).map (fun j => i + j) |>.filter (fun j => j < s.flt.recs.length)
    kcOk m ([w32 l.length, rd s bltStatus] ++ l.flatMap (fun j => bltRecord j s)) (bltTouchAll l s)

def kcMonArm (m : Nat) (raw : List Byte) (s : State) : State :=
  let k := fld (par raw 0) 3 0
  if !monOk (par raw 1) then kcRefuse m 0x05 [] s
  else
    let s := stm (monReg k 0x08) 0xFFFFF#32 (par raw 2) (stm (monReg k 0x04) 0xF000FFFF#32 (par raw 1) s)
    let s := wr (monReg k 0x14) (par raw 5) (wr (monReg k 0x10) (par raw 4) (wr (monReg k 0x0C) (par raw 3) s))
    kcOk m [] (monArm k s)

def kcMonRead (m : Nat) (raw : List Byte) (s : State) : State :=
  let k := fld (par raw 0) 3 0
  kcOk m (rd s (monReg k 0) :: (List.range 36).map (fun i => rd s (monReg k (0x18 + 4 * i)))) s

def kcFltRead (m : Nat) (s : State) : State :=
  kcOk m ([fltStatus, fltFirstSrc, fltFirstInfo, fltFirstTimeLo, fltFirstTimeHi, fltFirstCnt, fltLastSrc].map (rd s)
    ++ (List.range 8).map (fun k => rd s (fltActive k))) s

/-- FLT_CLEAR: FIRST, ACTIVE, UNQUAR, SAFE_EXIT in this order. -/
def kcFltClear (m : Nat) (raw : List Byte) (s : State) : State :=
  let v := par raw 0
  let u := par raw 1
  if bit v 2 && kindCount (fld u 31 28) ≤ fld u 15 0 then kcRefuse m 0x05 [] s
  else
    let s := if bit v 0 then endHandling s else s
    let s := if bit v 1 then wrAll 0 ((List.range 8).map fltActive) s else s
    let s := if bit v 2 then unquar (fld u 31 28) (fld u 15 0) true s else s
    let s := if bit v 3 then safeExit s else s
    kcOk m [rd s fltStatus] s

end Sys2Proof.Machine
end

