-- ==== Sys2Proof/Machine/Session.lean ====
section
/-! DEFINITION. Kilco sessions (chapter 12): opening, closing, jobs at a close, and the session commands. -/
namespace Sys2Proof.Machine
open Sys2Proof

/-! ## Jobs cut short (R433, R449, R458) -/

/-- What a job leaves behind when it is stopped at a step boundary: LANE_PRBS ends its test (R74), a handover is given up. -/
def cutJob (k : JobKind) (s : State) : State :=
  match k with
  | .lanePrbs l => prbsCtlWrite l (rd s (laneReg l 0x40) &&& ~~~3#32) s
  | .roleSwap r => setRole r { role r s with hand := false } s
  | .cfgSave | .cfgRestore _ | .fwVerify _ _ | .fwActivate _ | .migrate => s

/-- What the job reports when it is cut. -/
def cutResult (k : JobKind) (s : State) : List Word :=
  match k with
  | .lanePrbs l => [rd s (laneReg l 0x44), rd s (laneReg l 0x48), (lane l s).prbsHi, w32 (b2n (laneBit l 13 s))]
  | .cfgSave | .cfgRestore _ | .fwVerify _ _ | .fwActivate _ | .migrate | .roleSwap _ => []

/-- A final STATUS and REASON the spec does not state: any status of R439, a reason with REFUSED only. -/
def freeOutcome (s : State) : Nat × Nat × State :=
  let (w, s) := fresh s
  (fld w 2 0, if fld w 2 0 = 2 then fld w 15 8 else 0, s)

/-- A job ends CANCELLED (R448, R449). -/
def cancelJob (m : Nat) (j : Job) (s : State) : State :=
  let result := cutResult j.kind s
  let (st, reason, s) := freeOutcome (cutJob j.kind s)
  endJob m j.slot 4 st reason result s

/-- A job of a session that closes: ended, or left to run without a session where it cannot be stopped (R458). -/
def leaveJob (m : Nat) (j : Job) (s : State) : State :=
  if !jobLive j then dropJob m j.slot s
  else if j.fixed then
    let i := s.kc.loose.foldl (fun a x => max a (x.slot + 1)) 0
    let s := dropJob m j.slot s
    setKc { s.kc with loose := s.kc.loose ++ [{ j with slot := i }] } s
  else dropJob m j.slot (cancelJob m j s)

def leaveJobs (m : Nat) : List Job → State → State
  | [], s => s
  | j :: t, s => leaveJobs m t (leaveJob m j s)

/-! ## Closing (R433, R481) -/

/-- The session of mailbox `m` closes. -/
def closeSession (m : Nat) (notice : Bool) (s : State) : State :=
  if !kcOpen m s then s
  else
    let s := leaveJobs m (box m s).jobs s
    let s := releaseLeases m s
    let s := setBox m { box m s with copy := none } (wb (kcStat m) 31 false s)
    if notice then sessionNotice m 0x04 (rd s (kcReg m 0x10)) s else s

def closeSessions (notice : Bool) : List Nat → State → State
  | [], s => s
  | m :: t, s => closeSessions notice t (closeSession m notice s)

/-- Close every session whose holder word satisfies `p`. -/
def closeHeld (p : Word → Bool) (s : State) : State :=
  closeSessions true ((List.range 16).filter (fun m => p (rd s (kcReg m 0x10)))) s

/-- The holder, or the own node's PCIe endpoint or SPI target (R433). -/
def mayClose (m : Nat) (o : Origin) (s : State) : Bool :=
  match o with
  | .pcie _ _ => true
  | .spi => true
  | .ring _ _ | .pairK | .pairM | .bridge _ => rd s (kcReg m 0x10) == holderWord o s

/-- A write of KC_CTL (R432, R433). -/
def kcCtlWrite (m : Nat) (o : Origin) (v : Word) (s : State) : State :=
  if !kcOpen m s then s
  else if bit v 0 && mayClose m o s then closeSession m true s
  else if rd s (kcReg m 0x10) ≠ holderWord o s then kcForeign m s
  else s

/-- KC_SESSION_EXPIRE: no doorbell from the holder for the idle time (R433). -/
def kcExpire (m : Nat) (s : State) : State :=
  if kcOpen m s then closeSession m true (wb (kcReg m 0x0C) 3 true s) else s

/-! ## HELLO to JOB_CANCEL (R443, R458) -/

/-- The version a HELLO gets: major and minor, none where it is BAD_VERSION (R443). -/
def negotiated (rom : Bool) (hmaj hmin lmaj high : Nat) : Option (Nat × Nat) :=
  let m := min hmaj high
  match servedMinor rom m with
  | none => none
  | some top => if m < lmaj then none else some (m, if m = hmaj then min hmin top else top)

/-- HELLO (R431, R443, R458). -/
def kcHello (m : Nat) (raw : List Byte) (s : State) : State :=
  let w := par raw 0
  let t := fld (par raw 1) 11 0
  let idle := if t = 0 then 10 else t
  match negotiated (inRom s) (fld w 31 24) (fld w 23 16) (fld w 15 8) (highMajor s) with
  | none => kcReply m 4 0 0 [verResult s] s
  | some (maj, mn) =>
    if 3600 < idle then kcRefuse m 5 [] s
    else
      let s := closeSession m false s
      let s := wf (kcStat m) 23 20 maj (wf (kcStat m) 19 16 mn (wb (kcStat m) 31 true s))
      let s := wf (kcReg m 0x14) 11 0 idle (wr (kcReg m 0x10) (box m s).ringer s)
      kcOk m [w32 (maj * 16777216 + mn * 65536), highVer s, w32 idle, rd s (kcReg m 0x10)] (kcArm m s)

/-- GOODBYE: the session closes after the reply is written. -/
def kcGoodbye (m : Nat) (s : State) : State := closeSession m false (kcOk m [] s)

/-- GET_IDENTITY. -/
def kcIdentity (m : Nat) (s : State) : State :=
  let ver := if inRom s then 0 else s.boot.ver
  kcOk m [rd s 0, rd s hubStrap, rd s hubStatus, loW s.hub.devNum, hiW s.hub.devNum, ver, Config.romVersion, highVer s] s

/-- GET_CAPS. -/
def kcCaps (m : Nat) (s : State) : State :=
  kcOk m (capsWords (inRom s) (rf s (kcStat m) 23 20) (rf s (kcStat m) 19 16)) s

/-- JOB_CANCEL (R449, R458). -/
def kcJobCancel (m : Nat) (raw : List Byte) (s : State) : State :=
  match (box m s).jobs.find? (fun j => j.handle = par raw 0) with
  | none => kcRefuse m 7 [] s
  | some j =>
    if !jobLive j then kcOk m [w32 j.state] s
    else if j.fixed then kcRefuse m 6 [] s
    else kcOk m [4] (cancelJob m j s)

/-! ## What a restart of pair K closes (R32, R433, R594) -/

/-- Pair K restarts: every session closes, and with it the work pair K had in hand. -/
def pairKStop (s : State) : State :=
  let s := closeSessions true (List.range 16) s
  setKc { s.kc with loose := s.kc.loose.filter (fun j => match j.kind with | .roleSwap _ => true | _ => false) } s

end Sys2Proof.Machine
end

