-- ==== Sys2Proof/Machine/Boot.lean ====
section
/-! DEFINITION. Start-up, images and the counter journal (chapter 17), pair restarts and the resets of R32. -/
namespace Sys2Proof.Machine
open Sys2Proof

def setBoot (v : BootSt) (s : State) : State := { s with boot := v }

/-! ## The boot record and the journal (R585, R589, R599) -/

/-- The store in force, by physical number: the valid one with the newer generation (R596). -/
def storeNo (current : Bool) (s : State) : Option (Nat × StoreSt) :=
  match s.boot.st0, s.boot.st1 with
  | some a, some b => if (b.gen ≤ a.gen) == current then some (0, a) else some (1, b)
  | some a, none => if current then some (0, a) else none
  | none, some b => if current then some (1, b) else none
  | none, none => none

def img (n : Nat) (s : State) : ImgSt := if n = 0 then s.boot.img0 else s.boot.img1
def imgVer (n : Nat) (s : State) : Word := wordAt (img n s).colo 8
/-- Slot state: 0 EMPTY, 1 LOADING, 2 LOADED, 3 VERIFIED, 4 BAD, 5 VALID (R605). -/
def imgState (n : Nat) (s : State) : Nat := if n = 0 then rf s bootSlots 3 0 else rf s bootSlots 7 4

/-- What of the BOOT_ registers mirrors MRAM (R604, R605). -/
def bootRefresh (s : State) : State :=
  let r := s.boot.rcd
  let slots := (rd s bootSlots).toNat % 256 + r.active % 2 * 2 ^ 31 + b2n r.trial.isSome * 2 ^ 30 + (r.trial.getD 0) % 2 * 2 ^ 29
  let s := wr (bootReg 0x018) (w32 r.floor) (wf bootStatus 23 16 (min 255 r.fails) (wr bootSlots (w32 slots) s))
  let shown (n : Nat) : Word := if imgState n s = 3 || imgState n s = 5 then imgVer n s else 0
  let s := wr (bootReg 0x010) (shown 0) (wr (bootReg 0x014) (shown 1) s)
  let next := if imgState 0 s = 1 then s.boot.img0.body.length else if imgState 1 s = 1 then s.boot.img1.body.length else 0
  let s := wr (bootReg 0x01C) (w32 next) s
  match storeNo true s with
  | some (_, v) => wf bootStatus 7 0 v.fmt (wr (bootReg 0x020) (w32 v.gen) s)
  | none => wf bootStatus 7 0 0 (wr (bootReg 0x020) 0 s)

/-- Write the boot record; while NV writes are inhibited MRAM keeps what it held (R585, R589). -/
def bootWrite (r : BootRec) (s : State) : State :=
  let s := setBoot { s.boot with rcd := r } s
  bootRefresh (if nvInhibited s then setBoot { s.boot with rcdDue := true } s else rcdStore s)

/-- Write a journal entry, in the same way (R589, R599). -/
def journalWrite (c : JCounts) (s : State) : State :=
  let s := setBoot { s.boot with jnl := c } s
  if nvInhibited s then setBoot { s.boot with jnlDue := true } s else jnlStore s

def putImg (n : Nat) (v : ImgSt) (s : State) : State :=
  setBoot (if n = 0 then { s.boot with img0 := v } else { s.boot with img1 := v }) s

/-- Slot `n` is in state `st` from now on. -/
def imgTo (n st : Nat) (s : State) : State :=
  bootRefresh (if n = 0 then wf bootSlots 3 0 st s else wf bootSlots 7 4 st s)

/-! ## The colophon and the checks (R586, R587) -/

def coloByte (c : List Byte) (i : Nat) : Nat := (nthD 0 c i).toNat
def coloLen (c : List Byte) : Nat := leNat ((c.drop 12).take 4)
def coloEntry (c : List Byte) : Nat := leNat ((c.drop 24).take 4)

/-- Checks 0x01–0x05, on a hub of stepping `step` serving major `maj`: the first failure, or 0. -/
def coloCode (c : List Byte) (step maj : Nat) : Nat :=
  if wordAt c 0 ≠ 0x4C435156#32 then 1
  else if leNat ((c.drop 4).take 2) ≠ 1 then 2
  else if leNat ((c.drop 16).take 2) ≠ 0x9256 || step < coloByte c 18 || coloByte c 19 < step then 3
  else if coloLen c % 16 ≠ 0 || coloLen c < 65536 || 1572608 < coloLen c || coloEntry c % 16 ≠ 0 || coloLen c ≤ coloEntry c then 4
  else if maj < coloByte c 20 then 5
  else 0

def imageKeyOf (s : State) : Option (List Byte) := (keySlot 1 s).key

/-- HDR_TAG verifies (check 0x06): the tag of the first 224 bytes. -/
def hdrOk (key c : List Byte) : Bool := cmacTag key (leNat ((c.drop 224).take 8)) (c.take 224) == (c.drop 232).take 16

/-- BODY_TAG verifies (check 0x0B). -/
def bodyOk (key c body : List Byte) : Bool :=
  body.length == coloLen c && cmacTag key (leNat ((c.drop 192).take 8)) body == (c.drop 200).take 16

/-- The checks of R587 on slot `n`: the first failure, or 0. Without a key no tag verifies. -/
def imgCheck (n : Nat) (s : State) : Nat :=
  let v := img n s
  let c := coloCode v.colo (rf s 0 7 0) 3
  if c ≠ 0 then c
  else match imageKeyOf s with
    | none => 6
    | some key =>
      if !hdrOk key v.colo then 6
      else if (imgVer n s).toNat < s.boot.rcd.floor then 7
      else if !bodyOk key v.colo v.body then 0x0B
      else 0

/-! ## Choosing an image (R590, R591, R598) -/

def setMode (m : Nat) (s : State) : State := wf hubStatus 11 8 m s
def hubMode (s : State) : Nat := rf s hubStatus 11 8

def bootNotice (code slot : Nat) (s : State) : State := notify 22 code slot (rd s bootStatus) s

/-- A boot record of R602. -/
def bootBlot (typ slot code : Nat) (ver w6 : Word) (s : State) : State := blot typ 0 (w32 (slot % 2 + code % 256 * 256)) ver w6 s

/-- A boot fails (R591). -/
def bootFailed (slot code : Nat) (s : State) : State :=
  let r := s.boot.rcd
  match r.trial with
  | some _ => bootWrite { r with trial := none } s
  | none =>
    let s := bootWrite { r with fails := r.fails + 1 } s
    let f := min 255 (r.fails + 1)
    bootBlot 0x51 slot code (imgVer slot s) (w32 (r.fails + 1)) (raise 249 (w32 (slot % 2 + f * 65536)) s)

/-- ROM recovery mode is entered (R598). -/
def recovery (cause : Nat) (s : State) : State :=
  let n := s.boot.rcd.active % 2
  let s := wf bootStatus 25 24 cause (wb bootStatus 29 true (setMode 1 s))
  let s := setBoot { s.boot with chosen := none, ver := 0, window := false, live := none } s
  let s := bootBlot 0x56 n 0 (imgVer n s) (w32 cause) (raise 250 (w32 cause) s)
  bootNotice 3 n (wb bootEvtR 2 true s)

/-- The slot that R590 names in steps 2 to 4; none: recovery mode with cause 3. -/
def bootPick (s : State) : Option Nat :=
  let r := s.boot.rcd
  match r.trial with
  | some n => some (n % 2)
  | none =>
    if r.fails ≤ 1 then some (r.active % 2)
    else if r.fails = 2 then
      let other := 1 - r.active % 2
      some (if imgCheck other s = 0 then other else r.active % 2)
    else none

/-- An image passed: it is VALID; it failed: BAD, if it was good before (R605). -/
def judgeImg (n code : Nat) (s : State) : State :=
  if code = 0 then imgTo n 5 s else if imgState n s = 3 || imgState n s = 5 then imgTo n 4 s else s

/-- ROM chooses the image to start (R590). Each round ends a trial or counts a failure, so four rounds are enough. -/
def bootChoose : Nat → State → State
  | 0, s => recovery 3 s
  | fuel + 1, s =>
    if rf s hubStrap 9 8 = 2 then recovery 1 s
    else match bootPick s with
      | none => recovery 3 s
      | some n =>
        let c := imgCheck n s
        let s := judgeImg n c s
        if c = 0 then setBoot { s.boot with chosen := some n } s
        else
          let s := bootFailed n c (raise 248 (w32 (n + c * 256)) s)
          if imgCheck 0 s ≠ 0 && imgCheck 1 s ≠ 0 then recovery 2 s else bootChoose fuel s

/-! ## From the end of a reset to the choice (R588, R589) -/

/-- The straps are sampled (R588). -/
def sampleStraps (s : State) : State :=
  wr hubStrap (w32 (s.hub.pinNode % 256 + s.hub.pinBoot % 4 * 256 + b2n s.hub.pinTest * 1024)) s

/-- TB0 is loaded from the standby counter where that is valid (R420, R572). -/
def seedTb0 (s : State) : State :=
  if rb s (pwrReg 0x020) 0 then
    let n := stbyNow s * 1000000000
    let b : BaseSt := { base 0 s with ns := BitVec.ofNat 64 (n / 32768), frac := w32 (n % 32768 * 131072) }
    wb tbStatus 5 true (setBase 0 b s)
  else raise 219 0 (pwrEvt 6 s)

/-- Persisted keys and key counters are restored at the end of LPOR (R529, R538). -/
def restoreKey (v : KeySlot) : KeySlot :=
  let c := v.ctrNv + 65536
  match v.keyNv, v.due with
  | some (k, g), false => { key := some k, pers := true, gen := g, ctr := c, ctrNv := v.ctrNv, keyNv := some (k, g) }
  | nv, due =>
    { key := none, pers := false, gen := if v.key.isSome then (v.gen + 1) % 65536 else v.gen, ctr := c, ctrNv := v.ctrNv, keyNv := nv, due := due }

def restoreKeys : List (Nat × KeySlot) → State → State
  | [], s => s
  | (k, v) :: t, s =>
    let lost := v.nvBad && v.keyNv.isSome && !v.due
    let v := if lost then { v with keyNv := none } else v
    let s := setKeySlot k { restoreKey v with nvBad := false } s
    restoreKeys t (if lost then raise 226 (cphInfo (if rb s (cphOwn k) 31 then rf s (cphOwn k) 3 0 else 0) k) s else s)

/-- The journal is read, its valid entry with the highest sequence number, and the counts of R599 advance. -/
def readJournal (lpor : Bool) (s : State) : State :=
  let e := s.boot.ring.find? (fun e => !e.bad)
  let s := if e.isSome then s else raise 253 0 s
  let c := (e.map (fun e => e.cnt)).getD {}
  let c := { c with pcyc := c.pcyc + b2n lpor, boots := c.boots + 1 }
  let s := if lpor then setFlt { s.flt with hours := c.hours, secs := c.secs, pcyc := c.pcyc } s else s
  journalWrite c s

/-- The boot record is read: the valid copy with the newer sequence number, or else the values of R585 with FS255. -/
def readRecord (s : State) : State :=
  match s.boot.copies.find? (fun c => !c.bad) with
  | some c => bootRefresh (setBoot { s.boot with rcd := c.rcd } s)
  | none => raise 255 0 (bootRefresh (setBoot { s.boot with rcd := {} } s))

/-- ROM boot after a reset, as far as the choice of the image (R589, R107, R503, R585). -/
def romBoot (lpor : Bool) (s : State) : State :=
  let s := wb hubStatus 3 (rb s hubStrap 10) (setMode 0 s)
  let s := if ownNode s = 0 || ownNode s = 255 then raise 14 (w32 (ownNode s)) s else s
  let s := if s.boot.wasSafe then blot 0x05 0 1 (rd s hubRstCause) 0 (setBoot { s.boot with wasSafe := false } s) else s
  let s := wf pwrStatus 4 0 31 s
  let s := if s.hub.feedLow then nvEnter 4 s else s
  bootChoose 4 (readRecord (readJournal lpor (if lpor then restoreKeys s.cph.slots (seedTb0 s) else seedTb0 s)))

/-! ## Firmware (R589, R592, R594–R597) -/

/-- Store format that the running image writes, byte 21 of its colophon (R586). -/
def cfgFmt (s : State) : Nat := coloByte (img (rf s bootStatus 28 28) s).colo 21

/-- A store conversion fails (R597). -/
def migrateFailed (old : Nat) (s : State) : State :=
  let s := wb bootStatus 30 true (raise 252 (w32 (rf s bootStatus 28 28)) s)
  let s := bootBlot 0x55 (rf s bootStatus 28 28) 0 s.boot.ver (w32 (0x80000000 + old % 256 * 256 + cfgFmt s)) s
  unitEvent bootEvtR (bootReg 0x008) 3 22 (rf s bootStatus 28 28) 0x80000000 s

/-- A job of the firmware's own, without a session. -/
def looseJob (k : JobKind) (s : State) : State :=
  let i := s.kc.loose.foldl (fun a x => max a (x.slot + 1)) 0
  let j : Job := { slot := i, handle := 0, kind := k, note := false, since := s.hub.now,
                   state := if nvInhibited s && jobWritesNv k then 2 else 1 }
  setKc { s.kc with loose := s.kc.loose ++ [j] } s

/-- An older store is converted at the first start of newer firmware (R597). -/
def startMigrate (s : State) : State :=
  match storeNo true s with
  | some (_, v) => if v.fmt < cfgFmt s then looseJob .migrate s else s
  | none => s

/-- The restore of a boot (R588, R596, R597): of the current store, of the previous one where only its format is known. -/
def startRestore (s : State) : State :=
  if rf s hubStrap 9 8 = 1 then wb bootStatus 29 true s
  else
    let n := w32 (rf s bootStatus 28 28)
    let s := if s.boot.st0.isNone then raise 252 n s else s
    let s := if s.boot.st1.isNone then raise 252 n s else s
    match storeNo true s, storeNo false s with
    | none, _ => wb bootStatus 29 true s
    | some (_, v), prev =>
      if v.fmt ≤ cfgFmt s then looseJob (.cfgRestore false) s
      else match prev with
        | some (_, p) => if p.fmt ≤ cfgFmt s then looseJob (.cfgRestore true) s else wb bootStatus 29 true s
        | none => wb bootStatus 29 true s

/-- The image of slot `n` runs on both pairs; the trial window opens (R592). -/
def runImage (n : Nat) (s : State) : State :=
  let s := wb bootStatus 31 false (wf bootStatus 25 24 0 (wf bootStatus 28 28 n s))
  let s := wb hubStatus 0 true (wb hubStatus 1 true (setMode 2 s))
  setBoot { s.boot with former := s.boot.ver, ver := imgVer n s, window := true, live := none, chosen := none, started := s.hub.now } s

/-- A revert reloads ACTIVE (R595); where ACTIVE fails its checks too, ROM chooses again (R591). -/
def revertTo (src : Nat) (s : State) : State :=
  let n := s.boot.rcd.active % 2
  let c := imgCheck n s
  let s := judgeImg n c s
  if c = 0 then
    let s := runImage n s
    let s := bootBlot 0x53 n 0 s.boot.ver (w32 src) (raise 251 (w32 n) s)
    startMigrate (bootNotice 2 n (wb bootEvtR 1 true s))
  else bootChoose 4 (setMode 0 s)

/-- After a failed trial: a revert where the data path runs, else the next start in ROM (R591). -/
def switchBack (src : Nat) (s : State) : State := if dataPath s then revertTo src s else bootChoose 4 (setMode 0 s)

/-- A live activation ends: the image on trial is checked again and started (R594 steps 4 to 6). -/
def activated (s : State) : State :=
  match s.boot.rcd.trial with
  | none => switchBack 248 s
  | some n =>
    let n := n % 2
    let c := imgCheck n s
    let s := judgeImg n c s
    if c = 0 then
      let s := runImage n s
      let s := bootBlot 0x52 n 0 s.boot.ver s.boot.former s
      startMigrate (bootNotice 1 n (wb bootEvtR 0 true s))
    else switchBack 248 (bootFailed n c (raise 248 (w32 (n + c * 256)) s))

/-- FIRMWARE_START (R589, R594, R595): the image chosen starts on both pairs, a live activation or revert comes to its end, or a
restarted pair runs again. -/
def firmwareStart (s : State) : State :=
  if hubMode s = 3 then
    match s.boot.live with
    | some (false, _) => activated s
    | some (true, src) => revertTo src s
    | none => s
  else if hubMode s = 2 then wb hubStatus 0 true (wb hubStatus 1 true s)
  else if hubMode s = 1 then s
  else
    let s := if s.boot.chosen.isNone then bootChoose 4 s else s
    match s.boot.chosen with
    | none => s
    | some n =>
      let s := runImage n s
      let s := blot 0x06 0 (rd s hubRstCause) (rd s hubStatus) 0 s
      let s := bootBlot 0x50 n 0 s.boot.ver (w32 s.boot.jnl.boots) s
      startRestore (startMigrate s)

/-- BOOT_CONFIRM: 10 s without a failure (R592). -/
def bootConfirm (s : State) : State :=
  if hubMode s ≠ 2 || !s.boot.window || s.hub.now < s.boot.started + 10000000000 then s
  else
    let n := rf s bootStatus 28 28
    let r := s.boot.rcd
    let up := coloByte (img n s).colo 6 % 2 = 1 && r.floor < s.boot.ver.toNat
    let s := bootWrite { r with active := n, trial := none, fails := 0, floor := if up then s.boot.ver.toNat else r.floor } s
    let s := wb bootStatus 31 true (setBoot { s.boot with window := false } s)
    unitEvent bootEvtR (bootReg 0x008) 4 22 n (rd s bootStatus) s

/-- HOURS_PERSIST: six minutes of powered time more, kept by pair M and journalled unless inhibited (R511, R598, R599). -/
def hoursPersist (s : State) : State :=
  if !(rb s hubStatus 1 || inRom s) then s
  else
    let t := s.flt.secs + 360
    let s := setFlt { s.flt with hours := s.flt.hours + t / 3600, secs := t % 3600 } s
    if nvInhibited s then s else journalWrite { s.boot.jnl with hours := s.flt.hours, secs := s.flt.secs, pcyc := s.flt.pcyc } s

/-! ## Pair restarts (R32, R44, R591) -/

/-- Both pairs leave service for a live switch of images (R594 steps 2 and 3). -/
def goLive (rev : Bool) (src : Nat) (s : State) : State :=
  let s := pairKStop (wb hubRstCause 5 true (setMode 3 s))
  pairMStop (wb hubStatus 0 false (setBoot { s.boot with live := some (rev, src), window := false } s))

/-- The pairs start again from R590 step 1; no other part of the hub is reset (R591). -/
def startAgain (s : State) : State :=
  let s := pairKStop s
  bootChoose 4 (setMode 0 (pairMStop (wb hubStatus 0 false (setBoot { s.boot with window := false, chosen := none } s))))

/-- A failure in the trial window: a revert while the data path runs, or a failed boot (R591). -/
def windowFailed (src : Nat) (s : State) : State :=
  let n := rf s bootStatus 28 28
  match s.boot.rcd.trial with
  | some _ =>
    let s := if s.kc.loose.any (fun j => j.kind == .migrate) then
        migrateFailed (((storeNo true s).map (fun e => e.2.fmt)).getD 0) s else s
    let s := bootFailed n 0 s
    if dataPath s then goLive true src s else startAgain s
  | none =>
    startAgain (bootFailed n 0 s)

/-- Pair K (`k`) or M restarts, because of fault source `src`. -/
def pairRestart (k : Bool) (src : Nat) (s : State) : State :=
  let s := wb hubRstCause (if k then 3 else 4) true s
  let s := if k then pairKStop (wb hubStatus 0 false s) else pairMStop s
  if hubMode s = 2 && s.boot.window then windowFailed src s else s

/-- LOCKSTEP_MISMATCH at step address `addr` (FS0, FS1), CORE_WATCHDOG_EXPIRE (FS2, FS3). -/
def lockstep (k : Bool) (addr : Word) (s : State) : State :=
  let n := if k then 0 else 1
  pairRestart k n (raise n addr s)
def coreWatchdog (k : Bool) (s : State) : State :=
  let n := if k then 2 else 3
  pairRestart k n (raise n 0 s)

/-- MEMORY_UNCORRECTABLE, of a pair's local memory as well (FS4), and of an MRAM write that fails its read-back (FS6). -/
def memoryError (src : Nat) (info : Word) (corrected : Bool) (q n c : Nat) (s : State) : State :=
  if corrected then memCorrected src s
  else if src = 4 then pairRestart (!bit info 0) 4 (raise 4 (info &&& 1#32) s)
  else if src = 6 then
    let a := info &&& 0x3FFFFF#32
    raise 6 a (wr (bootReg 0x110) a (bump (bootReg 0x10C) 1 s))
  else memError src info q n c s

/-! ## Group 0x02 (R593, R594, R600) -/

def kcLowSupply (m : Nat) (s : State) : State := kcReply m 6 0 0 [] s
/-- A refusal with reason 0x05 and a check code. -/
def kcCheck (m code : Nat) (s : State) : State := kcRefuse m 5 [w32 code] s
def fwSlot (raw : List Byte) : Nat := fld (par raw 0) 0 0

/-- The running image is in slot `n`. -/
def imgRuns (n : Nat) (s : State) : Bool := hubMode s == 2 && rf s bootStatus 28 28 == n

def fwBegin (m : Nat) (raw : List Byte) (s : State) : State :=
  let n := fwSlot raw
  let c := (raw.drop 20).take 256
  let code := coloCode c (rf s 0 7 0) 3
  if code ≠ 0 then kcCheck m code s
  else match imageKeyOf s with
    | none => kcRefuse m 0x87 [] s
    | some key =>
      if !hdrOk key c then kcCheck m 6 s
      else if (wordAt c 8).toNat < s.boot.rcd.floor then kcCheck m 7 s
      else if rf s (kcStat m) 23 20 < coloByte c 20 then kcCheck m 5 s
      else if imgRuns n s || (hubMode s = 2 && s.boot.rcd.trial.isSome) then kcCheck m 8 s
      else if nvInhibited s then kcLowSupply m s
      else kcOk m [0] (imgTo n 1 (nvWrote (putImg n { colo := c } s)))

def fwChunk (m : Nat) (raw : List Byte) (s : State) : State :=
  let n := fwSlot raw
  let off := (par raw 1).toNat
  let k := fld (par raw 2) 11 0
  let v := img n s
  let next := v.body.length
  if pkLen raw < 12 + k then kcRefuse m 8 [] s
  else if k < 16 || 2016 < k || k % 16 ≠ 0 then
    let (w, s) := fresh s
    kcRefuse m 5 [w] s
  else if imgState n s ≠ 1 then kcCheck m 0x0A s
  else if off ≠ next && v.last ≠ some off then kcCheck m 9 s
  else if coloLen v.colo < off + k then kcCheck m 0x0A s
  else if nvInhibited s then kcLowSupply m s
  else
    let d := (raw.drop 28).take k
    let body := v.body.take off ++ d ++ v.body.drop (off + k)
    let body := if off = next then body else body.take next
    let s := nvWrote (putImg n { v with body := body, last := some off } s)
    kcOk m [w32 body.length] (if body.length = coloLen v.colo then imgTo n 2 s else bootRefresh s)

def fwSlotInfo (m : Nat) (raw : List Byte) (s : State) : State :=
  kcOk m (rd s bootSlots :: (bytesWords 8 (img (fwSlot raw) s).colo ++ [w32 s.boot.rcd.floor])) s

def nvCounters (m : Nat) (s : State) : State :=
  let r := s.boot.rcd
  let w := s.boot.words
  kcOk m ([s.flt.hours, s.flt.secs, s.flt.pcyc, s.boot.jnl.boots, r.fails, w, w / 2 ^ 32].map w32) s

/-- Refusals of FW_VERIFY, and the job it starts: its slot and the generation of the key (R537). -/
def fwVerifyStart (raw : List Byte) (s : State) : Nat × List Word × JobKind :=
  let n := fwSlot raw
  if (imageKeyOf s).isNone then (0x87, [], .fwVerify n 0)
  else if imgState n s ≠ 2 then (5, [0x0A], .fwVerify n 0)
  else (0, [], .fwVerify n (keySlot 1 s).gen)

/-- The end of FW_VERIFY (R593, R600). -/
def fwVerifyEnd (m i n gen : Nat) (s : State) : State :=
  match imageKeyOf s with
  | none => endJob m i 3 2 0x8A [] s
  | some key =>
    let v := img n s
    if (keySlot 1 s).gen ≠ gen then endJob m i 3 2 0x8A [] s
    else if imgState n s ≠ 2 then endJob m i 3 2 5 [0x0A] s
    else if bodyOk key v.colo v.body then endJob m i 3 0 0 [3] (imgTo n 3 s)
    else endJob m i 3 2 5 [0x0B] (imgTo n 4 s)

/-- A step of FW_ACTIVATE (R594): TRIAL is written; then the pairs restart. -/
def fwActivateStep (m : Nat) (j : Job) (n : Nat) (s : State) : State :=
  if j.fixed then goLive false 0 s
  else if imgState n s ≠ 3 then endJob m j.slot 3 2 5 [0x0C] s
  else bootWrite { s.boot.rcd with trial := some n } (putJob m { j with steps := j.steps + 1, fixed := true } s)

/-! ## Resets (R32–R34, R589) -/

/-- BANK_STATUSg, whose class is sensed and not reset (R244). -/
def isSensed (k : Nat) : Bool := 0x300800 ≤ k && k < 0x300900 && k % 0x10 == 4

/-- A reset is on its way into node-local offset `k` and leaves it as it is (R33, R75, R116, R244, R512, R550). -/
def keptInReset (k : Nat) : Bool :=
  isSensed k || k == hubStrap || k == hubRstCause || k == bootSlots || (0x30000 ≤ k && k < 0x3A000) || (0x40000 ≤ k && k < 0x50000)
  || k == bltCtl || k == bltStatus || k == bltRefused || k == bltMissed || k == bltWritten

def busyRing : List (Nat × Nat) → State → State
  | [], s => s
  | (src, tag) :: t, s => busyRing t (originate (mkFrame src 3 1 tag Status.busy.code []) s).2

/-- Only the C0 frames of the dedicated buffers stay queued (R33). -/
def keepC0 (k : LinkSt) : LinkSt := { k with loc := k.loc.filter (fun o => o.f.cls == 0) }

def keptBoot (s : State) : BootSt :=
  let b := s.boot
  { img0 := b.img0, img1 := b.img1, st0 := b.st0, st1 := b.st1, copies := b.copies, ring := b.ring, words := b.words, wasSafe := rb s hubStatus 4 }

def keptHub (s : State) : HubSt := { s.hub with d2dWait := [], coal := [], noticePin := false, icBad := false, msix := [], msixPend := [], msixTab := [] }

/-- LOGIC_POWER_ON_RESET (R32, R44): the whole logic die; the companion, the MRAM and the standby domain keep their state. -/
def lporReset (s : State) : State :=
  let b := keptBoot s
  let rg := tkeep (fun k => isSensed k || k == bootSlots || k == pwrReg 0x020 || k == pwrReg 0x028) s.regs
  { State.reset with
    pending := s.pending, free := s.free, regs := rg, hub := { keptHub s with lporHeld := true },
    cph := { slots := s.cph.slots }, pwr := { s.pwr with shedN := 0 }, boot := { b with wasSafe := false } }

/-- RST_N or SWRST: everything but the ring core, with bit `cause` of HUB_RST_CAUSE set (R32–R34, R44, R512). RST_N ends isolation,
SWRST does not (R108). -/
def warmReset (cause : Nat) (s : State) : State :=
  let sink := s.tx.sink
  let s := wb hubRstCause cause true (returnOrgs s.tx.pend s)
  let b := keptBoot s
  let f := s.flt
  let blt := wr bltCtl (setFld 2 0 0 (b2n (rb s bltCtl 0))) s
  busyRing sink { State.reset with
    pending := s.pending, free := s.free, regs := tkeep keptInReset blt.regs, hub := keptHub s, lanes := s.lanes,
    ring := { s.ring with links := s.ring.links.map (fun e => (e.1, keepC0 e.2)), isolated := s.ring.isolated && cause != 1, refused := [] },
    flt := { recs := f.recs, hours := f.hours, secs := f.secs, pcyc := f.pcyc },
    cph := { slots := s.cph.slots }, pwr := { s.pwr with shedN := 0 }, roles := { ctrs := s.roles.ctrs }, boot := b }

/-- LPOR_RELEASE (R609, R589). -/
def lporRelease (s : State) : State :=
  if !s.hub.lporHeld then s
  else romBoot true (sampleStraps (setHub { s.hub with lporHeld := false } s))

/-- RST_N_ASSERT, with the level held low for 1 µs; RST_N_RELEASE (R32, R588). -/
def rstAssert (s : State) : State :=
  if s.hub.lporHeld || s.hub.rstHeld then s
  else
    let s := warmReset 1 s
    setHub { s.hub with rstHeld := true } s
def rstRelease (s : State) : State :=
  if !s.hub.rstHeld || s.hub.lporHeld then s
  else romBoot false (sampleStraps (setHub { s.hub with rstHeld := false } s))

/-- PCIe requests are forgotten; what they held pending returns (R148, R149). -/
def isPcie : Origin → Bool
  | .pcie _ _ => true
  | .ring _ _ | .spi | .pairK | .pairM | .bridge _ => false

def pcieDown (s : State) : State :=
  let s := returnOrgs (s.tx.pend.filter (fun e => isPcie e.org)) s
  let s := dropPops isPcie s.ink.queues s
  let x := s.tx
  setTx { x with
    pcie := [], held := x.held.filter (fun e => !isPcie e.1), wait := x.wait.filter (fun e => !isPcie e.org),
    own := x.own.filter (fun e => !isPcie e.org), order := x.order.filter (fun e => !isPcie e.1) } s

/-- PERST_N_ASSERT (R32, R44, R433): of the configuration space the state holds the MSI-X table and its pending bits. -/
def perst (s : State) : State :=
  let s := setHub { s.hub with msixPend := [], msixTab := [] } s
  closeHeld (fun w => fld w 31 30 == 1) (pcieDown (wb hubRstCause 7 true s))

/-! ## HUB_CTL (R39–R41) -/

/-- The hub's consistency check (R41). -/
def hubCheck (s : State) : Nat :=
  if ownNode s = 0 || ownNode s = 255 || s.ring.isolated then 5 else (totalsCheck s).1

def overUnits (f : Nat → State → State) : List Nat → State → State
  | [], s => s
  | n :: t, s => overUnits f t (f n s)

/-- Nibs with EN = 1, quills with EN = 1. -/
def liveNibs (s : State) : List Nat := (List.range 256).filter (fun n => nibEn n s)
def liveQuills (s : State) : List Nat := (List.range 64).filter (fun q => qlEn q s)

/-- RUN is written 1 (R41, R171, R260, R327): the totals check of the inkwell runs as at APPLY, once the node ID has passed. -/
def hubRun (s : State) : State :=
  if rb s hubCtl 0 then s
  else
    let c := hubCheck s
    let s := if c = 5 then s else overUnits nibFlowna (liveNibs s) (inkApply s)
    let s := wr hubReason (w32 c) s
    if c ≠ 0 then s else stkRunAgain (overUnits canRunAgain (List.range 16) (wb hubCtl 0 true s))

/-- RUN is written 0: the units are held idle (R40, R309, R327, R387). -/
def hubStop (s : State) : State :=
  if !rb s hubCtl 0 then s
  else
    let s := overUnits nibHoldIdle (liveNibs s) (wb hubCtl 0 false s)
    let s := overUnits canHold (List.range 16) (overUnits qlHoldIdle (liveQuills s) s)
    let s := if rb s pbpCtl 0 then pbpRelease s else s
    let todo := s.pbp.todo
    outBusy todo (setPbp { s.pbp with todo := todo.filter (fun r => r.posted) } s)

/-- A write by `o` that resets its own target has had its effect: it is answered OK (R139), and not among the requests that the reset
answers BUSY (R34). -/
def inHand (o : Origin) (s : State) : State :=
  match o with
  | .ring src tag => sinkFree src tag s
  | .pcie _ _ | .spi | .pairK | .pairM | .bridge _ => s

/-- A write of HUB_CTL (R39). -/
def hubCtlWrite (v : Word) (s : State) : State :=
  let s := if bit v 5 then wr hubRstCause 0 s else s
  let s := stm hubCtl 0x10#32 v s
  let s := if bit v 0 then hubRun s else hubStop s
  if bit v 1 then romBoot false (warmReset 2 s) else s

end Sys2Proof.Machine
end

