-- ==== Sys2Proof/Machine/Access.lean ====
section
/-! DEFINITION. Reading and writing the node-local map: what each register shows, what a write of it does, and how an access
from any of the requesters is served at this node (R17-R20, R123-R129, R140-R149, R175, R176). -/
namespace Sys2Proof.Machine
open Sys2Proof

/-! ## What an offset is -/

/-- A byte of the request or reply area of a mailbox page (R430). -/
def isKcArea (k : Nat) : Bool := 0x10000 ≤ k && k < 0x20000 && 0x400 ≤ k % 0x1000
/-- A port window (R175). -/
def isPort (k : Nat) : Bool := 0x24000 ≤ k && k < 0x28000
/-- CPH_DIN of some page (R541). -/
def isDin (k : Nat) : Bool := 0x60000 ≤ k && k < 0x70000 && 0x400 ≤ k % 0x1000 && k % 0x1000 < 0x500
/-- CAN_HPWIN of some controller (R338). -/
def isHp (k : Nat) : Bool := 0x80000 ≤ k && k < 0x90000 && 0x140 ≤ k % 0x1000 && k % 0x1000 < 0x190
/-- Local-only registers (R144, R491, R531). -/
def localOnly (k : Nat) : Bool :=
  k == hubApSel || k == hubPrmCtl || (0x400 ≤ k && k < 0x800) || k == roleCfg || (0x60000 ≤ k && k < 0x61000)
/-- Registers whose writes go to the companion (R22, R550). -/
def compSide (k : Nat) : Bool := compReg k || k == pwrEvtR || k == pwrReg 0x018 || k == pwrReg 0x02C || k == pwrReg 0x030
def known (k : Nat) : Bool := isKcArea k || (regRow k).isSome

/-- The words an access covers. -/
def accWords (a : Access) : List Nat :=
  (List.range (ceilDiv (a.addr % 4 + a.count) 4)).map (fun i => a.addr / 4 * 4 + 4 * i)

/-! ## Reads -/

/-- KC_IDLE: the idle time and what is left of it in s (R461). -/
def kcIdleVal (m : Nat) (s : State) : Word :=
  let w := rd s (kcReg m 0x14)
  if kcOpen m s then setFld w 27 16 (ceilDiv ((box m s).due - s.hub.now) 1000000000) else w

/-- Q_COUNT: items and cells (R191). -/
def qCountVal (q : Nat) (s : State) : Word :=
  let k := queue q s
  w32 (k.items.length % 65536 * 65536 + queueCells k % 65536)

/-- F of the 32 pins of group `g` (R275). -/
def dlevelVal (g : Nat) (s : State) : Word :=
  w32 (sumN ((List.range 32).map (fun i => if (pin (32 * g + i) s).f then 2 ^ i else 0)))

/-- XB_DSTATp with its level and its safe bit (R279). -/
def dstatVal (p : Nat) (s : State) : Word := setBit (setBit (rd s (dReg p 0x10)) 0 (pin p s).f) 1 (atSafe p s)

/-- Bit `b` of XB_DSTAT over the 32 pins of group `g`. -/
def dstatBits (g b : Nat) (s : State) : Word :=
  w32 (sumN ((List.range 32).map (fun i => if rb s (dReg (32 * g + i) 0x10) b then 2 ^ i else 0)))

/-- HUB_NPEND: the notice queues that are not empty (R36, R48). -/
def npendVal (s : State) : Word :=
  w32 (sumN ((List.range 16).map (fun n => if (queue (608 + n) s).items.isEmpty then 0 else 2 ^ n)))

/-- The inkwell's own counts (R188): INK_STATUS, INK_CPL_USED, INK_SHARED, INK_FREE, INK_QUEUED, INK_INFLIGHT. -/
def inkVal (k : Nat) (s : State) : Word :=
  let t := s.ink.active
  if k = inkStatus then w32 (b2n (stagedDiffers s))
  else if k = inkReg 0x010 then w32 s.ink.cplUsed
  else if k = inkReg 0x014 then w32 (sharedS t % 65536 * 65536 + sharedU t s % 65536)
  else if k = inkReg 0x018 then w32 s.ink.free
  else if k = inkReg 0x01C then w32 s.ink.queued
  else if k = inkReg 0x020 then w32 s.ink.inflight
  else rd s k

/-- What a readable register shows: as stored, or the state it names. -/
def shown (k : Nat) (s : State) : Word :=
  let o := k % 0x1000
  if k = hubNpend then npendVal s
  else if k = hubTxTags then tagsWord s
  else if k = ringStatus then ringStatusVal s
  else if 0x20000 ≤ k && k < 0x20100 then inkVal k s
  else if k = ringReg 0x010 then credWord 1 s
  else if k = ringReg 0x014 then credWord 0 s
  else if 0x30100 ≤ k && k < 0x30140 then seenVal ((k - 0x30100) / 4) s
  else if 0x4100 ≤ k && k < 0x4200 then
    let n := (k - 0x4100) / 0x40
    if k % 0x40 = 4 then loW (baseVal n s) else if k % 0x40 = 8 then (base n s).hi else rd s k
  else if k = stkStatus then stkStatusVal s
  else if 0x10000 ≤ k && k < 0x20000 then (if o = 0x14 then kcIdleVal ((k - 0x10000) / 0x1000) s else rd s k)
  else if 0x28000 ≤ k && k < 0x30000 then (if k % 0x20 = 0x10 then qCountVal ((k - 0x28000) / 0x20) s else rd s k)
  else if k = pwrReg 0x024 then w32 (stbyNow s)
  else if 0x51000 ≤ k && k < 0x52000 then winWord k s
  else if 0x60000 ≤ k && k < 0x70000 then
    let p := (k - 0x60000) / 0x1000
    let n := (o - 0x100) / 0x10
    if o < 0x100 || 0x300 ≤ o then rd s k
    else if o % 0x10 = 0 then slotStat p n s else if o % 0x10 = 4 then loW (slotCtr p n s) else hiW (slotCtr p n s)
  else if 0x80000 ≤ k && k < 0x90000 then (canRead ((k - 0x80000) / 0x1000) o s).getD (rd s k)
  else if 0x100000 ≤ k && k < 0x200000 && 0xD8 ≤ o && o < 0xE8 then
    (if errCounts (nibMode ((k - 0x100000) / 0x1000) s) ((o - 0xD8) / 4) then rd s k else 0)
  else if 0x200000 ≤ k && k < 0x240000 then
    let q := (k - 0x200000) / 0x1000
    if o = 0x44 then qlRxd q s else if o = 0x48 then qlRxs q s else rd s k
  else if 0x301000 ≤ k && k < 0x305000 then (if k % 0x20 = 0x10 then dstatVal ((k - 0x301000) / 0x20) s else rd s k)
  else if 0x305000 ≤ k && k < 0x305040 then dlevelVal ((k - 0x305000) / 4) s
  else if 0x305040 ≤ k && k < 0x305080 then dstatBits ((k - 0x305040) / 4) 3 s
  else if 0x305080 ≤ k && k < 0x3050C0 then dstatBits ((k - 0x305080) / 4) 4 s
  else rd s k

/-- The value of one word of the map, as a read returns it; write-only registers read 0 (R18). -/
def readVal (k : Nat) (s : State) : Word :=
  if isKcArea k then w32 (leNat (kcBytes ((k - 0x10000) / 0x1000) (k % 0x1000) 4 s))
  else match regRow k with
    | none => 0
    | some r => if r.acc = .wo then 0 else shown k s

/-- What a read captures (R402, R73, R572). -/
def readCapture (k : Nat) (s : State) : State :=
  if 0x4100 ≤ k && k < 0x4200 && k % 0x40 = 4 then tbLoRead ((k - 0x4100) / 0x40) s
  else if k = laneReg 0 0x48 then prbsLoRead 0 s
  else if k = laneReg 1 0x48 then prbsLoRead 1 s
  else if k = pwrReg 0x024 then (stbyReadLo s).2
  else s

/-- Read one word. -/
def readReg (k : Nat) (s : State) : Word × State := let s := readCapture k s; (readVal k s, s)

/-- Read words in ascending order. -/
def readRegs : List Nat → State → List Word × State
  | [], s => ([], s)
  | k :: t, s =>
    let r := readReg k s
    let rest := readRegs t r.2
    (r.1 :: rest.1, rest.2)

/-- What a read of word `k` that returned `v` holds pending (R145, R296). -/
def commitsOf (k : Nat) (v : Word) (s : State) : List Commit :=
  match regRow k with
  | none => []
  | some r =>
    let q := (k - 0x200000) / 0x1000
    if r.acc = .rc then [.count k v.toNat]
    else if 0x200000 ≤ k && k < 0x240000 && k % 0x1000 = 0x44 && !qlRxen q s && !(quill q s).rxf.isEmpty then [.quillRx q]
    else []

/-- A pending value is one of word `k` (R147). -/
def sameWord (k : Nat) (c : Commit) : Bool :=
  match c with
  | .count off _ => off == k
  | .quillRx q => k == qlReg q 0x44
  | .canHp c => isHp k && (k - 0x80000) / 0x1000 == c
  | .frag _ _ => false

/-- A read of these words is held (R147). -/
def readHeld (ks : List Nat) (s : State) : Bool := s.tx.pend.any (fun p => p.what.any (fun c => ks.any (fun k => sameWord k c)))

/-- Blotter records a read covers. -/
def winRecords (ks : List Nat) (s : State) : List Nat :=
  ((ks.filter (fun k => 0x51000 ≤ k && k < 0x52000)).map (fun k => winRecord k s)).dedup

/-! ## Writes -/

/-- The enable bit that locks an RWL register is 1 (R18). -/
def rwlLocked (k : Nat) (s : State) : Bool :=
  let o := k % 0x1000
  if 0x4000 ≤ k && k < 0x6000 then rb s tbCtl 0
  else if 0x6000 ≤ k && k < 0x8000 then stkEn s
  else if 0x80000 ≤ k && k < 0x90000 then canEn ((k - 0x80000) / 0x1000) s
  else if 0x100000 ≤ k && k < 0x200000 then nibEn ((k - 0x100000) / 0x1000) s
  else if 0x200000 ≤ k && k < 0x240000 then qlEn ((k - 0x200000) / 0x1000) s
  else if 0x300000 ≤ k && k < 0x300800 then owner ((k - 0x300000) / 4) s != 0
  else if 0x300800 ≤ k && k < 0x300900 then groupClaimed ((k - 0x300800) / 0x10) s
  else if 0x401000 ≤ k && k < 0x401200 then rb s (winO (o / 0x20) 0) 0
  else if 0x401200 ≤ k && k < 0x402000 then rb s (winI ((o - 0x200) / 0x20) 0) 0
  else rb s pbpCtl 0

/-- A register without behaviour of its own takes a written word by its access type (R18, R19). A TX object's CAN_OBJi_ID
is not written (R356). -/
def plainWrite (k : Nat) (v : Word) (s : State) : State :=
  match regRow k with
  | none => s
  | some r =>
    let m := w32 r.mask
    match r.acc with
    | .rw => stm k m v s
    | .rwl =>
      let o := k % 0x1000
      let txId := 0x80000 ≤ k && k < 0x90000 && 0x804 ≤ o && o % 0x10 = 4 && objType ((k - 0x80000) / 0x1000) ((o - 0x804) / 0x10) s == 1
      if rwlLocked k s || txId then s else stm k m v s
    | .w1c => wr k (rd s k &&& ~~~(v &&& m)) s
    | .w1s => wr k (rd s k ||| (v &&& m)) s
    | .ro | .wo | .rc | .ros => s

/-- HUB_ and role registers. -/
def hubWrite (o : Origin) (k : Nat) (v : Word) (s : State) : State :=
  if k = hubCtl then hubCtlWrite v (if bit v 1 then inHand o s else s)
  else if k = roleCfg then roleRefresh 1 (roleRefresh 0 (plainWrite k v s))
  else plainWrite k v s

/-- INK_CTL (R171, R188): APPLY; the nibs' flow settings follow the active set. -/
def inkCtlWrite (v : Word) (s : State) : State := if bit v 0 then overUnits nibFlowna (liveNibs s) (inkApply s) else s

/-- Fault collector registers. -/
def fltWrite (k : Nat) (v : Word) (s : State) : State :=
  if k = fltCtl then fltCtlWrite v s
  else if k = fltStatus then fltStatusWrite v s
  else if k = 0x1020 then unquarWrite v s
  else if k = 0x1024 then fltInject v s
  else if 0x1400 ≤ k && k < 0x1800 then fltSevWrite ((k - 0x1400) / 4) v s
  else plainWrite k v s

/-- Time base registers. -/
def tbWrite (k : Nat) (v : Word) (s : State) : State :=
  let n := (k - 0x4100) / 0x40
  let o := k % 0x40
  if k = tbCtl then tbCtlWrite v s
  else if k < 0x4100 then plainWrite k v s
  else if o = 0 then tbBctlWrite n v s
  else if o = 0x0C then tbRateWrite n v s
  else if o = 0x10 then tbStepLoWrite n v s
  else if o = 0x14 then tbStepWrite n v s
  else plainWrite k v s

/-- Lane registers. -/
def laneWrite (k : Nat) (v : Word) (s : State) : State :=
  let l := (k - 0x38000) / 0x1000
  let o := k % 0x1000
  if o = 0 then laneCtlWrite l v s
  else if o = 0x010 then txeqWrite l v s
  else if o = 0x040 then prbsCtlWrite l v s
  else plainWrite k v s

/-- Registers of a key page, written by `who`; whether an MRAM write is read back well is not known (R585). -/
def cphWrite (k : Nat) (who v : Word) (s : State) : State :=
  let p := (k - 0x60000) / 0x1000
  let o := k % 0x1000
  if o = 0 then cphCtlWrite p v who s
  else if o = 0x014 then let (w, s) := fresh s; cphCmd p v (bit w 0) who s
  else if 0x020 ≤ o && o < 0x040 then keyinWrite p ((o - 0x020) / 4) v s
  else if 0x800 ≤ o then slotOwnWrite ((o - 0x800) / 4) v s
  else plainWrite k v s

/-- Pin, bank and discrete registers. -/
def xbWrite (k : Nat) (v : Word) (s : State) : State :=
  let p := (k - 0x301000) / 0x20
  let o := k % 0x20
  if k < 0x301000 || 0x305000 ≤ k then plainWrite k v s
  else if o = 0 then dfltWrite p v s
  else if o = 4 then ddetWrite p v s
  else if o = 8 then dlimWrite p v s
  else if o = 0xC then doutWrite p v s
  else plainWrite k v s

/-- Write one word of the map by requester `o`, known to the pages as `who`; how far a unit that is cut short has come is
not known to the map (bytes sent, bits shifted). -/
def writeReg (o : Origin) (who : Word) (k : Nat) (v : Word) (s : State) : State :=
  let f := k % 0x1000
  let n := k / 0x1000 % 0x1000
  if k < 0x1000 then hubWrite o k v s
  else if k < 0x4000 then fltWrite k v s
  else if k < 0x6000 then tbWrite k v s
  else if k = stkCtl then stkCtlWrite v s
  else if 0x10000 ≤ k && k < 0x20000 then
    (if f = 0 then kcCtlWrite (n - 0x10) o v s else if f = 4 then kcDoorbell (n - 0x10) o v s else plainWrite k v s)
  else if k = 0x20000 then inkCtlWrite v s
  else if 0x38000 ≤ k && k < 0x3A000 then laneWrite k v s
  else if k = 0x50008 then bltClrWrite v s
  else if 0x54000 ≤ k && k < 0x55000 && k % 0x100 = 0 then monCtlWrite ((k - 0x54000) / 0x100) v s
  else if 0x60000 ≤ k && k < 0x70000 then cphWrite k who v s
  else if 0x80000 ≤ k && k < 0x90000 then
    (if f = 0 then canCtlWrite (n - 0x80) v s
     else if f = 0x030 then canWdogWrite (n - 0x80) o v s
     else if 0x040 ≤ f && f < 0x050 then canTxcan (n - 0x80) ((f - 0x040) / 4) v s
     else plainWrite k v s)
  else if 0x100000 ≤ k && k < 0x200000 then
    (if f = 0 then let (sent, got, s) := nibFar s; nibCtlWrite (n - 0x100) v sent got s else plainWrite k v s)
  else if 0x200000 ≤ k && k < 0x240000 then
    (if f = 0 then let (c, s) := qlFar s; qlCtlWrite (n - 0x200) v c s
     else if f = 0x040 then (qlTxWrite (n - 0x200) v s).2
     else if 0x400 ≤ f then (qlStepWrite (n - 0x200) ((f - 0x400) / 0x200) (f % 0x200 / 4) v s).2
     else plainWrite k v s)
  else if 0x300000 ≤ k && k < 0x308000 then xbWrite k v s
  else if k = pbpCtl then pbpCtlWrite v s
  else if 0x401000 ≤ k && k < 0x401200 && k % 0x20 = 0 then winCtlWrite false ((k - 0x401000) / 0x20) v s
  else if 0x401200 ≤ k && k < 0x401300 && k % 0x20 = 0 then winCtlWrite true ((k - 0x401200) / 0x20) v s
  else plainWrite k v s

/-- Write words in ascending order. -/
def writeRegs (o : Origin) (who : Word) : Nat → List Word → State → State
  | _, [], s => s
  | k, v :: t, s => writeRegs o who (k + 4) t (writeReg o who k v s)

/-- A register that refuses a write: its status, and what the refusal counts (R295, R301, R532). -/
def refuses (who : Word) (k : Nat) (v : Word) (s : State) : Option (Status × State) :=
  let f := k % 0x1000
  let q := (k - 0x200000) / 0x1000
  if 0x60000 ≤ k && k < 0x70000 then (if cphDenied ((k - 0x60000) / 0x1000) who s then some (.denied, s) else none)
  else if 0x200000 ≤ k && k < 0x240000 && f = 0x040 then (let r := qlTxWrite q v s; if r.1 = .ok then none else some r)
  else if 0x200000 ≤ k && k < 0x240000 && 0x400 ≤ f then
    (let r := qlStepWrite q ((f - 0x400) / 0x200) (f % 0x200 / 4) v s; if r.1 = .ok then none else some r)
  else none

/-- The first register of a burst that refuses (R129). -/
def burstRefuses (who : Word) : Nat → List Word → State → Option (Status × State)
  | _, [], _ => none
  | k, v :: t, s => match refuses who k v s with
    | some r => some r
    | none => burstRefuses who (k + 4) t s

/-! ## Serving an access at this node -/

/-- What serving an access comes to: an answer with what its read holds pending, a read that is held (R147), or an answer that
comes later. -/
inductive Served where
  | now (st : Status) (d : List Byte) (cs : List Commit) (s : State)
  | held
  | later (s : State)

/-- A port window (R175, R176, R178, R189). -/
def portServe (o : Origin) (who : Word) (a : Access) (s : State) : Served :=
  let w := tget resetOf s.ink.active (inkReg (0x100 + 4 * ((a.addr - 0x24000) / 0x100)))
  let q := fld w 9 0
  if !bit w 31 then .now .ur [] [] s
  else if a.addr % 0x100 ≠ 0 || a.count < 8 then .now .ua [] [] s
  else match a.kind with
    | .rd =>
      if a.count = 8 then .now .ok (peekBytes q s) [] s
      else if (remoteSub q s).isSome then .now .ur [] [] s
      else .later (flow 8 q (putQueue q { queue q s with held := (queue q s).held ++ [⟨o, a.addr, a.count⟩] } s))
    | .wrN | .wrP =>
      if pushDenied q who s && !(q == 672 && o == .pairM) then .now .denied [] [] s
      else
        let r := pushItem q (wordAt a.data 0) (wordAt a.data 4) ((a.data.take a.count).drop 8) s
        .now r.1 [] [] r.2

/-- A read of registers (R128, R129, R145, R147, R338). -/
def regRead (a : Access) (s : State) : Served :=
  let ks := accWords a
  let c := (a.addr - 0x80000) / 0x1000
  if readHeld ks s then .held
  else if ks.any isHp then
    (if a.count = 80 && a.addr % 0x1000 = 0x140 then
      .now .ok (canHpBytes c s) (if (can c s).hp.isEmpty then [] else [.canHp c]) s
     else .now .ua [] [] s)
  else
    let r := readRegs ks s
    let cs := (ks.zip r.1).flatMap (fun e => commitsOf e.1 e.2 s)
    .now .ok (r.1.flatMap wordBytes) cs (bltTouchAll (winRecords ks s) r.2)

/-- A write of registers (R128, R129, R22, R23). -/
def regWrite (o : Origin) (who : Word) (a : Access) (s : State) : Served :=
  let ks := accWords a
  let ws := bytesWords (a.count / 4) a.data
  match burstRefuses who a.addr ws s with
  | some r => .now r.1 [] [] r.2
  | none =>
    if ks.any isDin then
      match dinWrite ((a.addr - 0x60000) / 0x1000) o a s with
      | (some st, s) => .now st [] [] s
      | (none, s) => .later s
    else if ks.any compSide then
      (if !d2dUp s || s.hub.cprst then .now .busy [] [] s
       else .later (setHub { s.hub with d2dWait := s.hub.d2dWait ++ [(o, a)] } s))
    else if isKcArea a.addr then .now .ok [] [] (kcAreaWrite ((a.addr - 0x10000) / 0x1000) (a.addr % 0x1000) o (a.data.take a.count) s)
    else .now .ok [] [] (writeRegs o who a.addr ws s)

/-- An access to the register pages of this node (R20, R124, R128, R129). -/
def regServe (o : Origin) (who : Word) (a : Access) (s : State) : Served :=
  if isPort a.addr then portServe o who a s
  else if (accWords a).any (fun k => !known k) then .now .ur [] [] s
  else if a.count < 4 then .now .ua [] [] s
  else if a.kind = .rd then regRead a s
  else regWrite o who a s

/-- Mark what a read holds pending, and answer it (R145). -/
def finish (o : Origin) (a : Access) (r : Served) (s : State) : State :=
  match r with
  | .now st d cs s' => answer o a st d (if cs.isEmpty then s' else setTx { s'.tx with pend := s'.tx.pend ++ [⟨o, cs⟩] } s')
  | .held => setTx { s.tx with held := s.tx.held ++ [(o, a)] } s
  | .later s' => s'

/-- Offset of the first and after the last byte of permission region `r` (R143, R162). -/
def prmBase (r : Nat) (s : State) : Nat := rf s (0x404 + 0x40 * r) 23 0 * 2 ^ 32 + rf s (0x400 + 0x40 * r) 31 12 * 4096
def prmEnd (r : Nat) (s : State) : Nat := rf s (0x40C + 0x40 * r) 23 0 * 2 ^ 32 + rf s (0x408 + 0x40 * r) 31 12 * 4096 + 4096
def prmMatch (r addr : Nat) (s : State) : Bool := rb s (0x410 + 0x40 * r) 0 && prmBase r s ≤ addr && addr < prmEnd r s

/-- The permission tables let node `src` make access `a` (R143). -/
def permitted (src : Nat) (a : Access) (s : State) : Bool :=
  match (List.range 16).find? (fun r => prmMatch r a.addr s) with
  | none => !rb s hubPrmCtl 0
  | some r =>
    src != 0 && src != 255 && rb s (0x420 + 0x40 * r + 4 * (src / 32)) (src % 32) &&
    rb s (0x410 + 0x40 * r) (if a.kind = .rd then 1 else 2)

/-- The requester's access comes, or counts as coming, from the ring (R143, R377). -/
def ringSide : Origin → Bool
  | .ring _ _ => true
  | .bridge _ => true
  | .pcie _ _ | .spi | .pairK | .pairM => false

/-- A request from the ring that R143 or R144 refuses. -/
def denied (o : Origin) (a : Access) (s : State) : Bool :=
  ringSide o && (!permitted (orgNode o s) a s || (a.kind != .rd && (accWords a).any localOnly))

/-- Serve access `a` of requester `o` at this node; one that meets an error on the local interconnect completes POISON (R494). -/
def serve (o : Origin) (a : Access) (s : State) : State :=
  if s.hub.rstHeld || s.hub.lporHeld then answer o a .busy [] s
  else if s.hub.icBad then answer o a .poison [] (setHub { s.hub with icBad := false } s)
  else if denied o a s then answer o a .denied [] (if a.kind = .wrP then s else bump hubCntDenied 1 s)
  else if !legalAccess a then answer o a .ua [] s
  else if 2 ^ 41 ≤ a.addr then answer o a .ur [] s
  else if 2 ^ 40 ≤ a.addr then pbpRequest o a s
  else finish o a (regServe o (holderWord o s) a s) s

/-! ## The order of requests at this node (R133) -/

/-- Requests that R133 keeps in order: those of one other node, and those of one requester of this hub. A target cannot tell
requesters of another hub apart, and keeps all requests of that hub in order (DEDUCED, log entry 22). -/
def orderKey : Origin → Nat
  | .ring src _ => src
  | .pcie _ _ => 256
  | .spi => 257
  | .pairK => 258
  | .pairM => 259
  | .bridge _ => 260

/-- A request of `key` has been taken in and has not taken effect yet: one that has a completion to come, or a WR_P that the companion
or the backplane has yet to take. -/
def unserved (key : Nat) (s : State) : Bool :=
  s.tx.own.any (fun e => orderKey e.org == key) || s.hub.d2dWait.any (fun e => orderKey e.1 == key) ||
  s.pbp.todo.any (fun q => orderKey q.org == key && q.acc.kind == .wrP && !q.posted)

/-- Serve a request, noting that its completion is to come. -/
def startServe (o : Origin) (a : Access) (s : State) : State :=
  serve o a (if a.kind = .wrP then s else setTx { s.tx with own := s.tx.own ++ [{ org := o, acc := a }] } s)

/-- A request arrives at this node: it waits behind every earlier one of its requester's hub that has not taken effect (R133). -/
def arrive (o : Origin) (a : Access) (s : State) : State :=
  if unserved (orderKey o) s || s.tx.order.any (fun e => orderKey e.1 == orderKey o) then
    setTx { s.tx with order := s.tx.order ++ [(o, a)] } s
  else startServe o a s

/-- The first waiting request that none of its requester's hub is ahead of, and the others. -/
def nextInOrder (s : State) : List Nat → List (Origin × Access) → Option ((Origin × Access) × List (Origin × Access))
  | _, [] => none
  | seen, e :: t =>
    let k := orderKey e.1
    if seen.contains k || unserved k s then (nextInOrder s (k :: seen) t).map (fun r => (r.1, e :: r.2)) else some (e, t)

/-- Waiting requests are served as soon as their order allows, the oldest first (R133). -/
def orderProceed : Nat → State → State
  | 0, s => s
  | n + 1, s =>
    match nextInOrder s [] s.tx.order with
    | none => s
    | some (e, rest) => orderProceed n (startServe e.1 e.2 (setTx { s.tx with order := rest } s))

/-- The request at place `i` of those that wait to be retried here. -/
def retryAt (i : Nat) (s : State) : Option OwnReq := nthD none ((s.tx.own.filter (fun e => e.waits)).map some) i

/-- 10 µs after its BUSY answer a request is served again (R142). -/
def ownRetry (i : Nat) (s : State) : State :=
  match retryAt i s with
  | none => s
  | some e =>
    let again (x : OwnReq) : OwnReq := if x.waits && x.org = e.org then { x with waits := false, tries := x.tries + 1 } else x
    serve e.org e.acc (setTx { s.tx with own := s.tx.own.map again } s)

/-- HUB_TX_CTO has passed since the first issue of a request that waits to be retried here: it ends BUSY (R142). -/
def ownBusyEnd (i : Nat) (s : State) : State :=
  match retryAt i s with
  | none => s
  | some e =>
    let s := setTx { s.tx with own := s.tx.own.map (fun x => if x.org = e.org then { x with waits := false } else x) } s
    complete e.org (ownNode s) e.acc .busy [] s

/-! ## Requests of this node (R123, R124, R128, R132) -/

/-- A request of the own node's requester `o` to `node` (0: the own node). A posted write to another node ends for its
requester when it is sent (R127). -/
def request (o : Origin) (node : Nat) (a : Access) (s : State) : State :=
  if !legalAccess a then complete o (targetNode node s) a .ua [] (countStatus true .ua s)
  else if node = 255 then complete o node a .ur [] (countStatus true .ur s)
  else if node = 0 || node = ownNode s then arrive o a s
  else if a.kind = .wrP then complete o node a .ok [] (issueRemote o node a s)
  else issueRemote o node a s

def requests (o : Nat → Origin) : Nat → List (Nat × Access) → State → State
  | _, [], s => s
  | i, (node, a) :: t, s => requests o (i + 1) t (request (o i) node a s)

/-! ## Requests from the ring (R127, R140, R141) -/

/-- An RD or WR_N arrives: a full sink answers BUSY at once (R140). -/
def ringRequest (src tag : Nat) (a : Access) (s : State) : State :=
  let o := Origin.ring src tag
  if 64 ≤ s.tx.sink.length then complete o (ownNode s) a .busy [] s
  else arrive o a (setTx { s.tx with sink := s.tx.sink ++ [(src, tag)] } s)

/-- A WR_P arrives (R141). -/
def ringPosted (src : Nat) (a : Access) (s : State) : State := arrive (.ring src 0) a s

/-- Held reads that may proceed now do so, in the order of their arrival (R147). -/
def retryHeld : List (Origin × Access) → State → State
  | [], s => s
  | (o, a) :: t, s => retryHeld t (finish o a (regServe o (holderWord o s) a s) s)

def heldProceed (s : State) : State :=
  if s.tx.held.isEmpty then s else retryHeld s.tx.held (setTx { s.tx with held := [] } s)

/-! ## PCIe (R151–R154) -/

/-- Target of BAR2 offset `x` (R152). -/
def bar2 (x : Nat) (s : State) : Nat × Nat := (rf s hubApSel 31 24, rf s hubApSel 23 0 * 2 ^ 32 + x)

/-- A PCIe memory request over runs of contiguous enabled bytes: offset in the BAR, and count or data. -/
def pcieAccs (bar : Nat) (kind : AccKind) (runs : List (Nat × Nat × List Byte)) (s : State) : List (Nat × Access) :=
  runs.flatMap (fun r =>
    let (node, off) := if bar = 2 then bar2 r.1 s else (0, r.1)
    (splitRun kind r.2.1 off r.2.1 r.2.2).map (fun a => (node, a)))

/-- Take the request in and issue its accesses. -/
def pcieRequest (bar : Nat) (kind : AccKind) (runs : List (Nat × Nat × List Byte)) (s : State) : State :=
  let id := s.tx.nextReq
  let l := pcieAccs bar kind runs s
  let r : PcieReq := { id := id, read := kind == .rd, accs := l.map (fun e => { node := if e.1 = 0 then ownNode s else e.1, acc := e.2 }) }
  let s := setTx { s.tx with nextReq := id + 1, pcie := s.tx.pcie ++ [r] } s
  requests (fun i => .pcie id i) 0 l s

/-! ## The MSI-X table (R48, log entry 27) -/

/-- Vectors that are pending and masked no more are sent. -/
def msixRelease (s : State) : State :=
  let go := s.hub.msixPend.filter (fun v => !vecMasked v s)
  setHub { s.hub with msix := s.hub.msix ++ go, msixPend := s.hub.msixPend.filter (fun v => vecMasked v s) } s

/-- A word written to the table; a vector control word holds its mask bit only. -/
def msixWord (k : Nat) (v : Word) (s : State) : State :=
  if 0x400 ≤ k then s
  else setHub { s.hub with msixTab := tset msixReset s.hub.msixTab k (if k % 16 = 12 then v &&& 1#32 else v) } s

def msixWords : Nat → List Word → State → State
  | _, [], s => s
  | k, w :: t, s => msixWords (k + 4) t (msixWord k w s)

/-- The word at offset `k`: the table, and the pending bits at 0x400. -/
def msixRead (s : State) (k : Nat) : Word :=
  if k < 0x400 then tget msixReset s.hub.msixTab k
  else w32 (sumN ((s.hub.msixPend.filter (fun v => v / 32 = (k - 0x400) / 4)).map (fun v => 2 ^ (v % 32))))

/-- A PCIe memory write to the table: runs of whole words. -/
def msixWrite : List (Nat × List Byte) → State → State
  | [], s => msixRelease s
  | r :: t, s => msixWrite t (msixWords (r.1 / 4 * 4) (bytesWords (r.2.length / 4) r.2) s)

/-- A PCIe memory read of the table: each run is answered with its bytes. -/
def msixReads (runs : List (Nat × Nat)) (s : State) : State :=
  let id := s.tx.nextReq
  let body (r : Nat × Nat) : List Byte :=
    (((List.range (r.2 / 4 + 2)).flatMap (fun i => wordBytes (msixRead s (r.1 / 4 * 4 + 4 * i)))).drop (r.1 % 4)).take r.2
  let cpl := (List.range runs.length).zip runs |>.map (fun e => PcieCpl.data id e.1 false (body e.2))
  setTx { s.tx with nextReq := id + 1, pcieOut := s.tx.pcieOut ++ cpl } s

/-! ## SPI (R155–R157) -/

def setSpi (v : SpiSt) (s : State) : State := setTx { s.tx with spi := v } s

/-- Bytes of an address, most significant first. -/
def beBytes (n a : Nat) : List Byte := (leBytes n a).reverse

/-- A read of the SPI master. -/
def spiRd (o : Origin) (a : Access) : Bool := o == .spi && a.kind == .rd

/-- The SPI master has abandoned its read: what it held pending returns, and no outcome that is still to come goes to a later frame
(R148, R157). -/
def spiAbandon (s : State) : State :=
  let p := s.tx.spi
  if !p.readOpen then s
  else
    let x := s.tx
    let stale := if p.res.isNone && s.pbp.todo.any (fun q => spiRd q.org q.acc) then p.stale + 1 else p.stale
    let x := { x with
      held := x.held.filter (fun e => !spiRd e.1 e.2), order := x.order.filter (fun e => !spiRd e.1 e.2),
      own := x.own.filter (fun e => !spiRd e.org e.acc), wait := x.wait.filter (fun e => !spiRd e.org e.acc),
      tags := x.tags.map (fun e => (e.1, if e.2.use = .out && spiRd e.2.org e.2.acc then { e.2 with gone := true } else e.2)),
      spi := { p with readOpen := false, res := none, cells := 0, hdr := [], stale := stale } }
    returnOrg .spi (dropPops (fun o => o == .spi) s.ink.queues (setTx x s))

/-- A WRITE or FWRITE frame ends: `addr` as sent in `n` bytes, data bytes, the CRC byte received if one is on (R156). A frame with no
data word, or with more than the opcode takes (R155), is discarded and shows in no bit of STATUS (DESIGN CHOICE, log entry 24). A
write that ends while one before it is outstanding runs after it; STATUS [7] and [3:0] are then its own (DESIGN CHOICE, log entry 25). -/
def spiWrite (op : Byte) (n node off addr : Nat) (most : Nat) (data : List Byte) (crc : Byte) (s : State) : State :=
  let p := s.tx.spi
  let crcBad := rb s hubSpiCfg 0 && crc8 (op :: (beBytes n addr ++ data)) != crc
  let part := data.length % 4 != 0 || data.isEmpty || 4 * most < data.length
  let p := { p with badCrc := crcBad, partial_ := data.length % 4 != 0 }
  if crcBad || part then setSpi p s
  else
    let accs := (splitRun .wrN data.length off data.length data).map (fun a => (node, a))
    setSpi { p with writes := p.writes ++ [accs], first := .ok } s

/-- A READ or FREAD frame up to its count byte (R157). A read is one access of its whole length: a length or an offset that no access
of R128 has completes UA (DESIGN CHOICE, log entry 26: R156 has only writes split). The frame changes no bit of STATUS but by a read
abandoned (DESIGN CHOICE, log entry 24: bits [6] and [5] tell of the last WRITE or FWRITE frame). -/
def spiRead (op : Byte) (n node off addr words : Nat) (s : State) : State :=
  let hdr := op :: (beBytes n addr ++ [BitVec.ofNat 8 (words - 1)])
  let s := setSpi { s.tx.spi with readOpen := true, res := none, hdr := hdr } (spiAbandon s)
  request .spi node ⟨.rd, off, 4 * words, []⟩ s

/-- STATUS (R156). -/
def spiStatusByte (s : State) : Byte :=
  let p := s.tx.spi
  BitVec.ofNat 8 (b2n (!p.writes.isEmpty) * 128 + b2n p.badCrc * 64 + b2n p.partial_ * 32 + p.first.code)

/-- CS_N rises with `waits` wait bytes and `clocked` bytes of the answer shifted out: marker, status, data, CRC-8 (R157). A value
commits once its last data byte is out, else it returns (R148). -/
def spiCsRise (waits clocked : Nat) (s : State) : State :=
  let p := s.tx.spi
  if !p.readOpen then s
  else match p.res with
    | none => spiAbandon (setSpi { p with out := List.replicate (waits + clocked) 0 } s)
    | some (st, d) =>
      let s := setSpi { p with
        readOpen := false, res := none, cells := 0, hdr := [],
        out := (spiAnswer (rb s hubSpiCfg 0) p.hdr waits st d).take (waits + clocked) } s
      if st = .ok && d.length + 2 ≤ clocked then commitOrg .spi s else returnOrg .spi s

/-- The accesses of SPI writes are issued one after the other, each once the one before has completed (R156). -/
def spiPump : Nat → State → State
  | 0, s => s
  | n + 1, s =>
    let p := s.tx.spi
    if p.busy then s
    else match p.writes with
      | [] => s
      | [] :: t => spiPump n (setSpi { p with writes := t } s)
      | ((node, a) :: w) :: t => spiPump n (request .spi node a (setSpi { p with busy := true, writes := w :: t } s))

/-- Steps that the writes waiting can take. -/
def spiSteps (s : State) : Nat := sumN (s.tx.spi.writes.map (fun w => w.length + 1))

end Sys2Proof.Machine
end

