-- ==== Sys2Proof/Machine/Cfg.lean ====
section
/-! DEFINITION. Kilco configuration commands (R459, R454), the stepped commands and their steps (R446–R450, R596, R597), and the
time, stroke, quill and PRBS commands (R423, R271, R311, R312, R74). -/
namespace Sys2Proof.Machine
open Sys2Proof

/-! ## One register at a time, as requests of pair K (R459) -/

/-- Read one register: the commit comes with the data (R148). An offset in the bridge's space is no register. -/
def cfgGet (k : Nat) (s : State) : Status × Word × State :=
  if k % 4 ≠ 0 then (.ua, 0, countStatus true .ua s)
  else if 2 ^ 40 ≤ k then (.ur, 0, countStatus true .ur s)
  else match regServe .pairK 0 ⟨.rd, k, 4, []⟩ s with
    | .now st d cs s' => (st, wordAt d 0, commitAll cs (countStatus true st s'))
    | .held => (.busy, 0, s)
    | .later s' => (.busy, 0, s')

/-- Write one register, as `who`: a companion-side one is acknowledged at once or, with the link lost, BUSY (R22, R23). -/
def cfgPut (who : Word) (k : Nat) (v : Word) (s : State) : Status × State :=
  if k % 4 ≠ 0 then (.ua, countStatus true .ua s)
  else if 2 ^ 40 ≤ k then (.ur, countStatus true .ur s)
  else if compSide k && known k then
    (if d2dUp s && !s.hub.cprst then (.ok, copyComp (compWords k [v] s)) else (.busy, countStatus true .busy s))
  else match regServe .pairK who ⟨.wrN, k, 4, wordBytes v⟩ s with
    | .now st _ _ s' => (st, countStatus true st s')
    | .held => (.busy, s)
    | .later s' => (.ok, s')

/-- Read on until a status other than OK: what was read, that status. -/
def cfgGets : Nat → Nat → State → List Word × Status × State
  | 0, _, s => ([], .ok, s)
  | n + 1, k, s =>
    match cfgGet k s with
    | (.ok, w, s) => let r := cfgGets n (k + 4) s; (w :: r.1, r.2)
    | (st, _, s) => ([], st, s)

/-- Write on until a status other than OK: how many were written, that status. -/
def cfgPuts (who : Word) : Nat → List Word → State → Nat × Status × State
  | _, [], s => (0, .ok, s)
  | k, v :: t, s =>
    match cfgPut who k v s with
    | (.ok, s) => let r := cfgPuts who (k + 4) t s; (r.1 + 1, r.2)
    | (st, s) => (0, st, s)

def cfgOff (raw : List Byte) : Nat := (par raw 1).toNat * 4294967296 + (par raw 0).toNat
def cfgN (raw : List Byte) : Nat := fld (par raw 2) 6 0

/-- CFG_READ: it waits, its packet pending, while one of its registers holds a pending value (R147). -/
def kcCfgRead (m : Nat) (raw : List Byte) (s : State) : State :=
  let n := cfgN raw
  let k := cfgOff raw
  if n = 0 || 64 < n then kcRefuse m 5 [] s
  else if readHeld ((List.range n).map (fun i => k + 4 * i)) s then s
  else match cfgGets n k s with
    | (l, .ok, s) => kcOk m l s
    | (l, st, s) => kcRefuse m 9 [w32 l.length, w32 st.code] s

/-- CFG_WRITE. -/
def kcCfgWrite (m : Nat) (raw : List Byte) (s : State) : State :=
  let n := cfgN raw
  let k := cfgOff raw
  if n = 0 || 64 < n || (k < 0x20000 && 0x10000 < k + 4 * n) then kcRefuse m 5 [] s
  else if pkLen raw < 12 + 4 * n then kcRefuse m 8 [] s
  else match cfgPuts (rd s (kcReg m 0x10)) k ((List.range n).map (fun i => par raw (3 + i))) s with
    | (_, .ok, s) => kcOk m [w32 n] s
    | (i, st, s) => kcRefuse m 9 [w32 i, w32 st.code] s

/-! ## Enable bits (R452–R454) -/

/-- The enable bit in register `k`, and where its result stands: register, high and low bit of the field (R454). -/
def enableBit (k : Nat) : Option (Nat × Nat × Nat × Nat) :=
  let o := k % 0x1000
  if k = hubCtl then some (0, hubReason, 31, 0)
  else if k = 0x20000 then some (0, inkReason, 31, 0)
  else if 0x100000 ≤ k && k < 0x240000 && o = 0 then some (0, k + 8, 31, 0)
  else if 0x301000 ≤ k && k < 0x305000 && k % 0x20 = 0xC then some (31, k + 4, 31, 24)
  else if k = stkCtl then some (0, stkReason, 31, 0)
  else if 0x80000 ≤ k && k < 0x90000 && o = 0 then some (0, k + 8, 31, 0)
  else if k = pbpCtl then some (0, pbpStatus, 7, 0)
  else if 0x401000 ≤ k && k < 0x401300 && k % 0x20 = 0 then some (0, k + 4, 7, 0)
  else if k = tbCtl then some (0, tbReason, 31, 0)
  else if 0x41000 ≤ k && k < 0x41200 && k % 0x40 = 0 then some (0, k + 4, 7, 0)
  else if k = feedReg 0 0 || k = feedReg 1 0 then some (0, k + 4, 7, 0)
  else if 0x60000 ≤ k && k < 0x70000 && o = 0 then some (0, k + 4, 7, 0)
  else none

/-- The reason code the check of register `k`'s enable bit would give (R454). -/
def wouldGive (k : Nat) (s : State) : Nat :=
  let n := k / 0x1000 % 0x1000
  if k = hubCtl then hubCheck s
  else if k = 0x20000 then (totalsCheck s).1
  else if 0x100000 ≤ k && k < 0x200000 then fld (nibCheck (n - 0x100) s) 7 0
  else if 0x200000 ≤ k && k < 0x240000 then fld (qlCheck (n - 0x200) s) 7 0
  else if 0x301000 ≤ k && k < 0x305000 then doutCheck ((k - 0x301000) / 0x20) s
  else if k = stkCtl then stkCheck s
  else if 0x80000 ≤ k && k < 0x90000 then fld (canCheck (n - 0x80) s) 7 0
  else if k = pbpCtl then pbpCheck s
  else if 0x401000 ≤ k && k < 0x401200 then winCheck false ((k - 0x401000) / 0x20) s
  else if 0x401200 ≤ k && k < 0x401300 then winCheck true ((k - 0x401200) / 0x20) s
  else if k = tbCtl then tbCheck s
  else if 0x41000 ≤ k && k < 0x41200 then slotCheck ((k - 0x41000) / 0x40) s
  else if 0x60000 ≤ k && k < 0x70000 then cphCheck ((k - 0x60000) / 0x1000) s
  else if !feedRule (crd s (k + 0x14)) (crd s (k + 0x18)) then 0x78
  else if !rshOk (crd s (k + 0x1C)) then 0x7A else 0

/-- Write the enable bit of `k` as `who` (R452, R453): the status of the write, and the reason code of a failed check. -/
def enableWrite (who : Word) (k b : Nat) (on : Bool) (s : State) : Status × Nat × State :=
  let old := if k = 0x20000 then 0 else readVal k s
  let (st, s') := cfgPut who k (setBit old b on) s
  match enableBit k with
  | none => (st, 0, s')
  | some (_, r, _, lo) =>
    let failed := on && !bit old b && (if k = 0x20000 then rf s' inkReason 7 0 != 0 else !bit (readVal k s') b)
    (st, if st = .ok && failed then rf s' r (lo + 7) lo else 0, s')

/-- CFG_ENABLE. A write that does not complete OK is refused as a register access is (0x09). -/
def kcCfgEnable (m : Nat) (raw : List Byte) (s : State) : State :=
  let k := cfgOff raw
  match enableBit k with
  | none => kcRefuse m 0x0A [] s
  | some (b, r, hi, lo) =>
    if fld (par raw 2) 4 0 ≠ b then kcRefuse m 0x0A [] s
    else match enableWrite (rd s (kcReg m 0x10)) k b (bit (par raw 2) 8) s with
      | (.ok, 0, s) => kcOk m [w32 (rf s r hi lo)] s
      | (.ok, c, s) => kcRefuse m c [] s
      | (st, _, s) => kcRefuse m 9 [0, w32 st.code] s

/-- CFG_CHECK: for a bit that reads 1, a write of 1 would run no test. -/
def kcCfgCheck (m : Nat) (raw : List Byte) (s : State) : State :=
  let k := cfgOff raw
  match enableBit k with
  | none => kcRefuse m 0x0A [] s
  | some (b, _, _, _) =>
    if fld (par raw 2) 4 0 ≠ b then kcRefuse m 0x0A [] s
    else
      let c := if k ≠ 0x20000 && bit (readVal k s) b then 0 else wouldGive k s
      if c = 0 then kcOk m [0] s else kcRefuse m c [] s

/-! ## The configuration store (R596) -/

/-- Block of R596 a register belongs to, 0 = it is not stored. -/
def cfgBlock (k : Nat) : Nat :=
  let o := k % 0x1000
  match regRow k with
  | none => 0
  | some r =>
    if k = hubCtl then 8
    else if k = 0x20000 then 0
    else if !(r.acc == .rw || r.acc == .rwl) then 0
    else if 0x080 ≤ k && k < 0x1000 then 1
    else if 0x38000 ≤ k && k < 0x3A000 && (o = 0 || o = 0x010) then 1
    else if 0x300000 ≤ k && k < 0x308000 then 2
    else if isStaged k then 3
    else if 0x4000 ≤ k && k < 0x6000 then 4
    else if (0x80000 ≤ k && k < 0x90000) || (0x100000 ≤ k && k < 0x240000) || (0x400000 ≤ k && k < 0x402000) then 5
    else if 0x6000 ≤ k && k < 0x8000 then 6
    else if (0x40100 ≤ k && k < 0x40200) || (0x41000 ≤ k && k < 0x42000) then 7
    else 0

/-- Bits of a register that are stored: LANE_CTL its VMAX and ADAPT, HUB_CTL its RUN. -/
def cfgMask (k : Nat) : Word :=
  if k = hubCtl then 1 else if k = laneReg 0 0 || k = laneReg 1 0 then 0x1C#32 else 0xFFFFFFFF#32

/-- The current configuration: what does not hold its reset value. -/
def cfgNow (s : State) : Tbl Word :=
  (s.regs.filter (fun e => cfgBlock e.1 ≠ 0)).map (fun e => (e.1, (e.2 &&& cfgMask e.1) ||| (resetOf e.1 &&& ~~~cfgMask e.1)))

/-- Put a store into physical place `n`. -/
def putStore (n : Nat) (v : StoreSt) (s : State) : State :=
  bootRefresh (nvWrote (setBoot (if n = 0 then { s.boot with st0 := some v } else { s.boot with st1 := some v }) s))

/-- The physical store a save writes, and its generation: the older one, with the current generation + 1. -/
def saveTo (s : State) : Nat × Nat :=
  match storeNo true s with
  | some (n, v) => (1 - n, v.gen + 1)
  | none => (0, 1)

/-- The end of CFG_SAVE. -/
def cfgSaveEnd (m i : Nat) (s : State) : State :=
  let (n, g) := saveTo s
  endJob m i 3 0 0 [w32 g] (putStore n { gen := g, fmt := cfgFmt s, regs := cfgNow s } s)

/-- The end of a migration: the converted store is in force (R597). -/
def migrateEnd (m i : Nat) (s : State) : State :=
  match storeNo true s with
  | none => endJob m i 3 0 0 [] s
  | some (n, v) =>
    let slot := rf s bootStatus 28 28
    let s := putStore (1 - n) { gen := v.gen + 1, fmt := cfgFmt s, regs := v.regs } s
    let s := bootBlot 0x55 slot 0 s.boot.ver (w32 (v.fmt % 256 * 256 + cfgFmt s)) s
    unitEvent bootEvtR (bootReg 0x008) 3 22 slot 0 (endJob m i 3 0 0 [] s)

/-! ## Restoring (R596) -/

/-- Keys of block `b` in the store or now off their reset value, ascending. -/
def restoreKeysOf (b : Nat) (st : Tbl Word) (s : State) : List Nat :=
  let now := s.regs.filter (fun e => cfgBlock e.1 == b)
  let t := (st.filter (fun e => cfgBlock e.1 == b)).foldl (fun t e => tins (tdel t e.1) e.1 e.2) now
  t.map (fun e => e.1)

/-- A slot feed that is enabled is left as it is (R24, R596). -/
def leftAlone (k : Nat) (s : State) : Bool := 0x41000 ≤ k && k < 0x41200 && rb s (k - k % 0x40) 0

/-- The stored value of a register, what it does not store as it now is. -/
def stored (st : Tbl Word) (k : Nat) (s : State) : Word :=
  (tget resetOf st k &&& cfgMask k) ||| (rd s k &&& ~~~cfgMask k)

/-- Every setting, with its enable bit 0. -/
def putSettings (st : Tbl Word) : List Nat → State → State
  | [], s => s
  | k :: t, s =>
    let v := stored st k s
    let v := match enableBit k with | some (b, _, _, _) => setBit v b false | none => v
    putSettings st t (if leftAlone k s then s else (cfgPut (w32 (ownNode s)) k v s).2)

/-- A check that fails is recorded and counted, in BOOT_STATUS.RSTFAIL as well (R596, R605). -/
def restoreFail (k c : Nat) (s : State) : State :=
  let slot := rf s bootStatus 28 28
  let s := wf bootStatus 15 8 (min 255 (rf s bootStatus 15 8 + 1)) s
  bootBlot 0x54 slot c s.boot.ver (w32 k) (raise 254 (w32 (c % 256)) s)

/-- The enable bits that are stored as 1, in ascending order; how many checks failed. -/
def putEnables (st : Tbl Word) : List Nat → State → Nat × State
  | [], s => (0, s)
  | k :: t, s =>
    match enableBit k with
    | none => putEnables st t s
    | some (b, r, _, lo) =>
      if !bit (stored st k s) b || leftAlone k s then putEnables st t s
      else
        let s := (cfgPut (w32 (ownNode s)) k (stored st k s) s).2
        if bit (readVal k s) b then putEnables st t s
        else let x := putEnables st t (restoreFail k (rf s r (lo + 7) lo) s); (x.1 + 1, x.2)

/-- One block of a restore: how many checks failed. -/
def restoreBlock (b : Nat) (st : Tbl Word) (s : State) : Nat × State :=
  let ks := restoreKeysOf b st s
  let offs := ks.filter (fun k => (enableBit k).isSome)
  let s := putSettings st ks (putSettings st offs s)
  if b = 3 then
    let s := inkCtlWrite 1 s
    if rf s inkReason 7 0 = 0 then (0, s) else (1, restoreFail 0x20000 (rf s inkReason 7 0) s)
  else putEnables st offs s

/-- One step of CFG_RESTORE: the next block; the failures so far stand in the job's result. -/
def restoreStep (m : Nat) (j : Job) (prev : Bool) (s : State) : State :=
  match storeNo (!prev) s with
  | none => endJob m j.slot 3 2 0x0B [] s
  | some (_, v) =>
    let (n, s) := restoreBlock (j.steps + 1) v.regs (if j.steps = 0 then wf bootStatus 15 8 0 s else s)
    let fails := (wordAt (j.result.flatMap wordBytes) 0).toNat + n
    if j.steps = 7 then endJob m j.slot 3 0 0 [w32 v.gen, w32 fails] s
    else putJob m { j with steps := j.steps + 1, result := [w32 fails] } s

/-! ## Steps (R446–R450) -/

/-- A step of a job: `last` says that the work ends with it, `ok` that its writes to MRAM read back well (R585). -/
def stepJob (m : Nat) (j : Job) (last ok : Bool) (s : State) : State :=
  let more (s : State) : State := putJob m { j with steps := j.steps + 1 } s
  if nvInhibited s && jobWritesNv j.kind then putJob m { j with state := 2 } s
  else match j.kind with
    | .cfgSave =>
      if !ok then let (st, r, s) := freeOutcome (nvFail s); endJob m j.slot 3 st r [] s
      else if last then cfgSaveEnd m j.slot s else more (nvWrote s)
    | .cfgRestore prev => restoreStep m j prev s
    | .fwVerify n g => if last then fwVerifyEnd m j.slot n g s else more s
    | .fwActivate n => fwActivateStep m j n s
    | .lanePrbs _ => more s
    | .roleSwap r => swapStep m j r s
    | .migrate =>
      if !ok then endJob m j.slot 3 2 0 [] (migrateFailed (((storeNo true s).map (fun e => e.2.fmt)).getD 0) (nvFail s))
      else if last then migrateEnd m j.slot s else more (nvWrote s)

/-- JOB_STEP: in the turn of session `m`, one step of the job whose turn it is, where no packet is pending; jobs without a session
have no turn in R447, and run a step at any time (R447, R458, log entry 43). -/
def jobStep (m i : Nat) (last ok : Bool) (s : State) : State :=
  if !kServes s || (m ≠ looseBox && (((box m s).pkt.isSome && !kcWaits m s) || !kcTurn m s || jobTurn m s ≠ some i)) then s
  else
    let s := if m = looseBox then s else kcTaken m (setBox m { box m s with last := i } s)
    match jobAt m i s with
    | some j => if j.state = 1 then stepJob m j last ok s else s
    | none => s

/-- Start a job and run its first step with the packet (R447). -/
def startStepped (m : Nat) (k : JobKind) (last ok : Bool) (raw : List Byte) (s : State) : State :=
  let n := (box m s).jobs.length
  let s := startJob m k raw s
  match (box m s).jobs.getLast? with
  | some j => if n < (box m s).jobs.length && j.state = 1 then stepJob m j last ok s else s
  | none => s

def kcCfgSave (m : Nat) (last ok : Bool) (raw : List Byte) (s : State) : State := startStepped m .cfgSave last ok raw s

def kcCfgRestore (m : Nat) (raw : List Byte) (s : State) : State :=
  let prev := bit (par raw 0) 0
  if (storeNo (!prev) s).isNone then kcRefuse m 0x0B [] s else startStepped m (.cfgRestore prev) false true raw s

def kcFwVerify (m : Nat) (last : Bool) (raw : List Byte) (s : State) : State :=
  match fwVerifyStart raw s with
  | (0, _, k) => startStepped m k last true raw s
  | (c, r, _) => kcRefuse m c r s

def kcFwActivate (m : Nat) (raw : List Byte) (s : State) : State :=
  let n := fwSlot raw
  if imgState n s ≠ 3 then kcCheck m 0x0C s else startStepped m (.fwActivate n) false true raw s

/-- ROLE_SWAP with its first step (R447, R474). -/
def kcRoleSwapFirst (m : Nat) (raw : List Byte) (s : State) : State :=
  let n := (box m s).jobs.length
  let s := kcRoleSwap m raw s
  match (box m s).jobs.getLast? with
  | some j => if n < (box m s).jobs.length && j.state = 1 then stepJob m j false true s else s
  | none => s

/-! ## LANE_PRBS (R74) -/

/-- LANE_PRBS (R74). A PAT of 0b11, set reserved bits in parameter words 0 and 1, and a word 0 above 1 count as parameters out of
range, refused with 0x05; R74 says of these only that PAT must be non-zero (DESIGN CHOICE, log entry 17). -/
def kcLanePrbs (m : Nat) (raw : List Byte) (s : State) : State :=
  let l := fld (par raw 0) 0 0
  let v := par raw 1
  let n := (box m s).jobs.length
  if fld v 1 0 = 0 || fld v 1 0 = 3 || 0x3F < v.toNat || par raw 2 = 0 || 3600000 < (par raw 2).toNat || 1 < (par raw 0).toNat then
    kcRefuse m 5 [] s
  else if !bit (par raw 3) 0 && !laneUp (1 - l) s then kcRefuse m 0x9F [] s
  else
    let s := startJob m (.lanePrbs l) raw s
    match (box m s).jobs.getLast? with
    | some j => if n < (box m s).jobs.length then putJob m { j with steps := 1 } (prbsCtlWrite l v s) else s
    | none => s

/-- LANE_PRBS_END: the duration is over. -/
def lanePrbsEnd (m i : Nat) (s : State) : State :=
  match jobAt m i s with
  | some j =>
    match j.kind with
    | .lanePrbs _ => if jobLive j then endJob m i 3 0 0 (cutResult j.kind s) (cutJob j.kind s) else s
    | .cfgSave | .cfgRestore _ | .fwVerify _ _ | .fwActivate _ | .roleSwap _ | .migrate => s
  | none => s

/-! ## Time and stroke (R423, R271, R451) -/

/-- Work of pair M: BUSY while it does not run (R451). -/
def needsM (m : Nat) (f : State → State) (s : State) : State := if rb s hubStatus 1 then f s else kcBusy m s

def kcTimeGet (m : Nat) (raw : List Byte) (s : State) : State :=
  let d := baseVal (fld (par raw 0) 1 0) s
  kcOk m [loW d, hiW d, rd s tbStatus, rd s tbOffset] s

def kcTimeStep (m : Nat) (raw : List Byte) (s : State) : State :=
  let r := tbStep (fld (par raw 0) 1 0) (dword (par raw 2) (par raw 1)) (bit (par raw 0) 8) s
  kcCode m r.1 [] r.2

def kcRestepAllow (m : Nat) (raw : List Byte) (s : State) : State :=
  needsM m (fun s => let r := restepAllow (dword (par raw 1) (par raw 0)).toNat s; kcCode m r.1 [] r.2) s

def kcTbConfig (m : Nat) (raw : List Byte) (s : State) : State :=
  let r := tbConfig (fld (par raw 0) 1 0) (fld (par raw 1) 2 0) (par raw 2) (dword (par raw 4) (par raw 3)) (bit (par raw 5) 0) s
  kcCode m r.1 [] r.2

def kcStrokeConfig (m : Nat) (raw : List Byte) (s : State) : State :=
  let w := par raw 0
  let r := stkConfig (bit w 0) (bit w 1) (dword (par raw 2) (par raw 1)).toNat (par raw 3).toNat (par raw 4).toNat s
  let eff := BitVec.ofNat 64 r.2.1
  kcCode m r.1 [loW eff, hiW eff] r.2.2

/-! ## Quill commands (R311, R312) -/

/-- Write steps until one is refused: how many were written. -/
def qlLoadSteps (q b : Nat) : Nat → List Word → State → Nat × State
  | _, [], s => (0, s)
  | i, v :: t, s =>
    match qlStepWrite q b i v s with
    | (.ok, s) => let r := qlLoadSteps q b (i + 1) t s; (r.1 + 1, r.2)
    | (_, s) => (0, s)

def kcQlLoad (m : Nat) (raw : List Byte) (s : State) : State :=
  let q := fld (par raw 0) 5 0
  let b := fld (par raw 0) 8 8
  let n := fld (par raw 1) 23 16
  let f := fld (par raw 1) 6 0
  if n = 0 || 128 < f + n then kcRefuse m 5 [] s
  else if pkLen raw < 8 + 4 * n then kcRefuse m 8 [] s
  else if qlEn q s && qlBank q s == b then kcRefuse m 0x37 [] s
  else
    let r := qlLoadSteps q b f ((List.range n).map (fun i => par raw (2 + i))) s
    if r.1 = n then kcOk m [w32 n] r.2 else kcRefuse m 0x37 [w32 r.1] r.2

/-- QL_SWAP (R312); `c` is how far the quill's current step has come (R304). -/
def kcQlSwap (m : Nat) (c : QlCut) (raw : List Byte) (s : State) : State :=
  let w := par raw 0
  let q := fld w 5 0
  let tgt := 1 - qlBank q s
  let bad := if bit w 9 then qlBankBad q tgt s else none
  if !qlEn q s || rb s (qlStatus q) 31 then kcRefuse m 0x38 [] s
  else if rb s (qlStatus q) 29 && !bit w 8 then kcRefuse m 0x39 [] s
  else match bad with
    | some i => kcRefuse m 0x34 [0, w32 i] s
    | none =>
      let s := qlSwapBits q (if bit w 8 then 0x20#32 else 0x10#32) c s
      kcOk m [w32 (tgt + 2 * b2n (qlBank q s == tgt))] s

end Sys2Proof.Machine
end

