-- ==== Sys2Proof/Machine/Frames.lean ====
section
/-! DEFINITION. What the ring MAC hands on: a frame of each type delivered to this node (R88, R89, R98), and the copies of own
frames that come back and are stripped (R103, R138, R412). -/
namespace Sys2Proof.Machine
open Sys2Proof

/-! ## Accesses in frames (R125, R126) -/

/-- COUNT of the request word (R126). -/
def frameCount (f : Frame) : Nat := leNat (f.payload.take 8) % 512

/-- SIZE of a WR_P (R125). -/
def postedCount (f : Frame) : Nat :=
  match f.tag / 256 % 4 with
  | 0 => 8 * f.len
  | 1 => 1
  | 2 => 2
  | _ => 4

/-- The access a request frame asks for. -/
def frameAccess (f : Frame) (s : State) : Access × State :=
  if f.typ = 2 then (⟨.rd, f.addr, frameCount f, []⟩, s)
  else if f.typ = 1 then
    let n := frameCount f
    let (d, s) := padBytes n ((f.payload.drop (8 + f.addr % 8)).take n) s
    (⟨.wrN, f.addr, n, d⟩, s)
  else
    let n := postedCount f
    let (d, s) := padBytes n ((f.payload.drop (f.addr % 8)).take n) s
    (⟨.wrP, f.addr, n, d⟩, s)

/-! ## Arrival of a frame that is addressed to this node -/

/-- The destination's checks, then the filter, then what an accepted frame does (R89, R98). -/
def takeFrame (r : Nat) (f : Frame) (eff : State → State) (s : State) : State :=
  if !addressed f s then s
  else if destBad f then cntRing 0x068 r 1 s
  else match dupFilter r f true s with
    | (true, s) => eff s
    | (false, s) => s

/-- While the rest of the hub is in RST_N, requests are answered BUSY, and other frames for this node have no effect (R33, R34).
The filter is in reset with the rest, so that each copy of a request is answered (DESIGN CHOICE, log entry 21). -/
def deliverHeld (f : Frame) (s : State) : State :=
  if f.typ ≤ 2 then
    let (a, s) := frameAccess f s
    if f.typ = 0 then ringPosted f.src a s else ringRequest f.src (f.tag % 1024) a s
  else s

/-- RD_REQUEST and WR_N_REQUEST (R127, R140). -/
def requestArrives (typ r : Nat) (f : Frame) (s : State) : State :=
  if f.typ ≠ typ then s
  else if s.hub.rstHeld then (if addressed f s then deliverHeld f s else s)
  else takeFrame r f (fun s =>
    let (a, s) := frameAccess f s
    ringRequest f.src (f.tag % 1024) a s) s

/-- WR_P_REQUEST (R141). -/
def postedArrives (r : Nat) (f : Frame) (s : State) : State :=
  if f.typ ≠ 0 then s
  else if s.hub.rstHeld then (if addressed f s then deliverHeld f s else s)
  else takeFrame r f (fun s =>
    let (a, s) := frameAccess f s
    ringPosted f.src a s) s

/-- COMPLETION. -/
def completionArrives (r : Nat) (f : Frame) (s : State) : State :=
  if !(f.typ == 3 || f.typ == 4) then s else takeFrame r f (completion f) s

/-- ACK_FRAME. -/
def ackArrives (r : Nat) (f : Frame) (s : State) : State := if f.typ ≠ 10 then s else takeFrame r f (ackFrame f) s

/-- STROKE_FRAME: the fields of R269. -/
def strokeArrives (r : Nat) (f : Frame) (s : State) : State :=
  if f.typ ≠ 8 then s
  else takeFrame r f (stkFrame f.src (leNat (f.payload.take 8)) (leNat ((f.payload.drop 8).take 4))
    (leNat ((f.payload.drop 12).take 4)) (bit (wordAt f.payload 16) 0)) s

/-- SYNC_FRAME: every good copy is judged ahead of the filter, which then sees it too (R411). The servo's new rate is not
stated: a free value (R415). -/
def syncArrives (r : Nat) (f : Frame) (stamp : DWord) (s : State) : State :=
  if !addressed f s then s
  else if f.typ ≠ 7 || destBad f then cntRing 0x068 r 1 s
  else if inGap f s then (dupFilter r f true s).2
  else
    let (rate, s) := fresh s
    (dupFilter r f true (syncReceive r f stamp rate s)).2

/-- PRESENCE_FRAME: the destination's checks, and the filter sees it too (R89, R98, R106). -/
def presenceArrives (r : Nat) (f : Frame) (s : State) : State :=
  if !isPresence f || !addressed f s then presenceFrame r f s
  else if destBad f then cntRing 0x068 r 1 s
  else (dupFilter r f true (presenceFrame r f s)).2

/-- A management frame by its subtype (R87, R485); one this hub does not know has no effect but on the filter. -/
def mgmtArrives (r : Nat) (f : Frame) (s : State) : State :=
  match f.addr % 256 with
  | 0x10 => presenceArrives r f s
  | 0x20 => heartbeat r f s
  | 0x21 => authAck r f s
  | 0x22 => takeReq r f s
  | 0x23 => takeAns r f s
  | 0x24 => censusRpt r f s
  | 0x25 => sizeSet r f s
  | 0x26 => table r f s
  | 0x27 => appoint r f s
  | 0x28 => swapReq r f s
  | _ => takeFrame r f (fun s => s) s

/-- A frame delivered to this node, by its type (R88). `stamp` is TB0 at its start block. -/
def deliverFrame (r : Nat) (f : Frame) (stamp : DWord) (s : State) : State :=
  match f.typ with
  | 0 => postedArrives r f s
  | 1 => requestArrives 1 r f s
  | 2 => requestArrives 2 r f s
  | 3 => completionArrives r f s
  | 4 => completionArrives r f s
  | 5 => msgFrame r f s
  | 6 => wireFrame r f s
  | 7 => syncArrives r f stamp s
  | 8 => strokeArrives r f s
  | 9 => mgmtArrives r f s
  | 10 => ackArrives r f s
  | 11 => leaseOp (f.addr % 256) r f s
  | _ => cntRing 0x068 r 1 s

/-- A frame for this node is sunk; in RST_N only the ring core is there to do so. -/
def sinkFrame (r : Nat) (f : Frame) (stamp : DWord) (s : State) : State :=
  if s.hub.rstHeld then deliverHeld f s else deliverFrame r f stamp s

/-- A copy of an own frame has come back and is stripped: a request with no target, a presence frame, a SYNC (R106, R138, R412). -/
def stripped (r : Nat) (f : Frame) (stamp : DWord) (s : State) : State :=
  if f.typ = 1 || f.typ = 2 then copyReturned f s
  else if isPresence f then ownPresence r f s
  else if f.typ = 7 then syncReturn r f stamp s
  else s

/-- FRAME_END on lane `l`: `blocks` of the frame have come, ended by a block of type `term` (R89); a good frame for this node
goes to its unit. Ring A arrives on the West lane, ring B on the East lane (R82). -/
def frameEnd (l blocks term : Nat) (s : State) : State :=
  match frameTail l blocks term s with
  | (none, s) => s
  | (some x, s) =>
    if x.strip then (if s.hub.rstHeld then s else stripped l x.hdr x.tb s)
    else if sinkHolds x s then
      setRing { s.ring with sinks := s.ring.sinks ++ [{ ring := l, f := x.hdr, tb := x.tb }] } s
    else if x.deliver then sinkFrame l x.hdr x.tb s else s

/-- Frames that waited for room in the completion-out buffer are sunk in order while there is room; their credits return (R91,
R102). -/
def sinkProceed : Nat → State → State
  | 0, s => s
  | n + 1, s =>
    match s.ring.sinks with
    | [] => s
    | w :: t =>
      if sinksFull s then s
      else
        let s := setRing { s.ring with sinks := t } s
        let s := if w.owes then creditReturn w.ring (w.f.cls % 4) (frameUnits w.f.len) s else s
        sinkProceed n (sinkFrame w.ring w.f w.tb s)

end Sys2Proof.Machine
end

