-- ==== Sys2Proof/Machine/Settle.lean ====
section
/-! DEFINITION. The end of a command: the reactions it ordered are carried out (R45–R48, R499, R502), what its effect lets go on
goes on (R147, R156, R177, R178, R209, R299), and the pins settle. -/
namespace Sys2Proof.Machine
open Sys2Proof

/-! ## Notices (R45–R48) -/

/-- Bytes of a notice item (R45). -/
def noticeBytes (g ev unit : Nat) (info : Word) (tb : DWord) : List Byte :=
  [w32 (g % 256 * 16777216 + ev % 256 * 65536 + unit % 65536), info, loW tb, hiW tb].flatMap wordBytes

/-- Place a notice item in queue N`n`; false where it is not admitted. The user word of a notice is not stated: a free value. -/
def noticeItem (n g ev unit : Nat) (info : Word) (tb : DWord) (s : State) : Bool × State :=
  let (w, s) := fresh s
  putItem (608 + n) { bytes := noticeBytes g ev unit info tb, user := w } s

/-- The coalesce notice of session `n` once its queue admits a cell (R47). Its unit index is not stated: a free value. -/
def coalFlush (n : Nat) (s : State) : State :=
  let c := tget (fun _ => 0) s.hub.coal n
  if c = 0 || !admits (608 + n) 1 s then s
  else
    let (w, s) := fresh s
    let s := setHub { s.hub with coal := tset (fun _ => 0) s.hub.coal n 0 } s
    (noticeItem n 0 0x01 (fld w 15 0) (w32 c) (tb0 s) s).2

/-- Create a notice in queue N`n`, or count it as coalesced (R47). -/
def noticeTo (n g ev unit : Nat) (info : Word) (tb : DWord) (s : State) : State :=
  let s := coalFlush n s
  match noticeItem n g ev unit info tb s with
  | (true, s) => s
  | (false, s) =>
    bump (0x040 + 4 * n) 1 (setHub { s.hub with coal := tmod (fun _ => 0) s.hub.coal n (fun c => c + 1) } s)

/-- A notice of group `g`, as its route says (R46). -/
def createNotice (g ev unit : Nat) (info : Word) (tb : DWord) (s : State) : State :=
  let r := rd s (0x080 + 4 * g)
  if bit r 4 then noticeTo (fld r 3 0) g ev unit info tb s else s

/-! ## Node safe state (R258, R309, R327, R387, R502) -/

/-- Every block behaves as in node safe state. -/
def safeAll (s : State) : State :=
  let s := stkForget (endPulses (List.range 512) s)
  let s := overUnits qlHoldIdle (liveQuills s) (overUnits nibHoldIdle (liveNibs s) s)
  pbpSafe (overUnits canSafe (List.range 16) s)

/-! ## Reactions -/

/-- Carry out one reaction. -/
def react (p : Post) (s : State) : State :=
  match p with
  | .notice g ev unit info tb => createNotice g ev unit info tb s
  | .quar src info inj => quarantine src info inj s
  | .safe => safeAll s
  | .session n ev info tb => noticeTo n 0 ev n info tb s

/-- Carry out the reactions ordered, in order, those that reactions order among them. -/
def reactAll : Nat → State → State
  | 0, s => s
  | n + 1, s =>
    match s.post with
    | [] => s
    | p :: t => reactAll n (react p { s with post := t })

/-! ## What goes on (R147, R156, R163, R177, R178, R209, R299) -/

/-- Who asks for cells: the move of a queue's head item, a nib's FIFO, a quill's FIFO. -/
inductive Ask where
  | move (q fuel : Nat)
  | nib (n : Nat)
  | quill (q : Nat)
  deriving DecidableEq, Repr

/-- Put a request for cells behind those of no higher queue number. -/
def putAsk (e : Nat × Ask) : List (Nat × Ask) → List (Nat × Ask)
  | [] => [e]
  | x :: t => if e.1 < x.1 then e :: x :: t else x :: putAsk e t

def sortAsks : List (Nat × Ask) → List (Nat × Ask) → List (Nat × Ask)
  | [], acc => acc
  | e :: t, acc => sortAsks t (putAsk e acc)

/-- All that may ask for cells, in ascending order of the queue it asks for (R168). A queue with no local subscriber only answers its
held pops. -/
def asks (s : State) : List (Nat × Ask) :=
  let ms := s.ink.queues.map (fun e => ((localSub e.1 s).getD e.1, Ask.move e.1 (e.2.items.length + 8)))
  let ns := s.nibs.map (fun e => (2 * e.1 + 1, Ask.nib e.1))
  let qs := s.quills.map (fun e => (qlRxq e.1 s, Ask.quill e.1))
  sortAsks (ms ++ (ns ++ qs)) []

def serveAsk (a : Ask) (s : State) : State :=
  match a with
  | .move q fuel => flow fuel q s
  | .nib n => nibRefill n s
  | .quill q => qlRefill q s

/-- Requests for cells are served, the lower queue number first, each on the counts that remain (R168, R177, R178, R209, R299). -/
def serveAsks : List (Nat × Ask) → State → State
  | [], s => s
  | e :: t, s => serveAsks t (serveAsk e.2 s)

/-! ## The inbound side of the bridge (R377–R379) -/

/-- The head of Q(656+`w`) can be read without an uncorrectable error (R165). -/
def postReadable (w : Nat) (s : State) : Bool := !(queue (656 + w) s).items.head?.any itemBad

/-- The held read or non-posted write goes out once the bridge has no inbound access outstanding (R377). -/
def heldIssue (s : State) : State :=
  match s.pbp.held with
  | none => s
  | some h =>
    if h.acc.kind = .wrP || h.issued || s.pbp.out.isSome then s
    else
      let s := setPbp { s.pbp with held := some { h with issued := true }, out := some (h.win, h.acc.kind == .rd) } s
      request (.bridge h.win) h.node h.acc s

/-- The inbound side takes a completion, sends the oldest posted write (R378) or issues the held access; while the bridge does not run
it requests nothing (R387). -/
def inboundStep (s : State) : State :=
  match s.pbp.result with
  | some (w, st, d) => pbpInboundDone w st d s
  | none =>
    if !pbpRuns s then s
    else match s.pbp.posts with
    | [] => heldIssue s
    | (w, node, a) :: t =>
      if postReadable w s then request (.bridge w) node a (freeHead (656 + w) (setPbp { s.pbp with posts := t } s))
      else heldIssue (meetBad (656 + w) s)

def inboundProceed : Nat → State → State
  | 0, s => s
  | n + 1, s => inboundProceed n (inboundStep s)

/-- Steps the inbound side can take: its posted writes, and a completion, an issue and the completion of that. -/
def inboundSteps (s : State) : Nat := s.pbp.posts.length + 3

/-- Cells in no queue: completion data that its requester has not consumed, which is PCIe data that waits for data before it and
data of an open SPI read (R154, R157, R169), and the cells of ended items whose copies still wait (R97). -/
def waitingCells (s : State) : Nat :=
  s.tx.spi.cells + sumN (s.tx.linger.map (fun e => e.2)) + sumN (s.tx.pcie.map (fun r => sumN (r.accs.map (fun a =>
    match a.res with
    | some (.ok, d) => if a.sent || a.node == ownNode s then 0 else ceilDiv d.length 64
    | _ => 0))))

/-- Cells in no queue are INFLIGHT (R163, R169). -/
def inflightSettle (s : State) : State :=
  let n := waitingCells s
  { s with ink := { s.ink with free := s.ink.free + s.ink.inflight - n, inflight := n } }

/-- NOTICE_N (R48). -/
def noticePinSettle (s : State) : State :=
  let on := rb s hubCtl 4 && (List.range 16).any (fun n => rb s hubNpin n && !(queue (608 + n) s).items.isEmpty)
  setHub { s.hub with noticePin := on } s

/-- The end of a command. -/
def settle (s : State) : State :=
  let s := reactAll 256 s
  let s := sinkProceed s.ring.sinks.length s
  let s := absentAll s.tx.tags s
  let s := heldProceed (serveAsks (asks s) s)
  let s := inboundProceed (inboundSteps s) s
  let s := orderProceed s.tx.order.length s
  let s := inboundProceed (inboundSteps s) s
  let s := spiPump (spiSteps s) s
  let s := lingerEnd (shSettle 1 (shSettle 0 s))
  noticePinSettle (bridgeSettle (inflightSettle (reactAll 256 s)))

/-! ## Running a command -/

/-- What follows when a command has had its own effect `u`: all that it lets go on. The queue stands as it was in `s`. -/
def carryOn (u s : State) : State := { settle u with pending := s.pending }

/-- The effect `f` of a command on everything but the queue, and what it lets go on. -/
def run (f : State → State) (s : State) : State := carryOn (f { s with pending := [] }) s

/-- A command whose effect is `f`. -/
def done (f : State → State) (s : State) : Host.Outcome State Fault Refusal := .next (run f s)

/-- A command that finds its part of the logic die in LPOR has no effect (R32). -/
def coreCmd (f : State → State) (s : State) : Host.Outcome State Fault Refusal :=
  done (fun s => if s.hub.lporHeld then s else f s) s

/-- A command that finds its part of the logic die in LPOR or RST_N has no effect (R32, R33). -/
def hubCmd (f : State → State) (s : State) : Host.Outcome State Fault Refusal :=
  done (fun s => if s.hub.lporHeld || s.hub.rstHeld then s else f s) s

end Sys2Proof.Machine
end

