-- ==== Sys2Proof/Machine/Command.lean ====
section
/-! DEFINITION. What the meanings of the commands share: register words with one bit written, accesses a row names, and the parts
of the block a command needs out of reset. -/
namespace Sys2Proof.Machine
open Sys2Proof

/-- What the register at `k` holds with bit `i` written 1, and written 0. -/
def withBit (k i : Nat) (s : State) : Word := setBit (rd s k) i true
def sansBit (k i : Nat) (s : State) : Word := setBit (rd s k) i false

/-- The straps as they stand at the pins when a reset ends (R588). -/
def strapPins (node boot : Nat) (test : Bool) (s : State) : State :=
  setHub { s.hub with pinNode := node, pinBoot := boot, pinTest := test } s

/-- A command at the companion, which in its own reset does nothing (R32). -/
def compCmd (f : State → State) (s : State) : Host.Outcome State Fault Refusal :=
  done (fun s => if s.hub.cprst then s else f s) s

/-- A Kilco command: pair K executes the packet pending in mailbox `m`, if its opcode is `op` (R441, R447). -/
def kcCmd (m op : Nat) (f : List Byte → State → State) (s : State) : Host.Outcome State Fault Refusal :=
  hubCmd (kcServe m op f) s

/-- The timed PRBS test of a job has ended: the bits received since the last command that brought any, then its report (R74). -/
def prbsJobEnd (m i : Nat) (bits : List Bool) (s : State) : State :=
  match jobAt m i s with
  | some j =>
    match j.kind with
    | .lanePrbs l => lanePrbsEnd m i (prbsBits l bits s)
    | .cfgSave | .cfgRestore _ | .fwVerify _ _ | .fwActivate _ | .roleSwap _ | .migrate => s
  | none => s

/-- The window of port `p` (R175). -/
def portOff (p : Nat) : Nat := 0x24000 + 0x100 * p

def writeKind (posted : Bool) : AccKind := if posted then .wrP else .wrN

/-- A PCIe memory request over runs of enabled bytes: offset, count, data (R48, R151–R154). -/
def pcieMem (bar : Bar) (kind : AccKind) (runs : List (Nat × Nat × List Byte)) (s : State) : State :=
  match bar with
  | .bar0 => pcieRequest 0 kind runs s
  | .bar2 => pcieRequest 2 kind runs s
  | .msix => if kind = .rd then msixReads (runs.map (fun r => (r.1, r.2.1))) s else msixWrite (runs.map (fun r => (r.1, r.2.2))) s

/-- STATUS: the target shifts the outcome byte out (R156). -/
def spiStatusRead (s : State) : State := setSpi { s.tx.spi with out := [spiStatusByte s] } s

/-- The second copy of SYNC `no` has not come; the servo's new rate is a free value (R413, R415). -/
def syncAlone (no : Nat) (s : State) : State :=
  let (rate, s) := fresh s
  syncPairTimeout no rate s

/-- A write of a register of page `p` by requester `o`, refused where another owns the page (R532), or where the page is pair M's
and the requester is not on this hub (R531). -/
def pageWrite (o : Origin) (p : Nat) (f : State → State) (s : State) : State :=
  if cphDenied p (holderWord o s) s || (p == 0 && ringSide o) then s else f s

/-- CPH_CMD words (R548): OP LOAD and ERASE. -/
def cmdLoadWord (k ksize : Nat) (persist : Bool) : Word := w32 (0x10000000 + k * 65536 + b2n persist * 4096 + ksize * 256)
def cmdEraseWord (k : Nat) : Word := w32 (0x20000000 + k * 65536)

/-- One nanosecond with no command waiting: the REFCLK-derived clock advances the bases (R400, R401), and a PWM output may fall (R229);
in LPOR only real time goes on, which the standby counter follows (R572). -/
def idleTick (s : State) : State :=
  let s := setHub { s.hub with now := s.hub.now + 1 } s
  if s.hub.lporHeld then s else pwmFalls s.nibs (tickBases [0, 1, 2, 3] s)

end Sys2Proof.Machine
end

