-- ==== Sys2Proof/Machine/BootCmds.lean ====
section
/-! DEFINITION. Meanings of the commands of start-up, firmware and stored configuration. -/
namespace Sys2Proof.Machine
open Sys2Proof

/-- FW_BEGIN (R593). The Kilco command FW_BEGIN checks a colophon and starts loading the inactive slot. Operands: mailbox `m`. -/
def execFwBegin (m : Fin 16) (s : State) : Host.Outcome State Fault Refusal := kcCmd m 0x0201 (fun raw => fwBegin m raw) s

/-- FW_CHUNK (R593). The Kilco command FW_CHUNK writes body data at NEXT, or resends the last chunk. Operands: mailbox `m`. -/
def execFwChunk (m : Fin 16) (s : State) : Host.Outcome State Fault Refusal := kcCmd m 0x0202 (fun raw => fwChunk m raw) s

/-- FW_VERIFY (R593). The Kilco command FW_VERIFY checks the body tag as a job and marks the slot VERIFIED or BAD. Operands:
mailbox `m`; `last`: the work ends with its first step. -/
def execFwVerify (m : Fin 16) (last : Bool) (s : State) : Host.Outcome State Fault Refusal :=
  kcCmd m 0x0203 (fun raw => kcFwVerify m last raw) s

/-- FW_ACTIVATE (R594). The Kilco command FW_ACTIVATE starts a verified slot live by restarting both pairs on trial. Operands:
mailbox `m`. -/
def execFwActivate (m : Fin 16) (s : State) : Host.Outcome State Fault Refusal := kcCmd m 0x0204 (fun raw => kcFwActivate m raw) s

/-- FW_SLOT_INFO (R600). The Kilco command FW_SLOT_INFO returns a slot's state, colophon start and FLOOR. Operands: mailbox `m`. -/
def execFwSlotInfo (m : Fin 16) (s : State) : Host.Outcome State Fault Refusal := kcCmd m 0x0205 (fun raw => fwSlotInfo m raw) s

/-- NV_COUNTERS (R600). The Kilco command NV_COUNTERS returns hours, power cycles, boots and MRAM writes. Operands: mailbox `m`. -/
def execNvCounters (m : Fin 16) (s : State) : Host.Outcome State Fault Refusal := kcCmd m 0x0206 (fun _ => nvCounters m) s

/-- FIRMWARE_START (R589). The checked image starts at ENTRY, PAIRK_UP and PAIRM_UP are set and the mailboxes are served. -/
def execFirmwareStart (s : State) : Host.Outcome State Fault Refusal := hubCmd firmwareStart s

/-- BOOT_CONFIRM (R592). 10 s after firmware start without a failure, the boot is confirmed in the boot record. -/
def execBootConfirm (s : State) : Host.Outcome State Fault Refusal := hubCmd bootConfirm s

/-- HOURS_PERSIST (R599). Every 6 minutes pair M writes the operating hours to the counter journal. -/
def execHoursPersist (s : State) : Host.Outcome State Fault Refusal := hubCmd hoursPersist s

end Sys2Proof.Machine
end

