-- ==== Sys2Proof/Machine/BridgeCmds.lean ====
section
/-! DEFINITION. Meanings of the commands of the parallel backplane bridge. -/
namespace Sys2Proof.Machine
open Sys2Proof

/-- PBP_ENABLE (R389). A write of 1 to PBP_CTL.EN runs the bridge check and claims the backplane pins. -/
def execPbpEnable (s : State) : Host.Outcome State Fault Refusal := hubCmd (fun s => pbpCtlWrite (withBit pbpCtl 0 s) s) s

/-- PBP_DISABLE (R388). A write of 0 to PBP_CTL.EN is a unit reset that ends cycles and clears every window's EN. -/
def execPbpDisable (s : State) : Host.Outcome State Fault Refusal := hubCmd (fun s => pbpCtlWrite (sansBit pbpCtl 0 s) s) s

/-- WINDOW_ENABLE (R390). A write of 1 to a window's EN runs the window check. Operands: inbound or outbound window `w`. -/
def execWindowEnable (inb : Bool) (w : Fin 16) (s : State) : Host.Outcome State Fault Refusal :=
  hubCmd (fun s => if inb && 8 ≤ w.val then s else winCtlWrite inb w 1 s) s

/-- WINDOW_DISABLE (R376). A write of 0 to a window's EN disables it and invalidates its prefetch buffer. Operands: inbound or
outbound window `w`. -/
def execWindowDisable (inb : Bool) (w : Fin 16) (s : State) : Host.Outcome State Fault Refusal :=
  hubCmd (fun s => if inb && 8 ≤ w.val then s else winCtlWrite inb w 0 s) s

/-- PBP_OUTBOUND_CYCLE_START (R372). The bridge starts the next backplane cycle of the oldest outbound request. -/
def execPbpOutboundCycleStart (s : State) : Host.Outcome State Fault Refusal := hubCmd pbpCycleStart s

/-- PBP_BUS_GRANT (R368). BGIN_N low with BBSY_N high gives the hub the bus. -/
def execPbpBusGrant (s : State) : Host.Outcome State Fault Refusal := hubCmd pbpBusGrant s

/-- PBP_ARB_TIMEOUT (R368). A request not started within PBP_ARB_LIMIT completes FT. Operands: place of the request in the order. -/
def execPbpArbTimeout (j : Nat) (s : State) : Host.Outcome State Fault Refusal := hubCmd (pbpArbTimeout j) s

/-- PBP_CYCLE_ACK (R366). DTACK_N or RDY_N from the slave ends a cycle successfully. Operands: data lanes of a read. -/
def execPbpCycleAck (lanes : Word) (s : State) : Host.Outcome State Fault Refusal := hubCmd (pbpCycleAck lanes) s

/-- PBP_CYCLE_ERROR (R372). BERR_N or ERR_N ends a cycle as a far-side bus error. -/
def execPbpCycleError (s : State) : Host.Outcome State Fault Refusal := hubCmd (pbpCycleFail .fe) s

/-- PBP_BUS_TIMEOUT (R372). No acknowledge for PBP_BUS_TO µs ends the cycle as FT. -/
def execPbpBusTimeout (s : State) : Host.Outcome State Fault Refusal := hubCmd (pbpCycleFail .ft) s

/-- PBP_CYCLE_RETRY (R367). 1 µs after RTY_N, the hub repeats the cycle. -/
def execPbpCycleRetry (s : State) : Host.Outcome State Fault Refusal := hubCmd pbpCycleRetry s

/-- PBP_REQUEST_LIMIT (R374). A non-posted request still open 10 ms after arrival is ended FT at its next cycle boundary.
Operands: place of the request in the order. -/
def execPbpRequestLimit (j : Nat) (s : State) : Host.Outcome State Fault Refusal := hubCmd (pbpRequestLimit j) s

/-- PBP_PREFETCH_AGE (R376). PBP_PREF_AGE after a fetch the prefetch buffer is invalidated, possibly as a counted discard. -/
def execPbpPrefetchAge (w : Fin 16) (s : State) : Host.Outcome State Fault Refusal := hubCmd (pbpPrefetchAge w) s

/-- PBP_INBOUND_DECODE (R377). A backplane cycle in an inbound window becomes an RD, WR_N or WR_P, and the backplane is held.
Operands: the cycle of another master: address, AM, bytes, direction, data lanes. -/
def execPbpInboundDecode (addr : Nat) (am : Fin 64) (width : Nat) (write : Bool) (lanes : Word) (s : State) : Host.Outcome State Fault Refusal :=
  hubCmd (pbpInbound addr am width write lanes) s

/-- PBP_POSTED_ADMIT (R378). A held posted inbound write is admitted to its queue and its cycle is ended. -/
def execPbpPostedAdmit (s : State) : Host.Outcome State Fault Refusal := hubCmd postHeld s

/-- PBP_HOLD_LIMIT_EXPIRE (R379). An inbound access held PBP_HOLD_LIMIT µs is ended with RTY_N or a bus error and raises FS162. -/
def execPbpHoldLimitExpire (s : State) : Host.Outcome State Fault Refusal := hubCmd pbpHoldEnd s

/-- WIRE_LEVEL_CHANGE (R383). A change of a sent IRQ or sideband level causes a WIRE frame within 1 µs. -/
def execWireLevelChange (s : State) : Host.Outcome State Fault Refusal := hubCmd wireChange s

/-- WIRE_REFRESH (R383). With no change for 100 µs, a WIRE frame is sent anyway. -/
def execWireRefresh (s : State) : Host.Outcome State Fault Refusal := hubCmd wireSend s

/-- WIRE_FRAME (R384). An accepted WIRE frame updates PBP_WIRE_RX and drives the IRQ and sideband outputs. Operands: a good frame
delivered on ring `r`. -/
def execWireFrame (r : Fin 2) (f : Frame) (s : State) : Host.Outcome State Fault Refusal := hubCmd (wireFrame r f) s

/-- WIRE_LOST (R384). No accepted WIRE frame for 400 µs releases the driven lines and raises FS163. -/
def execWireLost (s : State) : Host.Outcome State Fault Refusal := hubCmd wireLost s

end Sys2Proof.Machine
end

