-- ==== Sys2Proof/Machine/CanCmds.lean ====
section
/-! DEFINITION. Meanings of the commands of the CAN FD controllers. -/
namespace Sys2Proof.Machine
open Sys2Proof

/-- CAN_ENABLE (R353). A write of 1 to CAN_CTL.EN runs the CAN check and starts bus integration. -/
def execCanEnable (k : Fin 16) (s : State) : Host.Outcome State Fault Refusal :=
  hubCmd (fun s => canCtlWrite k (withBit (canReg k 0) 0 s) s) s

/-- CAN_DISABLE (R351). A write of 0 to CAN_CTL.EN is a unit reset that writes RETURN records for held and pending objects. -/
def execCanDisable (k : Fin 16) (s : State) : Host.Outcome State Fault Refusal :=
  hubCmd (fun s => canCtlWrite k (sansBit (canReg k 0) 0 s) s) s

/-- CAN_BUS_INTEGRATED (R326). 11 consecutive recessive bits complete bus integration, and the controller joins traffic. -/
def execCanBusIntegrated (k : Fin 16) (s : State) : Host.Outcome State Fault Refusal := hubCmd (canIntegrated k) s

/-- CAN_SUBMISSION_TAKE (R331). The head submission is loaded into its free TX object as held or pending. -/
def execCanSubmissionTake (k : Fin 16) (s : State) : Host.Outcome State Fault Refusal := hubCmd (canTake k) s

/-- CAN_TX_ATTEMPT (R333). At arbitration, the controller offers the pending object that would win. -/
def execCanTxAttempt (k : Fin 16) (s : State) : Host.Outcome State Fault Refusal := hubCmd (canAttempt k) s

/-- CAN_TX_SUCCESS (R330). A frame is sent successfully, its object is freed and a DONE record is written if EVT = 1. Operands:
loop delay measured in a frame with BRS = 1; overload frames of other nodes after it. -/
def execCanTxSuccess (k : Fin 16) (delay : Nat) (ovl : Nat) (s : State) : Host.Outcome State Fault Refusal :=
  hubCmd (canSuccess k delay ovl) s

/-- CAN_TX_FAIL (R333). Lost arbitration or an error increments TRIES and leaves the frame pending for retry. Operands:
bits sent; arbitration lost, or an error that ISO 11898-1 exempts; further steps of 8 it adds to TEC; the loop delay, once measured. -/
def execCanTxFail (k : Fin 16) (sent : Nat) (arb : Bool) (exempt : Bool) (steps : Nat) (delay : Option Nat) (s : State) :
    Host.Outcome State Fault Refusal :=
  hubCmd (canFail k sent arb exempt steps delay) s

/-- CAN_TXCAN_WRITE (R334). A write of 1 to a CAN_TXCANw bit requests cancel of that object. Operands: register `w` of the four. -/
def execCanTxcanWrite (k : Fin 16) (w : Fin 4) (v : Word) (s : State) : Host.Outcome State Fault Refusal :=
  hubCmd (canTxcan k w v) s

/-- CAN_FRAME_RECEIVE (R336). A frame received without error is stored in the high-priority buffer, logged or counted as
unmatched. Operands: words 0 and 1 as on the bus, data, TB0 at the start of frame; overload frames after it. -/
def execCanFrameReceive (k : Fin 16) (w0 : Word) (w1 : Word) (data : List Byte) (sof : DWord) (ovl : Nat) (s : State) :
    Host.Outcome State Fault Refusal :=
  hubCmd (canReceive k w0 w1 data sof ovl) s

/-- CAN_STAGING_ADMIT (R337). A staged record is written to the receive log once its cells are admitted. -/
def execCanStagingAdmit (k : Fin 16) (s : State) : Host.Outcome State Fault Refusal := hubCmd (canAdmit k) s

/-- CAN_HPWIN_READ (R338). An 80-byte read of CAN_HPWIN returns and removes the oldest high-priority record. Operands: requester
`o`. -/
def execCanHpwinRead (o : Origin) (k : Fin 16) (s : State) : Host.Outcome State Fault Refusal :=
  coreCmd (serve o ⟨.rd, canReg k 0x140, 80, []⟩) s

/-- CAN_BUSOFF_RECOVER (R341). At the 128th run of 11 recessive bits, the controller returns to error active. -/
def execCanBusoffRecover (k : Fin 16) (s : State) : Host.Outcome State Fault Refusal := hubCmd (canRecover k) s

/-- CAN_STUCK_DOMINANT (R342). CAN_RXD dominant for 256 bit times sets STUCKDOM and raises FS149. Operands: the controller was the
transmitter; steps of 8 its error counter has still to take for the dominant bits. -/
def execCanStuckDominant (k : Fin 16) (tx : Bool) (steps : Nat) (s : State) : Host.Outcome State Fault Refusal :=
  hubCmd (canStuck k tx steps) s

/-- CAN_CTL_FALLBACK (R344). A write of 1 to CAN_CTL.FALLBACK enters fall-back with cause FORCE. -/
def execCanCtlFallback (k : Fin 16) (s : State) : Host.Outcome State Fault Refusal :=
  hubCmd (fun s => canCtlWrite k (withBit (canReg k 0) 5 s) s) s

/-- CAN_WATCHDOG_EXPIRE (R345). TIME ms pass without a kick, so the watchdog raises FS147 and the controller enters fall-back. -/
def execCanWatchdogExpire (k : Fin 16) (s : State) : Host.Outcome State Fault Refusal := hubCmd (canWatchdog k) s

/-- CAN_WATCHDOG_KICK (R345). A write of 1 to CAN_WDOG.KICK by pair M restarts the watchdog. Operands: requester `o`. -/
def execCanWatchdogKick (k : Fin 16) (o : Origin) (s : State) : Host.Outcome State Fault Refusal :=
  hubCmd (fun s => canWdogWrite k o (withBit (canReg k 0x30) 29 s) s) s

/-- CAN_CTL_FBLEAVE (R347). A write of 1 to CAN_CTL.FBLEAVE ends fall-back where its cause permits. -/
def execCanCtlFbleave (k : Fin 16) (s : State) : Host.Outcome State Fault Refusal :=
  hubCmd (fun s => canCtlWrite k (withBit (canReg k 0) 6 s) s) s

/-- CAN_FB_SLOT_START (R346). At a schedule slot start in fall-back, the controller starts the slot's fall-back frame. Operands:
basic cycle and slot of the schedule matrix. -/
def execCanFbSlotStart (k : Fin 16) (c : Fin 8) (n : Fin 8) (s : State) : Host.Outcome State Fault Refusal :=
  hubCmd (canSlotStart k c n) s

/-- CAN_FB_SLOT_LATE (R346). A slot frame not started within LATE µs is skipped and counted. Operands: basic cycle and slot of the
schedule matrix. -/
def execCanFbSlotLate (k : Fin 16) (c : Fin 8) (n : Fin 8) (s : State) : Host.Outcome State Fault Refusal :=
  hubCmd (canSlotLate k c n) s

/-- CANCLK_LOSS (R349). No CANCLK edge for 1 µs holds the CAN domain in reset and raises FS148. -/
def execCanclkLoss (s : State) : Host.Outcome State Fault Refusal := hubCmd canClkLoss s

/-- CANCLK_RECOVER (R349). CANCLK is in tolerance for 1 ms, and enabled controllers integrate again. Operands: the frequency
measured. -/
def execCanclkRecover (mhz : Nat) (s : State) : Host.Outcome State Fault Refusal := hubCmd (canClkBack mhz) s

/-- CAN_RECEIVE_ERROR (R339). A frame under reception on CAN_RXD meets a bus error, or a protocol exception with PXE = 1, so REC
and CAN_CNT_RXERR change, or the controller ends reception and integrates again. Operands: a protocol exception; further steps of
8 that ISO 11898-1 adds to REC. -/
def execCanReceiveError (k : Fin 16) (pxe : Bool) (steps : Nat) (s : State) : Host.Outcome State Fault Refusal :=
  hubCmd (canRxError k pxe steps) s

end Sys2Proof.Machine
end

