-- ==== Sys2Proof/Machine/FaultCmds.lean ====
section
/-! DEFINITION. Meanings of the commands of the fault collector, the blotter and the monitors. -/
namespace Sys2Proof.Machine
open Sys2Proof

/-- BLT_FREEZE (R510). The Kilco command BLT_FREEZE stops blotter recording. Operands: mailbox `m`. -/
def execBltFreeze (m : Fin 16) (s : State) : Host.Outcome State Fault Refusal := kcCmd m 0x0301 (fun _ => kcBltFreeze m) s

/-- BLT_READ (R518). The Kilco command BLT_READ returns up to 31 blotter records. Operands: mailbox `m`. -/
def execBltRead (m : Fin 16) (s : State) : Host.Outcome State Fault Refusal := kcCmd m 0x0302 (fun raw => kcBltRead m raw) s

/-- BLT_THAW (R510). The Kilco command BLT_THAW resumes blotter recording. Operands: mailbox `m`. -/
def execBltThaw (m : Fin 16) (s : State) : Host.Outcome State Fault Refusal := kcCmd m 0x0303 (fun _ => kcBltThaw m) s

/-- BLT_CLEAR (R510). The Kilco command BLT_CLEAR empties the blotter. Operands: mailbox `m`. -/
def execBltClear (m : Fin 16) (s : State) : Host.Outcome State Fault Refusal := kcCmd m 0x0304 (fun _ => kcBltClear m) s

/-- MON_ARM (R516). The Kilco command MON_ARM writes a slot's settings and arms it. Operands: mailbox `m`. -/
def execMonArm (m : Fin 16) (s : State) : Host.Outcome State Fault Refusal := kcCmd m 0x0305 (fun raw => kcMonArm m raw) s

/-- MON_READ (R518). The Kilco command MON_READ returns a monitor slot's state and result block. Operands: mailbox `m`. -/
def execMonRead (m : Fin 16) (s : State) : Host.Outcome State Fault Refusal := kcCmd m 0x0306 (fun raw => kcMonRead m raw) s

/-- FLT_READ (R518). The Kilco command FLT_READ returns the fault collector state. Operands: mailbox `m`. -/
def execFltRead (m : Fin 16) (s : State) : Host.Outcome State Fault Refusal := kcCmd m 0x0307 (fun _ => kcFltRead m) s

/-- FLT_CLEAR (R518). The Kilco command FLT_CLEAR ends handling, clears active bits, unquarantines and exits safe state in order.
Operands: mailbox `m`. -/
def execFltClear (m : Fin 16) (s : State) : Host.Outcome State Fault Refusal := kcCmd m 0x0308 (fun raw => kcFltClear m raw) s

/-- MEMORY_UNCORRECTABLE (R494). A memory detects an uncorrectable error and raises its fault source. Operands: the source of the
memory, and its information word; the error was corrected, for which the table has no row of its own (DESIGN CHOICE, log entry 28);
of a cell's data, the queue, the closed item in it and the cell of the item. -/
def execMemoryUncorrectable (src : Fin 256) (info : Word) (corrected : Bool) (q : Fin 1024) (item cell : Nat) (s : State) :
    Host.Outcome State Fault Refusal :=
  hubCmd (memoryError src info corrected q item cell) s

/-- FLT_STATUS_VALID_WRITE (R501). A write of 1 to FLT_STATUS.VALID ends fault handling. -/
def execFltStatusValidWrite (s : State) : Host.Outcome State Fault Refusal := hubCmd (fltStatusWrite 0x80000000) s

/-- FLT_CTL_SAFE_EXIT (R503). A write of 1 to FLT_CTL.SAFE_EXIT ends node safe state where permitted. -/
def execFltCtlSafeExit (s : State) : Host.Outcome State Fault Refusal := hubCmd (fun s => fltCtlWrite (withBit fltCtl 1 s) s) s

/-- FLT_UNQUAR_WRITE (R522). A write of FLT_UNQUAR clears a unit's quarantine and writes an UNQUAR record. -/
def execFltUnquarWrite (v : Word) (s : State) : Host.Outcome State Fault Refusal := hubCmd (unquarWrite v) s

/-- FLT_INJ_WRITE (R504). A write of FLT_INJ in factory test mode injects a raise. -/
def execFltInjWrite (v : Word) (s : State) : Host.Outcome State Fault Refusal := hubCmd (fltInject v) s

/-- LOCKSTEP_MISMATCH (R494). A lockstep mismatch in pair K or M raises FS0 or FS1 and restarts the pair. Operands: pair K or M,
and the step address. -/
def execLockstepMismatch (k : Bool) (at_ : Word) (s : State) : Host.Outcome State Fault Refusal := hubCmd (lockstep k at_) s

/-- CORE_WATCHDOG_EXPIRE (R494). A control pair's core watchdog expires, which raises FS2 or FS3 and restarts the pair. Operands:
pair K or M. -/
def execCoreWatchdogExpire (k : Bool) (s : State) : Host.Outcome State Fault Refusal := hubCmd (coreWatchdog k) s

/-- PLL_LOCK_LOSS (R494). A CORE, CTRL, PORT or TIME PLL loses lock, which raises fatal FS11. Operands: 0 CORE, 1 CTRL, 2 PORT, 3
TIME. -/
def execPllLockLoss (p : Fin 4) (s : State) : Host.Outcome State Fault Refusal := hubCmd (pllLoss p) s

/-- LOGIC_TEMP_LIMIT (R608). The logic die temperature rises through the TJ limit and raises FS13 once. Operands: temperature in
1/16 °C; one 5 °C or more below the limit makes ready for the next rise. -/
def execLogicTempLimit (t : Int) (s : State) : Host.Outcome State Fault Refusal := hubCmd (tempLimit t) s

/-- BLT_CTL_FREEZE (R510). A write of 1 to BLT_CTL.FREEZE stops recording. -/
def execBltCtlFreeze (s : State) : Host.Outcome State Fault Refusal := hubCmd (bltFreeze true) s

/-- BLT_CTL_THAW (R510). A write of 0 to BLT_CTL.FREEZE resumes recording. -/
def execBltCtlThaw (s : State) : Host.Outcome State Fault Refusal := hubCmd (bltFreeze false) s

/-- BLT_CLR_WRITE (R510). A write of 1 to BLT_CLR sets COUNT to 0 and clears FULL. -/
def execBltClrWrite (s : State) : Host.Outcome State Fault Refusal := hubCmd (bltClrWrite 1) s

/-- MON_SAMPLE (R515). A monitor slot takes a sample, bins it and stops at its limit. Operands: slot and value measured. -/
def execMonSample (m : Fin 16) (v : Int) (s : State) : Host.Outcome State Fault Refusal := hubCmd (monSample m v) s

/-- MON_CTL_ARM (R516). A write of 1 to MON_CTLm.ARM takes the settings, clears the results and starts the slot. Operands: slot. -/
def execMonCtlArm (m : Fin 16) (s : State) : Host.Outcome State Fault Refusal := hubCmd (monCtlWrite m 0x80000000) s

/-- MON_CTL_STOP (R516). A write of 1 to MON_CTLm.STOP stops the slot without setting DONE. Operands: slot. -/
def execMonCtlStop (m : Fin 16) (s : State) : Host.Outcome State Fault Refusal := hubCmd (monCtlWrite m 0x40000000) s

end Sys2Proof.Machine
end

