-- ==== Sys2Proof/Machine/HubCmds.lean ====
section
/-! DEFINITION. Meanings of the commands of the hub, its resets and its registers. -/
namespace Sys2Proof.Machine
open Sys2Proof

/-- REGISTER_WRITE (R18). A write to a register that has no behaviour of its own stores its value according to the register's
access type. Operands: requester `o` writes word `v` at node-local offset `off`; a register with a behaviour of its own shows
it. -/
def execRegisterWrite (o : Origin) (off : Nat) (v : Word) (s : State) : Host.Outcome State Fault Refusal :=
  coreCmd (serve o ⟨.wrN, off, 4, wordBytes v⟩) s

/-- COMMIT_ON_DELIVERY_READ (R145). A local read of an RC, pop or other commit-on-delivery register returns the value and marks it
pending until delivery commits it. Operands: requester `o` reads `count` bytes at `off`. -/
def execCommitOnDeliveryRead (o : Origin) (off : Nat) (count : Nat) (s : State) : Host.Outcome State Fault Refusal :=
  coreCmd (serve o ⟨.rd, off, count, []⟩) s

/-- D2D_STATUS_FRAME (R22). A status frame from the companion arrives over the die-to-die link and refreshes the logic die's
copies of the companion registers. -/
def execD2dStatusFrame (s : State) : Host.Outcome State Fault Refusal := hubCmd d2dStatus s

/-- COMPANION_WRITE_ACK (R22). The companion's acknowledgement of a SLOT_, FEED_ or companion-side PWR_ write arrives, and the
write completes OK. -/
def execCompanionWriteAck (s : State) : Host.Outcome State Fault Refusal := hubCmd compAck s

/-- D2D_LINK_LOST (R23). No valid status frame has arrived for 8 µs, so D2D_UP clears, FS192 is raised and companion-side writes
complete BUSY. -/
def execD2dLinkLost (s : State) : Host.Outcome State Fault Refusal := hubCmd d2dLost s

/-- LOGIC_POWER_ON_RESET (R32). A logic rail falls below its reset level, and the whole logic die, including the ring core, is
reset. -/
def execLogicPowerOnReset (s : State) : Host.Outcome State Fault Refusal := done lporReset s

/-- LPOR_RELEASE (R609). All logic rails are good and the PLLs are locked, so LPOR ends and ROM boot begins. Operands: the straps
NODE_ID, BOOT_MODE and TEST_MODE as they stand at the pins. -/
def execLporRelease (node : Fin 256) (boot : Fin 4) (test : Bool) (s : State) : Host.Outcome State Fault Refusal :=
  done (fun s => lporRelease (strapPins node boot test s)) s

/-- RST_N_ASSERT (R32). RST_N is held low for 1 µs or more, which resets the logic die except the ring core. -/
def execRstNAssert (s : State) : Host.Outcome State Fault Refusal := done rstAssert s

/-- RST_N_RELEASE (R589). RST_N rises, the straps are resampled and both pairs start in ROM. Operands: the straps as they stand at
the pins. -/
def execRstNRelease (node : Fin 256) (boot : Fin 4) (test : Bool) (s : State) : Host.Outcome State Fault Refusal :=
  done (fun s => rstRelease (strapPins node boot test s)) s

/-- HUB_CTL_SWRST (R32). A write of 1 to HUB_CTL.SWRST resets the logic die except the ring core, and boot restarts. -/
def execHubCtlSwrst (s : State) : Host.Outcome State Fault Refusal := hubCmd (fun s => hubCtlWrite (withBit hubCtl 1 s) s) s

/-- HUB_CTL_RUN (R41). A write of 1 to HUB_CTL.RUN runs the hub check and, on pass, lets the local data path run. -/
def execHubCtlRun (s : State) : Host.Outcome State Fault Refusal := hubCmd (fun s => hubCtlWrite (withBit hubCtl 0 s) s) s

/-- HUB_CTL_RUN_CLEAR (R40). A write of 0 to HUB_CTL.RUN holds the nibs, quills, CAN, bridge and stroke idle, with their pins at
safe values. -/
def execHubCtlRunClear (s : State) : Host.Outcome State Fault Refusal := hubCmd (fun s => hubCtlWrite (sansBit hubCtl 0 s) s) s

/-- HUB_CTL_RCCLR (R39). A write of 1 to HUB_CTL.RCCLR clears HUB_RST_CAUSE. -/
def execHubCtlRcclr (s : State) : Host.Outcome State Fault Refusal := hubCmd (fun s => hubCtlWrite (withBit hubCtl 5 s) s) s

/-- COMPANION_POWER_ON_RESET (R32). VFEED falls below 7.5 V, and the companion turns every slot gate and ORing gate off and clears
its timers. -/
def execCompanionPowerOnReset (s : State) : Host.Outcome State Fault Refusal := done compReset s

/-- STBY_COUNTER_INVALID (R572). VSTBY falls below 1.8 V or the oscillator misses 4 periods, so the standby counter becomes
invalid and restarts from 0. Operands: the oscillator still runs. -/
def execStbyCounterInvalid (osc : Bool) (s : State) : Host.Outcome State Fault Refusal := done (stbyInvalid osc) s

/-- PERST_N_ASSERT (R32). PERST_N goes low, which resets the PCIe endpoint and closes the sessions held through PCIe. -/
def execPerstNAssert (s : State) : Host.Outcome State Fault Refusal := coreCmd perst s

/-- NOTICE_COALESCE_FLUSH (R47). When the notice queue admits a cell again, one group 0 notice 0x01 carries the coalesced count.
Operands: notice queue N`n`. -/
def execNoticeCoalesceFlush (n : Fin 16) (s : State) : Host.Outcome State Fault Refusal := hubCmd (coalFlush n) s

end Sys2Proof.Machine
end

