-- ==== Sys2Proof/Machine/InkCmds.lean ====
section
/-! DEFINITION. Meanings of the commands of the inkwell and its queues. -/
namespace Sys2Proof.Machine
open Sys2Proof

/-- INK_APPLY (R171). A write of 1 to INK_CTL.APPLY runs the totals check and activates the staged set on pass. -/
def execInkApply (s : State) : Host.Outcome State Fault Refusal := hubCmd (inkCtlWrite 1) s

/-- PORT_PEEK (R175). An 8-byte read of a port window returns the descriptor of the first closed item without popping it.
Operands: requester `o`, port `p`. -/
def execPortPeek (o : Origin) (p : Fin 64) (s : State) : Host.Outcome State Fault Refusal :=
  coreCmd (serve o ⟨.rd, portOff p, 8, []⟩) s

/-- PORT_POP (R175). A read of 16–256 bytes of a port window pops a fragment of the head item as a commit-on-delivery read.
Operands: requester `o`, port `p`, bytes read. -/
def execPortPop (o : Origin) (p : Fin 64) (count : Nat) (s : State) : Host.Outcome State Fault Refusal :=
  coreCmd (serve o ⟨.rd, portOff p, count, []⟩) s

/-- PORT_PUSH (R176). A write to a port window appends data to the queue's open item and closes it on END. Operands: requester
`o`, port `p`; `posted`: a WR_P. -/
def execPortPush (o : Origin) (p : Fin 64) (posted : Bool) (data : List Byte) (s : State) : Host.Outcome State Fault Refusal :=
  coreCmd (serve o ⟨writeKind posted, portOff p, data.length, data⟩) s

/-- QUEUE_MOVE_RETRY (R177). A refused local move is tried again when cells are freed anywhere in the inkwell. -/
def execQueueMoveRetry (q : Fin 1024) (s : State) : Host.Outcome State Fault Refusal :=
  hubCmd (fun s => flow ((queue q s).items.length + 8) q s) s

/-- STALL_READ_EXPIRE (R178). A held pop reaches Q_CFG.STALL and completes EMPTY. Operands: the held pop of requester `o`. -/
def execStallReadExpire (q : Fin 1024) (o : Origin) (s : State) : Host.Outcome State Fault Refusal := hubCmd (stallExpire q o) s

/-- TAIL_TIMER_FIRE (R179). The tail timer of a host message queue fires, cuts the open item and posts a group 23 notice. -/
def execTailTimerFire (q : Fin 1024) (s : State) : Host.Outcome State Fault Refusal := hubCmd (tailFire q) s

/-- CENSUS_CHECK (R184). Every 1024 CORE cycles the three cell counts are summed and compared with 32,768. -/
def execCensusCheck (s : State) : Host.Outcome State Fault Refusal := hubCmd census s

end Sys2Proof.Machine
end

