-- ==== Sys2Proof/Machine/KeyCmds.lean ====
section
/-! DEFINITION. Meanings of the commands of the keyed check engine. -/
namespace Sys2Proof.Machine
open Sys2Proof

/-- CPH_PAGE_ENABLE (R533). A write of 1 to CPH_PAGE_CTL.EN runs the page check and records the owner. Operands: requester and
page. -/
def execCphPageEnable (o : Origin) (p : Fin 16) (s : State) : Host.Outcome State Fault Refusal :=
  hubCmd (fun s => pageWrite o p (cphCtlWrite p (withBit (cphReg p 0) 0 s) (holderWord o s)) s) s

/-- CPH_PAGE_DISABLE (R534). A write of 0 to CPH_PAGE_CTL.EN is a unit reset that returns the job under way and clears the owner.
Operands: requester and page. -/
def execCphPageDisable (o : Origin) (p : Fin 16) (s : State) : Host.Outcome State Fault Refusal :=
  hubCmd (fun s => pageWrite o p (cphCtlWrite p (sansBit (cphReg p 0) 0 s) (holderWord o s)) s) s

/-- CPH_CMD_LOAD (R527). CPH_CMD with OP LOAD loads the key from CPH_KEYIN into a slot. Operands: requester, page, key slot,
KSIZE, PERSIST; `nvOk`: the MRAM write reads back well. -/
def execCphCmdLoad (o : Origin) (p : Fin 16) (k : Fin 32) (ksize : Fin 4) (persist : Bool) (nvOk : Bool) (s : State) : Host.Outcome State Fault Refusal :=
  hubCmd (fun s => pageWrite o p (cphCmd p (cmdLoadWord k ksize persist) nvOk (holderWord o s)) s) s

/-- CPH_CMD_ERASE (R528). CPH_CMD with OP ERASE removes a slot's key and increments its generation. Operands: requester, page, key
slot. -/
def execCphCmdErase (o : Origin) (p : Fin 16) (k : Fin 32) (s : State) : Host.Outcome State Fault Refusal :=
  hubCmd (fun s => pageWrite o p (cphCmd p (cmdEraseWord k) true (holderWord o s)) s) s

/-- CPH_JOB_START (R542). In a page's turn, the engine takes its next job and snapshots the slot's key. -/
def execCphJobStart (s : State) : Host.Outcome State Fault Refusal := hubCmd cphJobStart s

/-- CPH_JOB_END (R540). A job ends and its 32-byte result is written to the page's output queue. -/
def execCphJobEnd (s : State) : Host.Outcome State Fault Refusal := hubCmd cphJobEnd s

/-- CPH_RESULT_ADMIT (R540). A held result is written once its output queue admits it. -/
def execCphResultAdmit (p : Fin 16) (s : State) : Host.Outcome State Fault Refusal := hubCmd (cphAdmit p) s

/-- CPH_DIN_WRITE (R541). A WR_N to CPH_DIN runs a direct job and completes after its result is written. Operands: requester, page
and job bytes. -/
def execCphDinWrite (o : Origin) (p : Fin 16) (data : List Byte) (s : State) : Host.Outcome State Fault Refusal :=
  coreCmd (serve o ⟨.wrN, cphReg p 0x400, data.length, data⟩) s

/-- CPH_COUNTER_PERSIST (R538). The MRAM write of a counter multiple of 2^16 completes, and the waiting job resumes. Operands: key
slot; whether the write reads back well. -/
def execCphCounterPersist (k : Fin 32) (ok : Bool) (s : State) : Host.Outcome State Fault Refusal := hubCmd (ctrPersist k ok) s

/-- KEY_LOAD (R543). The Kilco command KEY_LOAD loads a key into a slot. Operands: mailbox `m`; `nvOk`: the MRAM write reads back
well. -/
def execKeyLoad (m : Fin 16) (nvOk : Bool) (s : State) : Host.Outcome State Fault Refusal :=
  kcCmd m 0x0701 (fun raw => kcKeyLoad m nvOk raw) s

/-- KEY_ERASE (R528). The Kilco command KEY_ERASE erases a slot's key. Operands: mailbox `m`. -/
def execKeyErase (m : Fin 16) (s : State) : Host.Outcome State Fault Refusal := kcCmd m 0x0702 (fun raw => kcKeyErase m raw) s

/-- MAC_GEN (R535). The Kilco command MAC_GEN generates a tag with the next counter value. Operands: mailbox `m`. -/
def execMacGen (m : Fin 16) (s : State) : Host.Outcome State Fault Refusal := kcCmd m 0x0703 (fun raw => kcMacGen m raw) s

/-- MAC_VERIFY (R536). The Kilco command MAC_VERIFY checks a tag and answers PASS or FAIL. Operands: mailbox `m`. -/
def execMacVerify (m : Fin 16) (s : State) : Host.Outcome State Fault Refusal := kcCmd m 0x0704 (fun raw => kcMacVerify m raw) s

end Sys2Proof.Machine
end

