-- ==== Sys2Proof/Machine/KilcoCmds.lean ====
section
/-! DEFINITION. Meanings of the commands of mailboxes, sessions and jobs. -/
namespace Sys2Proof.Machine
open Sys2Proof

/-- KC_DOORBELL (R434). A write of 1 to KC_DOORBELL.RING copies the packet and sets PEND. Operands: mailbox and requester. -/
def execKcDoorbell (m : Fin 16) (o : Origin) (s : State) : Host.Outcome State Fault Refusal := hubCmd (kcDoorbell m o 1) s

/-- KC_CTL_CLOSE (R433). A write of 1 to KC_CTL.CLOSE closes the session and ends its jobs. Operands: mailbox and requester. -/
def execKcCtlClose (m : Fin 16) (o : Origin) (s : State) : Host.Outcome State Fault Refusal := hubCmd (kcCtlWrite m o 1) s

/-- KC_SESSION_EXPIRE (R433). No doorbell from the holder for the idle time closes the session. -/
def execKcSessionExpire (m : Fin 16) (s : State) : Host.Outcome State Fault Refusal := hubCmd (kcExpire m) s

/-- JOB_STEP (R447). In a session's turn, pair K runs one step of at most 50 µs of a stepped job. Operands: session, 16 for the
jobs without one, and job slot; whether the work ends with this step, and whether its MRAM writes read back well. -/
def execJobStep (m : Fin 17) (j : Nat) (last : Bool) (ok : Bool) (s : State) : Host.Outcome State Fault Refusal :=
  hubCmd (jobStep m j last ok) s

/-- JOB_OUTCOME_EXPIRE (R448). 60 s after a job ended, its outcome is released and its handle becomes unknown. Operands: session
and job slot. -/
def execJobOutcomeExpire (m : Fin 17) (j : Nat) (s : State) : Host.Outcome State Fault Refusal := hubCmd (jobExpire m j) s

/-- JOB_LOW_SUPPLY_RESUME (R450). After 10 ms of good supply, a job in LOW_SUPPLY returns to RUNNING. Operands: session and job
slot. -/
def execJobLowSupplyResume (m : Fin 17) (j : Nat) (s : State) : Host.Outcome State Fault Refusal := hubCmd (jobResume m j) s

/-- HELLO (R443). The Kilco command HELLO negotiates a version and opens or reopens the session. Operands: mailbox `m`. -/
def execHello (m : Fin 16) (s : State) : Host.Outcome State Fault Refusal := kcCmd m 0x0001 (fun raw => kcHello m raw) s

/-- GOODBYE (R458). The Kilco command GOODBYE ends the session's jobs and closes the session after its reply. Operands: mailbox
`m`. -/
def execGoodbye (m : Fin 16) (s : State) : Host.Outcome State Fault Refusal := kcCmd m 0x0002 (fun _ => kcGoodbye m) s

/-- GET_IDENTITY (R458). The Kilco command GET_IDENTITY returns identity, device number and versions. Operands: mailbox `m`. -/
def execGetIdentity (m : Fin 16) (s : State) : Host.Outcome State Fault Refusal := kcCmd m 0x0003 (fun _ => kcIdentity m) s

/-- GET_CAPS (R458). The Kilco command GET_CAPS returns the opcodes served and the limits. Operands: mailbox `m`. -/
def execGetCaps (m : Fin 16) (s : State) : Host.Outcome State Fault Refusal := kcCmd m 0x0004 (fun _ => kcCaps m) s

/-- JOB_STATUS (R458). The Kilco command JOB_STATUS reports a job's state and final outcome. Operands: mailbox `m`. -/
def execJobStatus (m : Fin 16) (s : State) : Host.Outcome State Fault Refusal := kcCmd m 0x0005 (fun raw => jobStatus m raw) s

/-- JOB_CANCEL (R449). The Kilco command JOB_CANCEL stops a job of the session at its boundary. Operands: mailbox `m`. -/
def execJobCancel (m : Fin 16) (s : State) : Host.Outcome State Fault Refusal := kcCmd m 0x0006 (fun raw => kcJobCancel m raw) s

/-- CFG_READ (R459). The Kilco command CFG_READ reads up to 64 registers as requests of pair K. Operands: mailbox `m`. -/
def execCfgRead (m : Fin 16) (s : State) : Host.Outcome State Fault Refusal := kcCmd m 0x0101 (fun raw => kcCfgRead m raw) s

/-- CFG_WRITE (R459). The Kilco command CFG_WRITE writes up to 64 registers as requests of pair K. Operands: mailbox `m`. -/
def execCfgWrite (m : Fin 16) (s : State) : Host.Outcome State Fault Refusal := kcCmd m 0x0102 (fun raw => kcCfgWrite m raw) s

/-- CFG_ENABLE (R459). The Kilco command CFG_ENABLE writes an enable bit and replies with the check result. Operands: mailbox `m`. -/
def execCfgEnable (m : Fin 16) (s : State) : Host.Outcome State Fault Refusal := kcCmd m 0x0103 (fun raw => kcCfgEnable m raw) s

/-- CFG_CHECK (R459). The Kilco command CFG_CHECK runs an enable check without changing anything. Operands: mailbox `m`. -/
def execCfgCheck (m : Fin 16) (s : State) : Host.Outcome State Fault Refusal := kcCmd m 0x0106 (fun raw => kcCfgCheck m raw) s

/-- CFG_SAVE (R596). The Kilco command CFG_SAVE writes the current configuration into the older store as a job. Operands: mailbox
`m`; `last` and `ok` as in JOB_STEP. -/
def execCfgSave (m : Fin 16) (last : Bool) (ok : Bool) (s : State) : Host.Outcome State Fault Refusal :=
  kcCmd m 0x0104 (fun raw => kcCfgSave m last ok raw) s

/-- CFG_RESTORE (R596). The Kilco command CFG_RESTORE writes and enables a stored configuration in order, as a job. Operands:
mailbox `m`. -/
def execCfgRestore (m : Fin 16) (s : State) : Host.Outcome State Fault Refusal := kcCmd m 0x0105 (fun raw => kcCfgRestore m raw) s

/-- BAD_OPCODE (R441). In a session's turn, pair K takes a pending packet whose opcode is unknown or not defined at its version
and answers BAD_OPCODE. Operands: mailbox `m`. -/
def execBadOpcode (m : Fin 16) (s : State) : Host.Outcome State Fault Refusal := hubCmd (kcBadOpcode m) s

end Sys2Proof.Machine
end

