-- ==== Sys2Proof/Machine/LaneCmds.lean ====
section
/-! DEFINITION. Meanings of the commands of the ring lanes. -/
namespace Sys2Proof.Machine
open Sys2Proof

/-- LANE_SIGNAL_DETECT (R63). Signal detect and CDR lock move the lane from DETECT to ALIGN. Operands: lane 0 West, 1 East. -/
def execLaneSignalDetect (l : Fin 2) (s : State) : Host.Outcome State Fault Refusal := coreCmd (laneSignal l) s

/-- LANE_SIGNAL_LOSS (R66). Loss of signal detect or CDR lock takes the lane back to DETECT and, from UP, ends link-up with cause
0x01. Operands: `sig`: signal detect is lost, else CDR lock alone. -/
def execLaneSignalLoss (l : Fin 2) (sig : Bool) (s : State) : Host.Outcome State Fault Refusal := coreCmd (laneSignalLoss l sig) s

/-- BLOCK_LOCK_ACQUIRE (R56). 64 consecutive valid sync headers declare block lock. Operands: the sync headers of the blocks that
arrive, in order. -/
def execBlockLockAcquire (l : Fin 2) (hs : List (BitVec 2)) (s : State) : Host.Outcome State Fault Refusal :=
  coreCmd (rxHeaders l hs) s

/-- BLOCK_LOCK_LOSS (R57). 16 or more invalid headers in one window of 64 blocks lose block lock. Operands: the sync headers of the
blocks that arrive, in order. -/
def execBlockLockLoss (l : Fin 2) (hs : List (BitVec 2)) (s : State) : Host.Outcome State Fault Refusal :=
  coreCmd (rxHeaders l hs) s

/-- INVALID_SYNC_HEADER (R57). An invalid sync header is counted in LANE_CNT_HDR and, without lock, slips the block boundary.
Operands: `hi`: 0b11, else 0b00. -/
def execInvalidSyncHeader (l : Fin 2) (hi : Bool) (s : State) : Host.Outcome State Fault Refusal := coreCmd (invalidHeader l hi) s

/-- INVALID_BLOCK (R54). An invalid control block is counted in LANE_CNT_BLK and ends the frame in progress as bad. Operands: the
block as received; `blocks` blocks of the frame in progress have arrived. -/
def execInvalidBlock (l : Fin 2) (blocks : Nat) (b : Block) (s : State) : Host.Outcome State Fault Refusal :=
  coreCmd (invalidBlock l blocks b) s

/-- SUPERFRAME_LOCK_ACQUIRE (R61). Two commas received exactly 4096 blocks apart declare superframe lock. Operands: the two comma
blocks. -/
def execSuperframeLockAcquire (l : Fin 2) (b c : Block) (s : State) : Host.Outcome State Fault Refusal :=
  coreCmd (sfLockAcquire l b c) s

/-- SUPERFRAME_LOCK_LOSS (R61). Three consecutive missing commas end superframe lock. Operands: `n` blocks with no comma. -/
def execSuperframeLockLoss (l : Fin 2) (n : Nat) (s : State) : Host.Outcome State Fault Refusal := coreCmd (sfLockLoss l n) s

/-- COMMA_RECEIVE (R59). A received comma is recognised, removed and recorded in LANE_PARTNER, and it drives the training state
machine. Operands: block `b` as received, `gap` blocks with no comma after the last block given; `blocks` blocks of the frame in
progress have arrived. -/
def execCommaReceive (l : Fin 2) (b : Block) (gap blocks : Nat) (s : State) : Host.Outcome State Fault Refusal :=
  coreCmd (commaReceive l b gap blocks) s

/-- COMMA_SEND (R60). The transmitter sends a comma at block 0 of each superframe of 4096 blocks. -/
def execCommaSend (l : Fin 2) (s : State) : Host.Outcome State Fault Refusal := coreCmd (commaSend l) s

/-- RATE_CHANGE_TIMEOUT (R65). RATE_CHANGE has not reached superframe lock within 10 ms, so the lane downgrades to version 1 and
returns to DETECT. -/
def execRateChangeTimeout (l : Fin 2) (s : State) : Host.Outcome State Fault Refusal := coreCmd (rateTimeout l) s

/-- TRAIN_ADAPT_END (R63). After 2 ms of adaptation and 1 ms without an error, the lane in TRAIN begins to send STAGE UP.
Operands: equaliser settings reached. -/
def execTrainAdaptEnd (l : Fin 2) (ctle : Nat) (dfe : List Int) (s : State) : Host.Outcome State Fault Refusal :=
  coreCmd (trainEnd l ctle dfe) s

/-- LANE_STATE_TIMEOUT (R628). A lane that has not left ALIGN, NEGOTIATE or TRAIN within its bound returns to DETECT. -/
def execLaneStateTimeout (l : Fin 2) (s : State) : Host.Outcome State Fault Refusal := coreCmd (stateTimeout l) s

/-- ELASTIC_IDLE_DELETE (R69). At a fill of 20 or more with an idle block at the head, the hub deletes that block. Operands: the
moves of the elastic buffer since the last command that brought any. -/
def execElasticIdleDelete (l : Fin 2) (es : List BufEv) (s : State) : Host.Outcome State Fault Refusal := coreCmd (idleDelete l es) s

/-- ELASTIC_IDLE_INSERT (R69). At a fill of 12 or less, the hub inserts one idle block at the next gap between frames. Operands:
the moves of the elastic buffer since the last command that brought any. -/
def execElasticIdleInsert (l : Fin 2) (es : List BufEv) (s : State) : Host.Outcome State Fault Refusal := coreCmd (idleInsert l es) s

/-- ELASTIC_OVERFLOW (R69). An elastic buffer overflow or underflow sets EOVF and ends link-up with cause 0x04. Operands: the moves
of the elastic buffer since the last command that brought any. -/
def execElasticOverflow (l : Fin 2) (es : List BufEv) (s : State) : Host.Outcome State Fault Refusal := coreCmd (bufMoves l es) s

/-- FORCED_IDLE_BLOCK (R70). The transmitter sends a full idle block in each run of 2048 blocks, delaying a frame start if needed. -/
def execForcedIdleBlock (l : Fin 2) (s : State) : Host.Outcome State Fault Refusal := coreCmd (forcedIdle l) s

/-- ADAPT_STEP (R68). In UP with ADAPT = 1, receive equaliser settings move by at most one step per 100 µs. Operands: settings the
adaptation asks for. -/
def execAdaptStep (l : Fin 2) (ctle : Nat) (dfe : List Int) (s : State) : Host.Outcome State Fault Refusal :=
  coreCmd (adaptStep l ctle dfe) s

/-- LANE_TXEQ_APPLY (R68). A new LANE_TXEQ value takes effect at the next own superframe boundary. -/
def execLaneTxeqApply (l : Fin 2) (s : State) : Host.Outcome State Fault Refusal := coreCmd (txeqApply l) s

/-- LANE_CTL_RETRAIN (R76). A write of 1 to LANE_CTL.RETRAIN returns the lane to DETECT and clears DOWNGRADE. -/
def execLaneCtlRetrain (l : Fin 2) (s : State) : Host.Outcome State Fault Refusal :=
  coreCmd (fun s => laneCtlWrite l (withBit (laneReg l 0) 1 s) s) s

/-- LANE_LINK_ENABLE (R63). A write of 1 to LINK_EN moves a DISABLED lane to DETECT, or to PRBS when PAT is non-zero. -/
def execLaneLinkEnable (l : Fin 2) (s : State) : Host.Outcome State Fault Refusal :=
  coreCmd (fun s => laneCtlWrite l (withBit (laneReg l 0) 0 s) s) s

/-- LANE_LINK_DISABLE (R63). A write of 0 to LINK_EN puts the lane in DISABLED with its transmitter at electrical idle. -/
def execLaneLinkDisable (l : Fin 2) (s : State) : Host.Outcome State Fault Refusal :=
  coreCmd (fun s => laneCtlWrite l (sansBit (laneReg l 0) 0 s) s) s

/-- LANE_PRBS_CTL_WRITE (R72). A write of LANE_PRBS_CTL enters, keeps or leaves PRBS mode and clears the PRBS counters. -/
def execLanePrbsCtlWrite (l : Fin 2) (v : Word) (s : State) : Host.Outcome State Fault Refusal := coreCmd (prbsCtlWrite l v) s

/-- PRBS_CHECKER_LOCK (R73). 64 consecutive matching bits lock the PRBS checker. Operands: the bits received since the last
command that brought any. -/
def execPrbsCheckerLock (l : Fin 2) (bits : List Bool) (s : State) : Host.Outcome State Fault Refusal := coreCmd (prbsBits l bits) s

/-- PRBS_CHECKER_UNLOCK (R73). More than 64 mismatches in 256 bits drop checker lock and reseed the checker. Operands: the bits
received since the last command that brought any. -/
def execPrbsCheckerUnlock (l : Fin 2) (bits : List Bool) (s : State) : Host.Outcome State Fault Refusal :=
  coreCmd (prbsBits l bits) s

/-- PRBS_BITS_LO_READ (R73). A read of LANE_PRBS_BITS_LO captures the high word for the next read of LANE_PRBS_BITS_HI. Operands:
the bits received since the last command that brought any. -/
def execPrbsBitsLoRead (l : Fin 2) (bits : List Bool) (s : State) : Host.Outcome State Fault Refusal :=
  coreCmd (fun s => prbsLoRead l (prbsBits l bits s)) s

/-- LANE_MARGIN_UPDATE (R80). LANE_MARGIN is updated every 1 ms while the lane is in UP. Operands: eye height and width as
measured. -/
def execLaneMarginUpdate (l : Fin 2) (height : Nat) (width : Nat) (s : State) : Host.Outcome State Fault Refusal :=
  coreCmd (marginUpdate l height width) s

/-- LANE_PRBS (R74). The Kilco command LANE_PRBS starts a timed PRBS test as a job. Operands: mailbox `m`. -/
def execLanePrbs (m : Fin 16) (s : State) : Host.Outcome State Fault Refusal := kcCmd m 0x0309 (fun raw => kcLanePrbs m raw) s

/-- LANE_PRBS_END (R74). At the end of the test duration, the job writes PAT = 0b00 and reports the error and bit counts.
Operands: the job in slot `j` of session `m`; the bits received since the last command that brought any. -/
def execLanePrbsEnd (m : Fin 16) (j : Fin 4) (bits : List Bool) (s : State) : Host.Outcome State Fault Refusal :=
  hubCmd (prbsJobEnd m j bits) s

end Sys2Proof.Machine
end

