-- ==== Sys2Proof/Machine/LineCmds.lean ====
section
/-! DEFINITION. Meanings of the commands of discrete lines and the stroke. -/
namespace Sys2Proof.Machine
open Sys2Proof

/-- DEBOUNCE_SETTLE (R247). The debounce count reaches N, and F takes the synchronized level. Operands: pin, level, and
the ns since S first differed from F. -/
def execDebounceSettle (p : Fin 512) (lvl : Bool) (ns : Nat) (s : State) : Host.Outcome State Fault Refusal :=
  hubCmd (debounceSettle p lvl ns) s

/-- STUCK_DETECT (R250). F has been active for STUCK ms, which sets STUCK and emits a stuck event. -/
def execStuckDetect (p : Fin 512) (s : State) : Host.Outcome State Fault Refusal := hubCmd (stuckDetect p) s

/-- DISCRETE_SHORT_PULSE (R251). S returns to F before the debounce count reaches N, which sets CHATTER. -/
def execDiscreteShortPulse (p : Fin 512) (s : State) : Host.Outcome State Fault Refusal := hubCmd (shortPulse p) s

/-- CHATTER_WINDOW_END (R251). A chatter window ends, and CHATTER is cleared if the window was calm. -/
def execChatterWindowEnd (p : Fin 512) (s : State) : Host.Outcome State Fault Refusal := hubCmd (chatterWindowEnd p) s

/-- STORM_WINDOW_END (R252). A limiter window ends, and a summary notice reports any suppressed events. -/
def execStormWindowEnd (p : Fin 512) (s : State) : Host.Outcome State Fault Refusal := hubCmd (stormCut p) s

/-- DISCRETE_FILTER_WRITE (R254). A write to XB_DFLTp or XB_DDETp resets the pin's debounce, stuck, chatter and limiter windows.
Operands: `det`: XB_DDETp, else XB_DFLTp. -/
def execDiscreteFilterWrite (p : Fin 512) (det : Bool) (v : Word) (s : State) : Host.Outcome State Fault Refusal :=
  hubCmd (if det then ddetWrite p v else dfltWrite p v) s

/-- DISCRETE_LIMIT_WRITE (R254). A write to XB_DLIMp restarts the limiter window only. -/
def execDiscreteLimitWrite (p : Fin 512) (v : Word) (s : State) : Host.Outcome State Fault Refusal := hubCmd (dlimWrite p v) s

/-- DISCRETE_OUT_CLAIM (R255). A write of 1 to XB_DOUTp.EN runs the check and claims the pin as a discrete output. -/
def execDiscreteOutClaim (p : Fin 512) (s : State) : Host.Outcome State Fault Refusal :=
  hubCmd (fun s => doutWrite p (withBit (dReg p 0x0C) 31 s) s) s

/-- DISCRETE_OUT_RELEASE (R255). A write of 0 to XB_DOUTp.EN releases the pin and ends any pulse. -/
def execDiscreteOutRelease (p : Fin 512) (s : State) : Host.Outcome State Fault Refusal :=
  hubCmd (fun s => doutWrite p (sansBit (dReg p 0x0C) 31 s) s) s

/-- DISCRETE_OUT_VAL_WRITE (R256). A write of VAL drives a level output, or starts, restarts or ends a pulse. Operands: the VAL
written. -/
def execDiscreteOutValWrite (p : Fin 512) (v : Bool) (s : State) : Host.Outcome State Fault Refusal :=
  hubCmd (fun s => doutWrite p (setBit (rd s (dReg p 0x0C)) 0 v) s) s

/-- DISCRETE_PULSE_END (R256). A pulse of PULSE µs ends, the pin goes low and VAL reads 0. -/
def execDiscretePulseEnd (p : Fin 512) (s : State) : Host.Outcome State Fault Refusal := hubCmd (pulseEnd p) s

/-- DISCRETE_SAFE_WRITE (R257). A write of SAFE changes a pin that is at its safe value in the next PORT clock. Operands: the SAFE
field written. -/
def execDiscreteSafeWrite (p : Fin 512) (v : Fin 4) (s : State) : Host.Outcome State Fault Refusal :=
  hubCmd (fun s => doutWrite p (setFld (rd s (dReg p 0x0C)) 9 8 v) s) s

/-- STROKE_ENABLE (R272). A write of 1 to STK_CTL.EN runs the stroke check and schedules the first instant. -/
def execStrokeEnable (s : State) : Host.Outcome State Fault Refusal := hubCmd (fun s => stkCtlWrite (withBit stkCtl 0 s) s) s

/-- STROKE_DISABLE (R260). A write of 0 to STK_CTL.EN stops the stroke and discards any pending announcement. -/
def execStrokeDisable (s : State) : Host.Outcome State Fault Refusal := hubCmd (fun s => stkCtlWrite (sansBit stkCtl 0 s) s) s

/-- STROKE_COMMIT (R264). A write of 1 to STK_CTL.COMMIT copies STK_OVAL0–15 into the committed set. -/
def execStrokeCommit (s : State) : Host.Outcome State Fault Refusal := hubCmd (fun s => stkCtlWrite (withBit stkCtl 1 s) s) s

/-- STROKE_CUTOFF (R264). 1 µs before an instant, the committed set becomes armed, and held nib items and CAN objects are chosen. -/
def execStrokeCutoff (s : State) : Host.Outcome State Fault Refusal := hubCmd stkCutoff s

/-- STROKE_INSTANT (R262). At a stroke instant the pins and counters are snapshot and the armed set is applied. Operands: `late`:
the schedule reached the port complex after the instant. -/
def execStrokeInstant (late : Bool) (s : State) : Host.Outcome State Fault Refusal := hubCmd (stkInstant late) s

/-- STROKE_FRAME (R270). A received STROKE announcement is ignored, rejected or made pending. Operands: a good frame delivered on
ring `r`. -/
def execStrokeFrame (r : Fin 2) (f : Frame) (s : State) : Host.Outcome State Fault Refusal := hubCmd (strokeArrives r f) s

/-- STROKE_SCHEDULE_SWITCH (R270). At EFF a pending announcement takes effect, or stops the stroke when STOP = 1. -/
def execStrokeScheduleSwitch (s : State) : Host.Outcome State Fault Refusal := hubCmd stkSwitch s

/-- STROKE_CONFIG (R271). The Kilco command STROKE_CONFIG sets the schedule and may broadcast a STROKE frame. Operands: mailbox
`m`. -/
def execStrokeConfig (m : Fin 16) (s : State) : Host.Outcome State Fault Refusal :=
  kcCmd m 0x0405 (fun raw => kcStrokeConfig m raw) s

end Sys2Proof.Machine
end

