-- ==== Sys2Proof/Machine/NibCmds.lean ====
section
/-! DEFINITION. Meanings of the commands of the nibs. -/
namespace Sys2Proof.Machine
open Sys2Proof

/-- NIB_ENABLE (R201). A write of 1 to NIB_CTL.EN runs the nib check and, on pass, claims the pins and starts the nib. -/
def execNibEnable (n : Fin 256) (s : State) : Host.Outcome State Fault Refusal :=
  hubCmd (fun s => nibCtlWrite n (withBit (nibReg n 0) 0 s) 0 [] s) s

/-- NIB_DISABLE (R203). A write of 0 to NIB_CTL.EN is a unit reset that returns the TX item and truncates the RX item. Operands:
`sent`: bytes of the item under way sent in full since its read position; `got`: bytes received of the transaction or frame under
way. -/
def execNibDisable (n : Fin 256) (sent : Nat) (got : List Byte) (s : State) : Host.Outcome State Fault Refusal :=
  hubCmd (fun s => nibCtlWrite n (sansBit (nibReg n 0) 0 s) sent got s) s

/-- NIB_TX_ITEM_START (R206). A nib starts a closed item from Q(2n), at once or at a stroke instant. -/
def execNibTxItemStart (n : Fin 256) (s : State) : Host.Outcome State Fault Refusal := hubCmd (nibTxStart n) s

/-- NIB_TX_ITEM_COMPLETE (R206). The last bit of a TX item leaves the pin, and the item is freed. Operands: MISO of an SPI
controller in each bit, 0 to 3 PORT clocks after the nominal sampling edge. -/
def execNibTxItemComplete (n : Fin 256) (miso : List (BitVec 4)) (s : State) : Host.Outcome State Fault Refusal :=
  hubCmd (nibTxComplete n miso) s

/-- UART_CHARACTER_RECEIVE (R213). A UART character is received and stored in the open RX item, with its errors counted. Operands:
three samples of each bit at the pin, RXD at mark since the last break, within TURN bit times of the own transmission, and the ns since
the start bit. -/
def execUartCharacterReceive (n : Fin 256) (samples : List (BitVec 3)) (mark : Bool) (turn : Bool) (ns : Nat) (s : State) : Host.Outcome State Fault Refusal :=
  hubCmd (uartReceive n samples mark turn ns) s

/-- UART_IDLE_CLOSE (R214). No start bit for IDLE character times closes the open RX item. -/
def execUartIdleClose (n : Fin 256) (s : State) : Host.Outcome State Fault Refusal := hubCmd (uartIdle n) s

/-- UART_BREAK_RECEIVE (R215). A break of a whole character time is recorded, and the receiver waits for mark. Operands: as
UART_CHARACTER_RECEIVE. -/
def execUartBreakReceive (n : Fin 256) (mark : Bool) (turn : Bool) (ns : Nat) (s : State) : Host.Outcome State Fault Refusal :=
  hubCmd (uartBreak n mark turn ns) s

/-- UART_CTS_CHANGE (R217). A change of CTS_N sets NIB_EVT.LINE and gates transmission. Operands: the new level of CTS_N, and the
bytes of the item under way sent since its read position, with the character already started. -/
def execUartCtsChange (n : Fin 256) (lvl : Bool) (sent : Nat) (s : State) : Host.Outcome State Fault Refusal :=
  hubCmd (uartCts n lvl sent) s

/-- UART_DE_RELEASE (R217). DE goes inactive TURN bit times after the last stop bit with the TX FIFO empty. -/
def execUartDeRelease (n : Fin 256) (s : State) : Host.Outcome State Fault Refusal := hubCmd (uartDeRelease n) s

/-- NIB_HOLD_END (R209). The RX FIFO drains to 32 bytes, and the hold ends. -/
def execNibHoldEnd (n : Fin 256) (s : State) : Host.Outcome State Fault Refusal := hubCmd (nibHoldEnd n) s

/-- HDLC_FRAME_RECEIVE (R219). A received synchronous frame becomes one RX item with its error flags. Operands: RXD in
the last bit of the opening flag and in each bit to the end of the closing flag or of an abort, and the ns since the opening flag. -/
def execHdlcFrameReceive (n : Fin 256) (raw : List Bool) (ns : Nat) (s : State) : Host.Outcome State Fault Refusal :=
  hubCmd (hdlcReceive n raw ns) s

/-- SPI_TARGET_CS_FALL (R223). CS_N falls in SPI target mode, and a transaction and its RX item begin. -/
def execSpiTargetCsFall (n : Fin 256) (s : State) : Host.Outcome State Fault Refusal := hubCmd (spiTargetFall n) s

/-- SPI_TARGET_CS_RISE (R223). CS_N rises, the RX item closes, and a partial byte is recorded. Operands: SCK and MOSI
at the pins after each change of SCK since CS_N fell. -/
def execSpiTargetCsRise (n : Fin 256) (edges : List (Bool × Bool)) (s : State) : Host.Outcome State Fault Refusal :=
  hubCmd (spiTargetRise n edges) s

/-- I2C_START7 (R225). The I2C command START7 sends a START and a 7-bit address byte. Operands: a bus recovery, with SDA still low
after it or not, and the bus's answer. -/
def execI2cStart7 (n : Fin 256) (recover : Option Bool) (res : I2cRes) (s : State) : Host.Outcome State Fault Refusal :=
  hubCmd (i2cStart7 n recover res) s

/-- I2C_START10 (R225). The I2C command START10 sends a START and a 10-bit address. Operands: as I2C_START7, and the
address bytes sent in full. -/
def execI2cStart10 (n : Fin 256) (recover : Option Bool) (res : I2cRes) (sent : Nat) (s : State) : Host.Outcome State Fault Refusal :=
  hubCmd (i2cStart10 n recover res sent) s

/-- I2C_WRITE (R225). The I2C command WRITE writes n bytes. Operands: bytes acknowledged before the answer `res`. -/
def execI2cWrite (n : Fin 256) (acked : Nat) (res : I2cRes) (s : State) : Host.Outcome State Fault Refusal :=
  hubCmd (i2cWrite n acked res) s

/-- I2C_READ (R225). The I2C command READ reads n bytes, NACKing the last. Operands: bytes of the READ, in one command or
several; `lost`: arbitration lost. -/
def execI2cRead (n : Fin 256) (data : List Byte) (lost : Bool) (s : State) : Host.Outcome State Fault Refusal :=
  hubCmd (i2cRead n data lost) s

/-- I2C_STOP (R225). The I2C command STOP sends a STOP and ends the transaction with its RX header. -/
def execI2cStop (n : Fin 256) (s : State) : Host.Outcome State Fault Refusal := hubCmd (i2cStop n) s

/-- I2C_PAUSE (R225). The I2C command PAUSE holds SCL low for t × 10 µs. -/
def execI2cPause (n : Fin 256) (s : State) : Host.Outcome State Fault Refusal := hubCmd (i2cPause n) s

/-- I2C_STRETCH_TIMEOUT (R227). The bus is busy, or SCL is stretched, beyond STRETCH ms, so the item ends with status 0x4.
Operands: `stuck`: SDA is still low after the bus recovery. -/
def execI2cStretchTimeout (n : Fin 256) (stuck : Bool) (s : State) : Host.Outcome State Fault Refusal :=
  hubCmd (i2cStretch n stuck) s

/-- I2C_TARGET_START (R228). A START addressed to the I2C target begins a write or read transfer. Operands: address, 10-bit form,
direction. -/
def execI2cTargetStart (n : Fin 256) (addr : Nat) (ten : Bool) (read : Bool) (s : State) : Host.Outcome State Fault Refusal :=
  hubCmd (i2cTgtStart n addr ten read) s

/-- I2C_TARGET_STOP (R228). A STOP or repeated START ends a target transfer and closes its RX item. Operands: bytes written to the
target or stream bytes it sent since the last command of the transfer, a NACK of the last byte sent, and a STOP rather than a repeated
START. -/
def execI2cTargetStop (n : Fin 256) (data : List Byte) (sent : Nat) (nack : Bool) (stop : Bool) (s : State) : Host.Outcome State Fault Refusal :=
  hubCmd (i2cTgtStop n data sent nack stop) s

/-- I2C_TARGET_FILL_TIMEOUT (R228). No TX byte is ready after STRETCH ms of stretching, so the target sends FILL. Operands: stream
bytes sent since the last command of the transfer. -/
def execI2cTargetFillTimeout (n : Fin 256) (sent : Nat) (s : State) : Host.Outcome State Fault Refusal :=
  hubCmd (i2cTgtFill n sent) s

/-- I2C_HOLD_TIMEOUT (R228). A hold under FLOW lasts STRETCH ms, so the target NACKs the byte. Operands: bytes written since the last
command of the transfer. -/
def execI2cHoldTimeout (n : Fin 256) (data : List Byte) (s : State) : Host.Outcome State Fault Refusal :=
  hubCmd (i2cTgtHold n data) s

/-- COUNTER_EDGE (R229). A filtered input edge is counted or captured according to the counter function. Operands: the filtered
levels of S0 and S1 now, and the PORT clocks a capture counts. -/
def execCounterEdge (n : Fin 256) (a : Bool) (b : Bool) (clocks : Nat) (s : State) : Host.Outcome State Fault Refusal :=
  hubCmd (ctrEdge n a b clocks) s

/-- COUNTER_INDEX (R229). A rising S3 edge clears the count with IDXCLR = 1, or S3 gates edge counting. Operands: the new level of
S3. -/
def execCounterIndex (n : Fin 256) (lvl : Bool) (s : State) : Host.Outcome State Fault Refusal := hubCmd (ctrIndex n lvl) s

/-- PWM_PERIOD_BOUNDARY (R230). A PWM period ends, and pending PERIOD and DUTY writes take effect. -/
def execPwmPeriodBoundary (n : Fin 256) (s : State) : Host.Outcome State Fault Refusal := hubCmd (pwmBoundary n) s

/-- ONE_SHOT_END (R229). The one-shot pulse of DUTY PORT clocks ends, and S2 returns low. -/
def execOneShotEnd (n : Fin 256) (s : State) : Host.Outcome State Fault Refusal := hubCmd (oneShotEnd n) s

/-- FREQ_WINDOW_END (R229). A frequency window of PERIOD PORT clocks ends, and its edge count is captured. -/
def execFreqWindowEnd (n : Fin 256) (s : State) : Host.Outcome State Fault Refusal := hubCmd (freqWindowEnd n) s

/-- BANK_CLASS_CHANGE (R200). A group's VIO class changes while a pin is claimed, which sets CHANGED and raises FS12. Operands:
bank group and its VIO in mV. -/
def execBankClassChange (g : Fin 16) (mv : Nat) (s : State) : Host.Outcome State Fault Refusal :=
  hubCmd (bankClassChange g mv) s

/-- OUTPUT_FIGHT (R234). An output slot's pin reads the opposite level for 1 µs, which raises FS99. Operands: slot `k` of nib `n`. -/
def execOutputFight (n : Fin 256) (k : Fin 4) (s : State) : Host.Outcome State Fault Refusal := hubCmd (outputFight n k) s

end Sys2Proof.Machine
end

