-- ==== Sys2Proof/Machine/PowerCmds.lean ====
section
/-! DEFINITION. Meanings of the commands of the companion, the feeds and the slots. -/
namespace Sys2Proof.Machine
open Sys2Proof

/-- COMPANION_TICK (R549). Each 1 µs tick, the companion evaluates windows, limits and timers, and then applies commands.
Operands: what the companion measures in the tick. -/
def execCompanionTick (t : TickIn) (s : State) : Host.Outcome State Fault Refusal := compCmd (compTick t) s

/-- FEED_GOOD (R551). A feed in window for 10 ms becomes GOOD. Operands: feed 0 A, 1 B. -/
def execFeedGood (x : Fin 2) (s : State) : Host.Outcome State Fault Refusal := compCmd (feedBecomesGood x) s

/-- FEED_LOST (R551). A feed out of window for 2 ticks stops being GOOD and raises FS194 or FS195. Operands: feed. -/
def execFeedLost (x : Fin 2) (s : State) : Host.Outcome State Fault Refusal := compCmd (feedLost x) s

/-- FEED_OVERVOLTAGE (R553). VIN above OV turns the feed's ORing FET off within 2 µs. Operands: feed and VIN in mV. -/
def execFeedOvervoltage (x : Fin 2) (vin : Nat) (s : State) : Host.Outcome State Fault Refusal := compCmd (feedOvervolt x vin) s

/-- FEED_REVERSE_CURRENT (R553). Reverse current turns the ORing FET off within 2 µs and raises FS196 or FS197. Operands: feed. -/
def execFeedReverseCurrent (x : Fin 2) (s : State) : Host.Outcome State Fault Refusal := compCmd (feedReverse x) s

/-- FEED_REVERSE_RECOVER (R553). VIN above VFEED by 50 mV for 10 µs turns the ORing FET on again. Operands: feed. -/
def execFeedReverseRecover (x : Fin 2) (s : State) : Host.Outcome State Fault Refusal := compCmd (feedReverseEnd x) s

/-- FEED_IMBALANCE (R554). A share outside 45–55 % for 10 ms sets IMBAL and raises FS198. Operands: share of feed A in %. -/
def execFeedImbalance (share : Nat) (s : State) : Host.Outcome State Fault Refusal := compCmd (feedImbalance share) s

/-- INFAIL_ENTER (R555). Both feeds below EWARN for 2 ticks begin input failing and raise FS199. -/
def execInfailEnter (s : State) : Host.Outcome State Fault Refusal := compCmd infailEnter s

/-- INFAIL_END (R555). A feed at or above EWARN for 1 ms ends input failing. -/
def execInfailEnd (s : State) : Host.Outcome State Fault Refusal := compCmd infailEnd s

/-- FEED_ENABLE (R556). A write of 1 to FEED_CTL.EN runs the feed check. Operands: feed. -/
def execFeedEnable (x : Fin 2) (s : State) : Host.Outcome State Fault Refusal :=
  hubCmd (atComp (fun s => feedCtlWrite x (crd s (feedReg x 0) ||| 1#32) s)) s

/-- FEED_DISABLE (R556). A write of 0 to FEED_CTL.EN turns the feed off, or is ignored while the other feed is not GOOD. Operands:
feed. -/
def execFeedDisable (x : Fin 2) (s : State) : Host.Outcome State Fault Refusal :=
  hubCmd (atComp (fun s => feedCtlWrite x (crd s (feedReg x 0) &&& ~~~1#32) s)) s

/-- SLOT_ENABLE (R574). A write of 1 to SLOT_CTL.EN runs the slot check. Operands: slot. -/
def execSlotEnable (n : Fin 8) (s : State) : Host.Outcome State Fault Refusal := hubCmd (atComp (slotEnable n)) s

/-- SLOT_DISABLE (R557). A write of 0 to SLOT_CTL.EN turns the gate off and deasserts SLOT_PG in the same tick. Operands: slot. -/
def execSlotDisable (n : Fin 8) (s : State) : Host.Outcome State Fault Refusal := hubCmd (atComp (slotDisable n)) s

/-- SLOT_ON_WRITE (R557). A write of ON = 1 moves an enabled slot from OFF to WAIT. Operands: slot. -/
def execSlotOnWrite (n : Fin 8) (s : State) : Host.Outcome State Fault Refusal := hubCmd (atComp (slotOnWrite n)) s

/-- SLOT_OFF_WRITE (R564). A write of ON = 0 turns a ramping slot off at once, or takes an ON slot to WARNOFF. Operands: slot. -/
def execSlotOffWrite (n : Fin 8) (s : State) : Host.Outcome State Fault Refusal :=
  hubCmd (atComp (fun s => if slotOn n s then slotOffWrite n s else s)) s

/-- SLOT_CTL_RETRY (R567). A write of 1 to SLOT_CTL.RETRY takes a LATCHED slot to WAIT and clears RETRIES. Operands: slot. -/
def execSlotCtlRetry (n : Fin 8) (s : State) : Host.Outcome State Fault Refusal := hubCmd (atComp (slotRetry n)) s

/-- SLOT_INSERTION_DELAY_END (R557). INSDLY ms with the bus in window take the slot from WAIT to RAMP. Operands: slot. -/
def execSlotInsertionDelayEnd (n : Fin 8) (s : State) : Host.Outcome State Fault Refusal := compCmd (insertEnd n) s

/-- SLOT_FAST_TRIP (R565). A sense voltage at or above the fast-trip level pulls the gate down within 1 µs. Operands: slot. -/
def execSlotFastTrip (n : Fin 8) (s : State) : Host.Outcome State Fault Refusal := compCmd (fastTrip n) s

/-- SLOT_START_TIMER_EXPIRE (R566). START_TIMER expires in RAMP, which is a trip of cause 2. Operands: slot. -/
def execSlotStartTimerExpire (n : Fin 8) (s : State) : Host.Outcome State Fault Refusal := compCmd (startExpire n) s

/-- SLOT_FAULT_TIMER_EXPIRE (R562). FAULT_TIMER reaches its count of ticks in limit, so SLOT_PG deasserts and the gate turns off.
Operands: slot. -/
def execSlotFaultTimerExpire (n : Fin 8) (s : State) : Host.Outcome State Fault Refusal := compCmd (faultExpire n) s

/-- SLOT_COOLDOWN_END (R567). The cooldown of 10 × the on-time ends, RETRIES increments and RAMP starts. Operands: slot. -/
def execSlotCooldownEnd (n : Fin 8) (s : State) : Host.Outcome State Fault Refusal := compCmd (coolEnd n) s

/-- SLOT_LEAD_END (R564). SLOT_LEAD ms in WARNOFF end, and the gate turns off. Operands: slot. -/
def execSlotLeadEnd (n : Fin 8) (s : State) : Host.Outcome State Fault Refusal := compCmd (leadEnd n) s

/-- SLOT_WARN_RELEASE (R563). SLOT_WARN_N releases 1 ms after its last cause ends. Operands: slot. -/
def execSlotWarnRelease (n : Fin 8) (s : State) : Host.Outcome State Fault Refusal := compCmd (warnRelease n) s

/-- SLOT_PG_UNDERVOLTAGE (R562). VOUT below (PGTH − 5) % for 3 ticks deasserts SLOT_PG with the gate left on. Operands: slot. -/
def execSlotPgUndervoltage (n : Fin 8) (s : State) : Host.Outcome State Fault Refusal := compCmd (pgUnder n) s

/-- SLOT_RETRIES_CLEAR (R567). SLOT_PG held for 10 s clears RETRIES. Operands: slot. -/
def execSlotRetriesClear (n : Fin 8) (s : State) : Host.Outcome State Fault Refusal := compCmd (retriesClear n) s

/-- SLOT_BUS_OVERVOLTAGE (R560). A bus above PWR_BUSWIN.OV turns the slot gate off and returns the slot to WAIT. Operands: slot. -/
def execSlotBusOvervoltage (n : Fin 8) (s : State) : Host.Outcome State Fault Refusal := compCmd (busOver n) s

/-- COMPANION_THERMAL_SHUTDOWN (R577). At 160 °C the companion turns off every slot gate and raises FS218. Operands: temperature
in 1/16 °C. -/
def execCompanionThermalShutdown (t : Int) (s : State) : Host.Outcome State Fault Refusal := compCmd (thermalShut t) s

/-- COMPANION_THERMAL_RECOVER (R577). Below 140 °C the slots turned off by thermal shutdown enter WAIT. -/
def execCompanionThermalRecover (s : State) : Host.Outcome State Fault Refusal := compCmd thermalEnd s

/-- COMPANION_TEMP_WARNING (R576). The companion temperature rises above 140 °C and raises FS217. Operands: temperature in 1/16
°C. -/
def execCompanionTempWarning (t : Int) (s : State) : Host.Outcome State Fault Refusal := compCmd (tempWarn t) s

/-- NV_INHIBIT_ENTER (R570). VCORE low, V3P3 low or FEEDLOW inhibits MRAM writes and raises FS220. Operands: bit 0 VCORE, bit 1
V3P3, bit 2 FEEDLOW. -/
def execNvInhibitEnter (causes : Fin 8) (s : State) : Host.Outcome State Fault Refusal := coreCmd (nvEnter causes) s

/-- NV_INHIBIT_END (R570). All inhibit causes clear for 10 ms, and MRAM writes become possible again. -/
def execNvInhibitEnd (s : State) : Host.Outcome State Fault Refusal := coreCmd nvEnd s

/-- CSEQ_OUTPUT_ASSERT (R571). DELAY ms after the previous input is good, the next carrier sequencing output is asserted. -/
def execCseqOutputAssert (s : State) : Host.Outcome State Fault Refusal := compCmd seqAssert s

/-- CSEQ_TIMEOUT (R571). An input not good within TIMEOUT ms deasserts the outputs in reverse order and raises FS216. -/
def execCseqTimeout (s : State) : Host.Outcome State Fault Refusal := compCmd seqTimeout s

/-- CSEQ_RETRY (R571). 1 s after a sequence failure, the companion tries the sequence again. -/
def execCseqRetry (s : State) : Host.Outcome State Fault Refusal := compCmd seqRetry s

/-- CSEQ_SHUTDOWN (R571). Both feeds below UV for 1 ms deassert the outputs in reverse order. -/
def execCseqShutdown (s : State) : Host.Outcome State Fault Refusal := compCmd seqShut s

/-- CSEQ_PG_FALL (R571). An input that falls after the sequence has completed raises FS216 and changes no output. Operands:
sequencing input. -/
def execCseqPgFall (k : Fin 4) (s : State) : Host.Outcome State Fault Refusal := compCmd (seqPgFall k) s

/-- PWR_STBY_SET_HI_WRITE (R572). A write of PWR_STBY_SET_HI loads the standby counter and sets VALID. -/
def execPwrStbySetHiWrite (v : Word) (s : State) : Host.Outcome State Fault Refusal := hubCmd (stbySetHi v) s

/-- PWR_STBY_CNT_LO_READ (R572). A read of PWR_STBY_CNT_LO captures the upper 16 bits for PWR_STBY_CNT_HI. -/
def execPwrStbyCntLoRead (s : State) : Host.Outcome State Fault Refusal := hubCmd (fun s => (stbyReadLo s).2) s

/-- LOAD_SHED (R573). With one feed GOOD and the load above LIMIT for 10 ms, pair M turns off the highest sheddable slot. -/
def execLoadShed (s : State) : Host.Outcome State Fault Refusal := hubCmd loadShed s

/-- FEED_STATUS (R575). The Kilco command FEED_STATUS returns the power, feed and slot status. Operands: mailbox `m`. -/
def execFeedStatus (m : Fin 16) (s : State) : Host.Outcome State Fault Refusal := kcCmd m 0x0601 (fun _ => kcFeedStatus m) s

/-- SLOT_ON (R575). The Kilco command SLOT_ON sets ON for the masked slots. Operands: mailbox `m`. -/
def execSlotOn (m : Fin 16) (s : State) : Host.Outcome State Fault Refusal := kcCmd m 0x0602 (fun raw => kcSlotCmd m 2 raw) s

/-- SLOT_OFF (R575). The Kilco command SLOT_OFF clears ON for the masked slots, with or without the warning lead. Operands:
mailbox `m`. -/
def execSlotOff (m : Fin 16) (s : State) : Host.Outcome State Fault Refusal := kcCmd m 0x0603 (fun raw => kcSlotCmd m 3 raw) s

/-- SLOT_RETRY (R575). The Kilco command SLOT_RETRY takes the masked LATCHED slots out of LATCHED. Operands: mailbox `m`. -/
def execSlotRetry (m : Fin 16) (s : State) : Host.Outcome State Fault Refusal := kcCmd m 0x0604 (fun raw => kcSlotCmd m 4 raw) s

/-- COMPANION_RESET_END (R571). VFEED rises through the companion's good level, so the companion leaves its power-on reset: CPRST
clears, its registers hold their reset values, and carrier sequencing begins once a feed is GOOD. -/
def execCompanionResetEnd (s : State) : Host.Outcome State Fault Refusal := done compResetEnd s

end Sys2Proof.Machine
end

