-- ==== Sys2Proof/Machine/QuillCmds.lean ====
section
/-! DEFINITION. Meanings of the commands of the quills. -/
namespace Sys2Proof.Machine
open Sys2Proof

/-- QL_ENABLE (R306). A write of 1 to QL_CTL.EN runs the quill check and starts the chosen bank at step 0. -/
def execQlEnable (q : Fin 64) (s : State) : Host.Outcome State Fault Refusal :=
  hubCmd (fun s => qlCtlWrite q (withBit (qlReg q 0) 0 s) ⟨false, 0, []⟩ s) s

/-- QL_DISABLE (R308). A write of 0 to QL_CTL.EN is a unit reset that releases the pins and returns or truncates bound items.
Operands: how far the current step has come. -/
def execQlDisable (q : Fin 64) (c : QlCut) (s : State) : Host.Outcome State Fault Refusal :=
  hubCmd (fun s => qlCtlWrite q (sansBit (qlReg q 0) 0 s) c s) s

/-- QL_CTL_SWAP (R303). A write of 1 to QL_CTL.SWAP requests a bank swap and sets SWPEND. -/
def execQlCtlSwap (q : Fin 64) (s : State) : Host.Outcome State Fault Refusal :=
  hubCmd (fun s => qlCtlWrite q (withBit (qlReg q 0) 4 s) ⟨false, 0, []⟩ s) s

/-- QL_SWAP_TAKE_EFFECT (R303). At the first swap point, the other bank becomes active and runs from step 0. -/
def execQlSwapTakeEffect (q : Fin 64) (s : State) : Host.Outcome State Fault Refusal := hubCmd (qlSwapEffect q) s

/-- QL_CTL_FORCE (R304). A write of 1 to QL_CTL.FORCE makes the swap take effect at once. Operands: how far the current
step has come. -/
def execQlCtlForce (q : Fin 64) (c : QlCut) (s : State) : Host.Outcome State Fault Refusal :=
  hubCmd (fun s => qlCtlWrite q (withBit (qlReg q 0) 5 s) c s) s

/-- QL_CTL_SWCAN (R305). A write of 1 to QL_CTL.SWCAN withdraws a pending swap. -/
def execQlCtlSwcan (q : Fin 64) (s : State) : Host.Outcome State Fault Refusal :=
  hubCmd (fun s => qlCtlWrite q (withBit (qlReg q 0) 7 s) ⟨false, 0, []⟩ s) s

/-- QL_CTL_MARK (R294). A write of 1 to QL_CTL.MARK sets the mark latch. -/
def execQlCtlMark (q : Fin 64) (s : State) : Host.Outcome State Fault Refusal :=
  hubCmd (fun s => qlCtlWrite q (withBit (qlReg q 0) 6 s) ⟨false, 0, []⟩ s) s

/-- QL_TX_WRITE (R295). A write of QL_TX appends a TX word, or is refused BUSY at a full FIFO. Operands: requester `o` writes word
`v`. -/
def execQlTxWrite (o : Origin) (q : Fin 64) (v : Word) (s : State) : Host.Outcome State Fault Refusal :=
  coreCmd (serve o ⟨.wrN, qlReg q 0x40, 4, wordBytes v⟩) s

/-- QL_RXD_READ (R296). A read of QL_RXD returns and removes the head RX word as a commit-on-delivery read. Operands: requester
`o`. -/
def execQlRxdRead (o : Origin) (q : Fin 64) (s : State) : Host.Outcome State Fault Refusal :=
  coreCmd (serve o ⟨.rd, qlReg q 0x44, 4, []⟩) s

/-- QL_QUEUE_TX_FETCH (R298). With TXEN = 1, a closed item of TXQ is read into the TX FIFO as words. -/
def execQlQueueTxFetch (q : Fin 64) (s : State) : Host.Outcome State Fault Refusal := hubCmd (qlFetch q) s

/-- NOP (R287). The quill step NOP performs no action for its hold time. Operands: `lvl`: level of the pin a condition tests. -/
def execNop (q : Fin 64) (lvl : Bool) (s : State) : Host.Outcome State Fault Refusal := hubCmd (qlRun q 0 lvl []) s

/-- SHOUT (R291). The quill step SHOUT shifts N+1 bits out on a window pin in bit slots. Operands: `lvl`: level of the pin a
condition tests. -/
def execShout (q : Fin 64) (lvl : Bool) (s : State) : Host.Outcome State Fault Refusal := hubCmd (qlRun q 1 lvl []) s

/-- SHIN (R291). The quill step SHIN shifts N+1 bits in from a window pin. Operands: `lvl` as in NOP; the samples of the bit
slots. -/
def execShin (q : Fin 64) (lvl : Bool) (smp : List Bool) (s : State) : Host.Outcome State Fault Refusal :=
  hubCmd (qlRun q 2 lvl smp) s

/-- SHXC (R291). The quill step SHXC shifts bits out on one pin and in from the next in the same slots. Operands: `lvl` as in NOP;
the samples of the bit slots. -/
def execShxc (q : Fin 64) (lvl : Bool) (smp : List Bool) (s : State) : Host.Outcome State Fault Refusal :=
  hubCmd (qlRun q 3 lvl smp) s

/-- CONST (R287). The quill step CONST loads the shifter from the constant table. Operands: `lvl`: level of the pin a condition
tests. -/
def execConst (q : Fin 64) (lvl : Bool) (s : State) : Host.Outcome State Fault Refusal := hubCmd (qlRun q 4 lvl []) s

/-- LOAD (R287). The quill step LOAD takes the head TX word into the shifter, stalling while the TX FIFO is empty. Operands:
`lvl`: level of the pin a condition tests. -/
def execLoad (q : Fin 64) (lvl : Bool) (s : State) : Host.Outcome State Fault Refusal := hubCmd (qlRun q 5 lvl []) s

/-- STORE (R287). The quill step STORE moves the shifter to the RX FIFO and may close the bound RX item. Operands: `lvl`: level of
the pin a condition tests. -/
def execStore (q : Fin 64) (lvl : Bool) (s : State) : Host.Outcome State Fault Refusal := hubCmd (qlRun q 6 lvl []) s

/-- TALLY (R293). The quill step TALLY loads the tally counter from the constant table. Operands: `lvl`: level of the pin a
condition tests. -/
def execTally (q : Fin 64) (lvl : Bool) (s : State) : Host.Outcome State Fault Refusal := hubCmd (qlRun q 7 lvl []) s

/-- DIR (R287). The quill step DIR sets the output enable of a window pin. Operands: `lvl`: level of the pin a condition tests. -/
def execDir (q : Fin 64) (lvl : Bool) (s : State) : Host.Outcome State Fault Refusal := hubCmd (qlRun q 8 lvl []) s

/-- IDLE (R284). The quill step IDLE sets the window pins to the idle pattern. Operands: `lvl`: level of the pin a condition
tests. -/
def execIdle (q : Fin 64) (lvl : Bool) (s : State) : Host.Outcome State Fault Refusal := hubCmd (qlRun q 9 lvl []) s

/-- QL_ILLEGAL_STEP (R310). Reaching a step with a reserved ACT or COND halts the quill and raises FS131. -/
def execQlIllegalStep (q : Fin 64) (s : State) : Host.Outcome State Fault Refusal := hubCmd (qlIllegal q) s

/-- QL_RESTART (R309). When RUN returns to 1 or safe state ends, the quill restarts at step 0 of its active bank. -/
def execQlRestart (q : Fin 64) (s : State) : Host.Outcome State Fault Refusal := hubCmd (qlRestart q) s

/-- QL_LOAD (R311). The Kilco command QL_LOAD writes program steps into an inactive bank. Operands: mailbox `m`. -/
def execQlLoad (m : Fin 16) (s : State) : Host.Outcome State Fault Refusal := kcCmd m 0x0801 (fun raw => kcQlLoad m raw) s

/-- QL_SWAP (R312). The Kilco command QL_SWAP requests or forces a bank swap, optionally checking the inactive bank first.
Operands: mailbox `m`; how far the quill's current step has come. -/
def execQlSwap (m : Fin 16) (c : QlCut) (s : State) : Host.Outcome State Fault Refusal :=
  kcCmd m 0x0802 (fun raw => kcQlSwap m c raw) s

end Sys2Proof.Machine
end

