-- ==== Sys2Proof/Machine/RingCmds.lean ====
section
/-! DEFINITION. Meanings of the commands of the Makadom ring. -/
namespace Sys2Proof.Machine
open Sys2Proof

/-- FRAME_HEADER_ARRIVAL (R103). After the first two blocks of a non-link-local frame, the hub discards, strips, delivers or
forwards it. Operands: frame `f` begins on lane `l`. -/
def execFrameHeaderArrival (l : Fin 2) (f : Frame) (s : State) : Host.Outcome State Fault Refusal :=
  coreCmd (fun s => if isLinkLocal f then linkLocal l f s else headerArrival l f s) s

/-- FRAME_END (R89). At the end of a frame, CRC and length are checked, a length mismatch complements the outgoing CRC, and the
frame's credits return. Operands: lane, blocks received, type of the last one. -/
def execFrameEnd (l : Fin 2) (blocks : Nat) (term : Fin 256) (s : State) : Host.Outcome State Fault Refusal :=
  coreCmd (frameEnd l blocks term) s

/-- LANE_ARBITRATE (R94). At each frame boundary, the outbound lane chooses the next frame by class, share counter and bubble
rule. Operands: `res`: residence of a forwarded SYNC in 2^-16 ns. -/
def execLaneArbitrate (l : Fin 2) (res : Nat) (s : State) : Host.Outcome State Fault Refusal := coreCmd (arbitrate l res) s

/-- STALE_REMOVAL (R99). A copy that has not started 4 µs after arrival or SEQ assignment is removed and raises FS44. Operands:
the copy `id` waiting at lane `l`. -/
def execStaleRemoval (l : Fin 2) (id : Nat) (s : State) : Host.Outcome State Fault Refusal := coreCmd (staleRemove l id) s

/-- CREDIT_UPDATE (R92). A received link-local credit update sets the credits held per class from running totals. -/
def execCreditUpdate (l : Fin 2) (f : Frame) (s : State) : Host.Outcome State Fault Refusal := coreCmd (creditUpdate l f) s

/-- CREDIT_UPDATE_SEND (R92). A credit update is sent at 10 returned units, 1 µs after the oldest unreported return, or every 100
µs. -/
def execCreditUpdateSend (l : Fin 2) (s : State) : Host.Outcome State Fault Refusal := coreCmd (sendUpdate l) s

/-- CREDIT_AUDIT (R93). A received credit audit is compared with the hub's own totals. -/
def execCreditAudit (l : Fin 2) (f : Frame) (s : State) : Host.Outcome State Fault Refusal := coreCmd (creditAudit l f) s

/-- CREDIT_AUDIT_SEND (R93). Each link end sends a credit audit every 1 ms and latches its frames-sent totals. -/
def execCreditAuditSend (l : Fin 2) (s : State) : Host.Outcome State Fault Refusal := coreCmd (sendAudit l) s

/-- WINDOW_ENTRY_EXPIRE (R98). A window entry returns to empty after 2 ms without a judged copy from its source. -/
def execWindowEntryExpire (src : Fin 256) (s : State) : Host.Outcome State Fault Refusal := hubCmd (winExpire src) s

/-- WINDOW_MEMORY_ERROR (R114). On FS45, the affected window entries are emptied and their sources' frames are discarded for 2 ms.
Operands: the sources affected. -/
def execWindowMemoryError (srcs : List Nat) (s : State) : Host.Outcome State Fault Refusal := hubCmd (winError srcs) s

/-- WINDOW_DISCARD_END (R114). The 2 ms discard period after FS45 ends, and frames from the affected sources are accepted again. -/
def execWindowDiscardEnd (src : Fin 256) (s : State) : Host.Outcome State Fault Refusal := hubCmd (winDiscardEnd src) s

/-- MSG_FRAME (R100). A MSG frame delivered to this node reserves or refuses its item, or is written at its OFFSET. Operands: a
good frame delivered on ring `r`, 0 A, 1 B. -/
def execMsgFrame (r : Fin 2) (f : Frame) (s : State) : Host.Outcome State Fault Refusal := hubCmd (msgFrame r f) s

/-- INCOMING_ITEM_ABANDON (R170). An incoming item with no frame for 1.1 ms is freed and counted. Operands: the item of a source
and tag. -/
def execIncomingItemAbandon (src : Fin 256) (tag : Fin 1024) (s : State) : Host.Outcome State Fault Refusal :=
  hubCmd (incAbandon src tag) s

/-- MSG_OFFER (R134). The queue manager offers a closed head item to a remote subscriber once the previous item has its OK
completion. -/
def execMsgOffer (q : Fin 1024) (s : State) : Host.Outcome State Fault Refusal := hubCmd (msgOffer q) s

/-- MSG_REOFFER (R101). An item answered BUSY, timed out or answered otherwise is offered again after its wait, with the same tag.
Operands: the item of tag `t`. -/
def execMsgReoffer (t : Fin 1024) (s : State) : Host.Outcome State Fault Refusal := hubCmd (msgReoffer t) s

/-- PRESENCE_SEND (R106). Every 1 ms the hub sends a presence frame on both rings. -/
def execPresenceSend (s : State) : Host.Outcome State Fault Refusal := hubCmd presenceSend s

/-- PRESENCE_FRAME (R106). A received presence frame updates RING_SEEN, and its own returning frame updates the ring closure.
Operands: a good frame that arrived on ring `r`. -/
def execPresenceFrame (r : Fin 2) (f : Frame) (s : State) : Host.Outcome State Fault Refusal := hubCmd (presenceArrives r f) s

/-- RING_SEEN_TIMEOUT (R106). A node not seen on a ring for 3 ms is cleared in RING_SEEN, and notice 0x22 follows. Operands: node
`n`, ring `r`. -/
def execRingSeenTimeout (n : Fin 256) (r : Fin 2) (s : State) : Host.Outcome State Fault Refusal :=
  hubCmd (seenChange n r false) s

/-- RING_CLOSURE_LOSS (R106). The own presence frame has not returned on a ring for 3 ms, so CLOSED clears, OPEN is set and FS41
or FS42 is raised. -/
def execRingClosureLoss (r : Fin 2) (s : State) : Host.Outcome State Fault Refusal := hubCmd (closedChange r false) s

end Sys2Proof.Machine
end

