-- ==== Sys2Proof/Machine/RoleCmds.lean ====
section
/-! DEFINITION. Meanings of the commands of ring roles and leases. -/
namespace Sys2Proof.Machine
open Sys2Proof

/-- HEARTBEAT_SEND (R467). The active holder of a role sends a heartbeat every 100 µs while its authority lease runs. Operands:
role 0 ring manager, 1 time master. -/
def execHeartbeatSend (r : Fin 2) (s : State) : Host.Outcome State Fault Refusal := hubCmd (heartbeatSend r) s

/-- HEARTBEAT (R471). A received heartbeat is accepted from the adopted holder or a newer epoch, and witness or standby answer
with AUTH_ACK. Operands: a good frame delivered on ring `r`. -/
def execHeartbeat (r : Fin 2) (f : Frame) (s : State) : Host.Outcome State Fault Refusal := hubCmd (heartbeat r f) s

/-- AUTH_ACK (R467). An AUTH_ACK extends the holder's authority lease to 2 ms after the acknowledged heartbeat. Operands: a good
frame delivered on ring `r`. -/
def execAuthAck (r : Fin 2) (f : Frame) (s : State) : Host.Outcome State Fault Refusal := hubCmd (authAck r f) s

/-- AUTHORITY_LEASE_EXPIRE (R467). The holder's authority lease expires, so it stops the role, enters LAPSED and raises FS243.
Operands: role. -/
def execAuthorityLeaseExpire (r : Fin 2) (s : State) : Host.Outcome State Fault Refusal := hubCmd (authExpire r) s

/-- LAPSED_END (R467). 1 ms after LAPSED, the former holder enters IDLE. Operands: role. -/
def execLapsedEnd (r : Fin 2) (s : State) : Host.Outcome State Fault Refusal := hubCmd (lapsedEnd r) s

/-- HEARTBEAT_SILENCE (R468). The synced standby hears no heartbeat for MISS × 100 µs and sends TAKE_REQ. Operands: role. -/
def execHeartbeatSilence (r : Fin 2) (s : State) : Host.Outcome State Fault Refusal := hubCmd (heartbeatSilence r) s

/-- TAKE_REQ (R468). The witness grants or refuses a takeover request by its rules. Operands: a good frame delivered on ring `r`. -/
def execTakeReq (r : Fin 2) (f : Frame) (s : State) : Host.Outcome State Fault Refusal := hubCmd (takeReq r f) s

/-- TAKE_ANS (R468). A granted requester enters ACTIVE, sends a heartbeat and appoints a standby. Operands: a good frame delivered
on ring `r`. -/
def execTakeAns (r : Fin 2) (f : Frame) (s : State) : Host.Outcome State Fault Refusal := hubCmd (takeAns r f) s

/-- NO_HOLDER_TIMEOUT (R469). With no holder heard for 20 ms, a manager-capable node requests the role. Operands: role. -/
def execNoHolderTimeout (r : Fin 2) (s : State) : Host.Outcome State Fault Refusal := hubCmd (noHolder r) s

/-- WITNESS_HOST_TIMEOUT (R469). With WHOST = 1, no host GRANT within 20 ms refuses the request. Operands: role. -/
def execWitnessHostTimeout (r : Fin 2) (s : State) : Host.Outcome State Fault Refusal := hubCmd (hostTimeout r) s

/-- APPOINT (R466). A node appointed standby enters SYNCING. Operands: a good frame delivered on ring `r`. -/
def execAppoint (r : Fin 2) (f : Frame) (s : State) : Host.Outcome State Fault Refusal := hubCmd (appoint r f) s

/-- TABLE (R466). A TABLE segment updates the standby's replicated table, or acknowledges it to the holder. Operands: a good frame
delivered on ring `r`. -/
def execTable (r : Fin 2) (f : Frame) (s : State) : Host.Outcome State Fault Refusal := hubCmd (table r f) s

/-- STANDBY_PASS_OVER (R466). An appointed node that has not acknowledged the table within 10 ms is passed over. Operands: role. -/
def execStandbyPassOver (r : Fin 2) (s : State) : Host.Outcome State Fault Refusal := hubCmd (passOver r) s

/-- STANDBY_ACK_TIMEOUT (R473). The standby does not acknowledge an ink lock entry within 200 µs, so the holder marks the place
vacant. -/
def execStandbyAckTimeout (s : State) : Host.Outcome State Fault Refusal := hubCmd standbyAckTimeout s

/-- SWAP_REQ (R474). The standby receives SWAP_REQ and sends TAKE_REQ with SWAP = 1. Operands: a good frame delivered on ring `r`. -/
def execSwapReq (r : Fin 2) (f : Frame) (s : State) : Host.Outcome State Fault Refusal := hubCmd (swapReq r f) s

/-- ROLE_SWAP_TIMEOUT (R474). No new epoch 10 ms into a ROLE_SWAP, so the holder keeps the role and raises FS245. Operands: role. -/
def execRoleSwapTimeout (r : Fin 2) (s : State) : Host.Outcome State Fault Refusal := hubCmd (swapTimeout r) s

/-- CENSUS_RPT_SEND (R476). Every node sends a CENSUS_RPT every 10 ms and within 1 ms of a ring status change. -/
def execCensusRptSend (s : State) : Host.Outcome State Fault Refusal := hubCmd censusSend s

/-- CENSUS_RPT (R476). The ring managers update the census from a received report. Operands: a good frame delivered on ring `r`. -/
def execCensusRpt (r : Fin 2) (f : Frame) (s : State) : Host.Outcome State Fault Refusal := hubCmd (censusRpt r f) s

/-- NODE_ABSENT (R476). A node with no report for 30 ms becomes absent in the census. -/
def execNodeAbsent (n : Fin 256) (s : State) : Host.Outcome State Fault Refusal := hubCmd (nodeAbsent n) s

/-- SIZE_SET_SEND (R477). The active ring manager sends SIZE_SET every 10 ms. -/
def execSizeSetSend (s : State) : Host.Outcome State Fault Refusal := hubCmd sizeSetSend s

/-- SIZE_SET (R477). A received SIZE_SET writes RING_CFG.SIZE. Operands: a good frame delivered on ring `r`. -/
def execSizeSet (r : Fin 2) (f : Frame) (s : State) : Host.Outcome State Fault Refusal := hubCmd (sizeSet r f) s

/-- LEASE_OP_ACQUIRE (R480). At the arbiter, an ACQUIRE is granted, treated as a renew, or denied. Operands: a good frame
delivered on ring `r`. -/
def execLeaseOpAcquire (r : Fin 2) (f : Frame) (s : State) : Host.Outcome State Fault Refusal := hubCmd (leaseOp 1 r f) s

/-- LEASE_OP_RENEW (R480). At the arbiter, a RENEW from the holder extends the expiry. Operands: a good frame delivered on ring
`r`. -/
def execLeaseOpRenew (r : Fin 2) (f : Frame) (s : State) : Host.Outcome State Fault Refusal := hubCmd (leaseOp 2 r f) s

/-- LEASE_OP_RELEASE (R480). At the arbiter, a RELEASE from the holder frees the resource. Operands: a good frame delivered on
ring `r`. -/
def execLeaseOpRelease (r : Fin 2) (f : Frame) (s : State) : Host.Outcome State Fault Refusal := hubCmd (leaseOp 3 r f) s

/-- LEASE_OP_GRANT (R481). At the requester's hub, a GRANT answer completes the lease command. Operands: a good frame delivered on
ring `r`. -/
def execLeaseOpGrant (r : Fin 2) (f : Frame) (s : State) : Host.Outcome State Fault Refusal := hubCmd (leaseOp 4 r f) s

/-- LEASE_OP_REFUSE (R481). At the requester's hub, a REFUSE answer completes the lease command with its reason. Operands: a good
frame delivered on ring `r`. -/
def execLeaseOpRefuse (r : Fin 2) (f : Frame) (s : State) : Host.Outcome State Fault Refusal := hubCmd (leaseOp 5 r f) s

/-- LEASE_EXPIRE (R481). A lease expires at the arbiter, which frees the resource and counts it. Operands: the resource. -/
def execLeaseExpire (res : Word) (s : State) : Host.Outcome State Fault Refusal := hubCmd (leaseExpire res) s

/-- LEASE_REQUEST_REPEAT (R481). An unanswered LEASE request is repeated every 200 µs. Operands: the session that waits. -/
def execLeaseRequestRepeat (m : Fin 16) (s : State) : Host.Outcome State Fault Refusal := hubCmd (leaseRepeat m) s

/-- LEASE_ANSWER_TIMEOUT (R481). No answer after 2 ms refuses the lease command with 0x96. Operands: the session that waits. -/
def execLeaseAnswerTimeout (m : Fin 16) (s : State) : Host.Outcome State Fault Refusal := hubCmd (leaseTimeout m) s

/-- ROLE_SET_CONFIG (R491). The Kilco command ROLE_SET with OP CONFIG writes HUB_ROLE_CFG after its checks. Operands: mailbox `m`. -/
def execRoleSetConfig (m : Fin 16) (s : State) : Host.Outcome State Fault Refusal :=
  kcCmd m 0x0501 (fun raw => roleSetConfig m raw) s

/-- ROLE_SET_GRANT (R469). The Kilco command ROLE_SET with OP GRANT lets the witness grant the waiting request. Operands: mailbox
`m`. -/
def execRoleSetGrant (m : Fin 16) (s : State) : Host.Outcome State Fault Refusal :=
  kcCmd m 0x0501 (fun raw => roleSetHost m 2 raw) s

/-- ROLE_SET_DENY (R469). The Kilco command ROLE_SET with OP DENY refuses the waiting request. Operands: mailbox `m`. -/
def execRoleSetDeny (m : Fin 16) (s : State) : Host.Outcome State Fault Refusal :=
  kcCmd m 0x0501 (fun raw => roleSetHost m 3 raw) s

/-- ROLE_SWAP (R474). The Kilco command ROLE_SWAP hands a role to the synced standby as a job. Operands: mailbox `m`. -/
def execRoleSwap (m : Fin 16) (s : State) : Host.Outcome State Fault Refusal :=
  kcCmd m 0x0502 (fun raw => kcRoleSwapFirst m raw) s

/-- LEASE_ACQUIRE (R487). The Kilco command LEASE_ACQUIRE asks the arbiter for a lease and waits for the answer. Operands: mailbox
`m`. -/
def execLeaseAcquire (m : Fin 16) (s : State) : Host.Outcome State Fault Refusal := kcCmd m 0x0503 (fun raw => kcLease m 1 raw) s

/-- LEASE_RENEW (R487). The Kilco command LEASE_RENEW extends a held lease. Operands: mailbox `m`. -/
def execLeaseRenew (m : Fin 16) (s : State) : Host.Outcome State Fault Refusal := kcCmd m 0x0504 (fun raw => kcLease m 2 raw) s

/-- LEASE_RELEASE (R487). The Kilco command LEASE_RELEASE gives up a held lease. Operands: mailbox `m`. -/
def execLeaseRelease (m : Fin 16) (s : State) : Host.Outcome State Fault Refusal := kcCmd m 0x0505 (fun raw => kcLease m 3 raw) s

/-- CENSUS_READ (R487). The Kilco command CENSUS_READ returns census entries for up to 250 nodes. Operands: mailbox `m`. -/
def execCensusRead (m : Fin 16) (s : State) : Host.Outcome State Fault Refusal := kcCmd m 0x0506 (fun raw => kcCensusRead m raw) s

end Sys2Proof.Machine
end

