-- ==== Sys2Proof/Machine/TimeCmds.lean ====
section
/-! DEFINITION. Meanings of the commands of the time bases. -/
namespace Sys2Proof.Machine
open Sys2Proof

/-- TB_STEP_APPLY (R403). A write of TB_STEP_HIn adds to or loads the time base in one TIME clock. Operands: the word written to
TB_STEP_HI. -/
def execTbStepApply (n : Fin 4) (v : Word) (s : State) : Host.Outcome State Fault Refusal := hubCmd (tbStepWrite n v) s

/-- TB_RATE_WRITE (R401). A write of TB_RATEn sets the base rate from the next TIME clock, or is refused. -/
def execTbRateWrite (n : Fin 4) (v : Word) (s : State) : Host.Outcome State Fault Refusal := hubCmd (tbRateWrite n v) s

/-- TB_BCTL_WRITE (R404). A change of SLAVE in TB_BCTLn slaves or frees a base in one TIME clock. -/
def execTbBctlWrite (n : Fin 4) (v : Word) (s : State) : Host.Outcome State Fault Refusal := hubCmd (tbBctlWrite n v) s

/-- TB_LO_READ (R402). A read of TB_LOn captures the whole base value for TB_HIn. -/
def execTbLoRead (n : Fin 4) (s : State) : Host.Outcome State Fault Refusal := hubCmd (tbLoRead n) s

/-- TB_ENABLE (R424). A write of 1 to TB_CTL.EN runs the time check and enters WAIT unless the node is MASTER. -/
def execTbEnable (s : State) : Host.Outcome State Fault Refusal := hubCmd (fun s => tbCtlWrite (withBit tbCtl 0 s) s) s

/-- TB_DISABLE (R414). A write of 0 to TB_CTL.EN enters FREE in any state other than MASTER. -/
def execTbDisable (s : State) : Host.Outcome State Fault Refusal := hubCmd (fun s => tbCtlWrite (sansBit tbCtl 0 s) s) s

/-- SYNC_SEND (R409). The time master sends a SYNC frame every TB_SYNC_PER µs. -/
def execSyncSend (s : State) : Host.Outcome State Fault Refusal := hubCmd (fun s => syncSend (rd s (roleEpoch 1)) s) s

/-- SYNC_FRAME (R411). A received SYNC copy is adopted, used or ignored by epoch and master. Operands: a good copy on ring `r`;
TB0 at its start block. -/
def execSyncFrame (r : Fin 2) (f : Frame) (stamp : DWord) (s : State) : Host.Outcome State Fault Refusal :=
  hubCmd (syncArrives r f stamp) s

/-- SYNC_PAIR_TIMEOUT (R413). The second copy of a SYNC has not arrived within 64 µs, so the offset is formed from one copy.
Operands: SYNCNO of the copy that came. -/
def execSyncPairTimeout (no : Nat) (s : State) : Host.Outcome State Fault Refusal := hubCmd (syncAlone no) s

/-- HOLDOVER_TIMEOUT (R414). No rate update for TB_HOLD_TO ms enters HOLDOVER and raises FS178. -/
def execHoldoverTimeout (s : State) : Host.Outcome State Fault Refusal := hubCmd holdoverTimeout s

/-- STBY_COUNTER_REFRESH (R420). Pair M writes TB0 into the standby counter every 60 s and at each entry to FEEDLOW. -/
def execStbyCounterRefresh (s : State) : Host.Outcome State Fault Refusal := hubCmd stbyRefresh s

/-- TIME_GET (R423). The Kilco command TIME_GET returns a base, TB_STATUS and TB_OFFSET. Operands: mailbox `m`. -/
def execTimeGet (m : Fin 16) (s : State) : Host.Outcome State Fault Refusal := kcCmd m 0x0401 (fun raw => kcTimeGet m raw) s

/-- TIME_STEP (R423). The Kilco command TIME_STEP steps or loads a base. Operands: mailbox `m`. -/
def execTimeStep (m : Fin 16) (s : State) : Host.Outcome State Fault Refusal := kcCmd m 0x0402 (fun raw => kcTimeStep m raw) s

/-- TIME_RESTEP_ALLOW (R418). The Kilco command TIME_RESTEP_ALLOW arms one step of TB0 in JUMP. Operands: mailbox `m`. -/
def execTimeRestepAllow (m : Fin 16) (s : State) : Host.Outcome State Fault Refusal :=
  kcCmd m 0x0403 (fun raw => kcRestepAllow m raw) s

/-- TB_CONFIG (R423). The Kilco command TB_CONFIG writes SLAVE, OFS or RATE of a base. Operands: mailbox `m`. -/
def execTbConfig (m : Fin 16) (s : State) : Host.Outcome State Fault Refusal := kcCmd m 0x0404 (fun raw => kcTbConfig m raw) s

end Sys2Proof.Machine
end

