-- ==== Sys2Proof/Machine/TxCmds.lean ====
section
/-! DEFINITION. Meanings of the commands of fabric transactions, PCIe and the SPI target. -/
namespace Sys2Proof.Machine
open Sys2Proof

/-- PCIE_MEM_READ (R154). A PCIe memory read is split into fabric accesses and answered access by access. Operands: what it addresses;
runs of enabled bytes: offset and count. -/
def execPcieMemRead (bar : Bar) (runs : List (Nat × Nat)) (s : State) : Host.Outcome State Fault Refusal :=
  hubCmd (pcieMem bar .rd (runs.map (fun r => (r.1, r.2, [])))) s

/-- PCIE_MEM_WRITE (R153). A PCIe memory write is split into fabric accesses of the largest legal sizes. Operands: what it addresses;
runs of enabled bytes: offset and data. -/
def execPcieMemWrite (bar : Bar) (runs : List (Nat × List Byte)) (s : State) : Host.Outcome State Fault Refusal :=
  hubCmd (pcieMem bar .wrP (runs.map (fun r => (r.1, r.2.length, r.2)))) s

/-- REQUEST_TAG_GRANT (R132). A request waiting for a tag or completion cells is issued once they become free. Operands:
requester: 0 a control pair, 1 PCIe, 2 SPI, 3 the bridge. -/
def execRequestTagGrant (who : Fin 4) (s : State) : Host.Outcome State Fault Refusal := hubCmd (tagGrant who) s

/-- PCIE_COMPLETION_ACK (R148). The PCIe data link layer acknowledges a completion TLP, which commits a pending local value.
Operands: access `idx` of request `req`. -/
def execPcieCompletionAck (req : Nat) (idx : Nat) (s : State) : Host.Outcome State Fault Refusal :=
  hubCmd (commitOrg (.pcie req idx)) s

/-- PCIE_LINK_DOWN (R148). The PCIe link goes down before commit, and pending values return. -/
def execPcieLinkDown (s : State) : Host.Outcome State Fault Refusal := hubCmd pcieDown s

/-- SPI_WRITE (R156). An SPI WRITE frame issues its node-local writes as WR_N accesses when CS_N rises. Operands: node-local
offset, data and CRC-8 as received. -/
def execSpiWrite (off : Nat) (data : List Byte) (crc : Byte) (s : State) : Host.Outcome State Fault Refusal :=
  hubCmd (spiWrite 0x02 3 0 off off 64 data crc) s

/-- SPI_READ (R157). An SPI READ frame reads node-local registers and returns wait bytes, the marker, the status and the data.
Operands: node-local offset and count byte. -/
def execSpiRead (off : Nat) (words : Nat) (s : State) : Host.Outcome State Fault Refusal :=
  hubCmd (spiRead 0x0B 3 0 off off words) s

/-- SPI_FWRITE (R156). An SPI FWRITE frame writes at a fabric address. Operands: node, offset, data and CRC-8 as received. -/
def execSpiFwrite (node : Fin 256) (off : Nat) (data : List Byte) (crc : Byte) (s : State) : Host.Outcome State Fault Refusal :=
  hubCmd (spiWrite 0x12 8 node off (node * 2 ^ 56 + off) 62 data crc) s

/-- SPI_FREAD (R157). An SPI FREAD frame reads at a fabric address. Operands: node, offset and count byte. -/
def execSpiFread (node : Fin 256) (off : Nat) (words : Nat) (s : State) : Host.Outcome State Fault Refusal :=
  hubCmd (spiRead 0x1B 8 node off (node * 2 ^ 56 + off) words) s

/-- SPI_STATUS (R156). An SPI STATUS frame returns the outcome byte of the last write. -/
def execSpiStatus (s : State) : Host.Outcome State Fault Refusal := hubCmd spiStatusRead s

/-- MSPI_CS_RISE (R157). CS_N rises before the marker of a read, so the read is abandoned and its pending value returns. Operands:
wait bytes and bytes of the answer shifted out. -/
def execMspiCsRise (waits clocked : Nat) (s : State) : Host.Outcome State Fault Refusal :=
  hubCmd (spiCsRise waits clocked) s

/-- RD_REQUEST (R127). A target serves an arriving RD and answers with exactly one completion. Operands: a good frame delivered on
ring `r`. -/
def execRdRequest (r : Fin 2) (f : Frame) (s : State) : Host.Outcome State Fault Refusal := coreCmd (requestArrives 2 r f) s

/-- WR_N_REQUEST (R127). A target serves an arriving WR_N and answers with exactly one completion. Operands: a good frame
delivered on ring `r`. -/
def execWrNRequest (r : Fin 2) (f : Frame) (s : State) : Host.Outcome State Fault Refusal := coreCmd (requestArrives 1 r f) s

/-- WR_P_REQUEST (R141). A target drains an arriving WR_P through the posted sink and counts and records a refused effect.
Operands: a good frame delivered on ring `r`. -/
def execWrPRequest (r : Fin 2) (f : Frame) (s : State) : Host.Outcome State Fault Refusal := coreCmd (postedArrives r f) s

/-- COMPLETION (R127). A CPL or CPLD arriving at the requester is accepted for its outstanding tag, or discarded as late.
Operands: a good frame delivered on ring `r`. -/
def execCompletion (r : Fin 2) (f : Frame) (s : State) : Host.Outcome State Fault Refusal := hubCmd (completionArrives r f) s

/-- ACK_FRAME (R146). An ACK at the target commits the pending value, or is counted as late. Operands: a good frame delivered on
ring `r`. -/
def execAckFrame (r : Fin 2) (f : Frame) (s : State) : Host.Outcome State Fault Refusal := hubCmd (ackArrives r f) s

/-- COMMIT_WINDOW_EXPIRE (R145). The commit window ends without an ACK, so the value returns, and POPU is counted and recorded.
Operands: the read of node `src` under `tag`. -/
def execCommitWindowExpire (src : Fin 256) (tag : Fin 1024) (s : State) : Host.Outcome State Fault Refusal :=
  hubCmd (commitExpire src tag) s

/-- BUSY_RETRY (R142). A BUSY-completed PCIe or SPI request is retried 10 µs later with the same tag. Operands: the request is one to
the own node, which has no tag; the tag, or its place among the requests that wait here. -/
def execBusyRetry (own : Bool) (t : Fin 1024) (s : State) : Host.Outcome State Fault Refusal :=
  hubCmd (if own then ownRetry t else busyRetry t) s

/-- COMPLETION_TIMEOUT (R136). An RD or WR_N without a completion within HUB_TX_CTO completes FT, and its tag enters quarantine; one
that waits to be retried completes BUSY (R142). Operands as BUSY_RETRY. -/
def execCompletionTimeout (own : Bool) (t : Fin 1024) (s : State) : Host.Outcome State Fault Refusal :=
  hubCmd (if own then ownBusyEnd t else completionTimeout t) s

/-- TAG_QUARANTINE_END (R136). The 16 ms quarantine of a tag ends, and the tag may be reused. -/
def execTagQuarantineEnd (t : Fin 1024) (s : State) : Host.Outcome State Fault Refusal := hubCmd (tagQuarEnd t) s

end Sys2Proof.Machine
end

