-- ==== Sys2Proof/Machine/Dispatch.lean ====
section
/-! DEFINITION. Which meaning each command has. -/
namespace Sys2Proof.Machine
open Sys2Proof

/-- The effect of a command on everything but the queue. -/
def exec (i : Instr) (s : State) : Host.Outcome State Fault Refusal :=
  match i with
  | .registerWrite o off v => Sys2Proof.Machine.execRegisterWrite o off v s
  | .commitOnDeliveryRead o off count => Sys2Proof.Machine.execCommitOnDeliveryRead o off count s
  | .d2dStatusFrame => Sys2Proof.Machine.execD2dStatusFrame s
  | .companionWriteAck => Sys2Proof.Machine.execCompanionWriteAck s
  | .d2dLinkLost => Sys2Proof.Machine.execD2dLinkLost s
  | .logicPowerOnReset => Sys2Proof.Machine.execLogicPowerOnReset s
  | .lporRelease node boot test => Sys2Proof.Machine.execLporRelease node boot test s
  | .rstNAssert => Sys2Proof.Machine.execRstNAssert s
  | .rstNRelease node boot test => Sys2Proof.Machine.execRstNRelease node boot test s
  | .hubCtlSwrst => Sys2Proof.Machine.execHubCtlSwrst s
  | .hubCtlRun => Sys2Proof.Machine.execHubCtlRun s
  | .hubCtlRunClear => Sys2Proof.Machine.execHubCtlRunClear s
  | .hubCtlRcclr => Sys2Proof.Machine.execHubCtlRcclr s
  | .companionPowerOnReset => Sys2Proof.Machine.execCompanionPowerOnReset s
  | .stbyCounterInvalid osc => Sys2Proof.Machine.execStbyCounterInvalid osc s
  | .perstNAssert => Sys2Proof.Machine.execPerstNAssert s
  | .noticeCoalesceFlush n => Sys2Proof.Machine.execNoticeCoalesceFlush n s
  | .laneSignalDetect l => Sys2Proof.Machine.execLaneSignalDetect l s
  | .laneSignalLoss l sig => Sys2Proof.Machine.execLaneSignalLoss l sig s
  | .blockLockAcquire l hs => Sys2Proof.Machine.execBlockLockAcquire l hs s
  | .blockLockLoss l hs => Sys2Proof.Machine.execBlockLockLoss l hs s
  | .invalidSyncHeader l hi => Sys2Proof.Machine.execInvalidSyncHeader l hi s
  | .invalidBlock l blocks b => Sys2Proof.Machine.execInvalidBlock l blocks b s
  | .superframeLockAcquire l b c => Sys2Proof.Machine.execSuperframeLockAcquire l b c s
  | .superframeLockLoss l n => Sys2Proof.Machine.execSuperframeLockLoss l n s
  | .commaReceive l b gap blocks => Sys2Proof.Machine.execCommaReceive l b gap blocks s
  | .commaSend l => Sys2Proof.Machine.execCommaSend l s
  | .rateChangeTimeout l => Sys2Proof.Machine.execRateChangeTimeout l s
  | .trainAdaptEnd l ctle dfe => Sys2Proof.Machine.execTrainAdaptEnd l ctle dfe s
  | .laneStateTimeout l => Sys2Proof.Machine.execLaneStateTimeout l s
  | .elasticIdleDelete l es => Sys2Proof.Machine.execElasticIdleDelete l es s
  | .elasticIdleInsert l es => Sys2Proof.Machine.execElasticIdleInsert l es s
  | .elasticOverflow l es => Sys2Proof.Machine.execElasticOverflow l es s
  | .forcedIdleBlock l => Sys2Proof.Machine.execForcedIdleBlock l s
  | .adaptStep l ctle dfe => Sys2Proof.Machine.execAdaptStep l ctle dfe s
  | .laneTxeqApply l => Sys2Proof.Machine.execLaneTxeqApply l s
  | .laneCtlRetrain l => Sys2Proof.Machine.execLaneCtlRetrain l s
  | .laneLinkEnable l => Sys2Proof.Machine.execLaneLinkEnable l s
  | .laneLinkDisable l => Sys2Proof.Machine.execLaneLinkDisable l s
  | .lanePrbsCtlWrite l v => Sys2Proof.Machine.execLanePrbsCtlWrite l v s
  | .prbsCheckerLock l bits => Sys2Proof.Machine.execPrbsCheckerLock l bits s
  | .prbsCheckerUnlock l bits => Sys2Proof.Machine.execPrbsCheckerUnlock l bits s
  | .prbsBitsLoRead l bits => Sys2Proof.Machine.execPrbsBitsLoRead l bits s
  | .laneMarginUpdate l height width => Sys2Proof.Machine.execLaneMarginUpdate l height width s
  | .lanePrbs m => Sys2Proof.Machine.execLanePrbs m s
  | .lanePrbsEnd m j bits => Sys2Proof.Machine.execLanePrbsEnd m j bits s
  | .frameHeaderArrival l f => Sys2Proof.Machine.execFrameHeaderArrival l f s
  | .frameEnd l blocks term => Sys2Proof.Machine.execFrameEnd l blocks term s
  | .laneArbitrate l res => Sys2Proof.Machine.execLaneArbitrate l res s
  | .staleRemoval l id => Sys2Proof.Machine.execStaleRemoval l id s
  | .creditUpdate l f => Sys2Proof.Machine.execCreditUpdate l f s
  | .creditUpdateSend l => Sys2Proof.Machine.execCreditUpdateSend l s
  | .creditAudit l f => Sys2Proof.Machine.execCreditAudit l f s
  | .creditAuditSend l => Sys2Proof.Machine.execCreditAuditSend l s
  | .windowEntryExpire src => Sys2Proof.Machine.execWindowEntryExpire src s
  | .windowMemoryError srcs => Sys2Proof.Machine.execWindowMemoryError srcs s
  | .windowDiscardEnd src => Sys2Proof.Machine.execWindowDiscardEnd src s
  | .msgFrame r f => Sys2Proof.Machine.execMsgFrame r f s
  | .incomingItemAbandon src tag => Sys2Proof.Machine.execIncomingItemAbandon src tag s
  | .msgOffer q => Sys2Proof.Machine.execMsgOffer q s
  | .msgReoffer t => Sys2Proof.Machine.execMsgReoffer t s
  | .presenceSend => Sys2Proof.Machine.execPresenceSend s
  | .presenceFrame r f => Sys2Proof.Machine.execPresenceFrame r f s
  | .ringSeenTimeout n r => Sys2Proof.Machine.execRingSeenTimeout n r s
  | .ringClosureLoss r => Sys2Proof.Machine.execRingClosureLoss r s
  | .pcieMemRead bar runs => Sys2Proof.Machine.execPcieMemRead bar runs s
  | .pcieMemWrite bar runs => Sys2Proof.Machine.execPcieMemWrite bar runs s
  | .requestTagGrant who => Sys2Proof.Machine.execRequestTagGrant who s
  | .pcieCompletionAck req idx => Sys2Proof.Machine.execPcieCompletionAck req idx s
  | .pcieLinkDown => Sys2Proof.Machine.execPcieLinkDown s
  | .spiWrite off data crc => Sys2Proof.Machine.execSpiWrite off data crc s
  | .spiRead off words => Sys2Proof.Machine.execSpiRead off words s
  | .spiFwrite node off data crc => Sys2Proof.Machine.execSpiFwrite node off data crc s
  | .spiFread node off words => Sys2Proof.Machine.execSpiFread node off words s
  | .spiStatus => Sys2Proof.Machine.execSpiStatus s
  | .mspiCsRise waits clocked => Sys2Proof.Machine.execMspiCsRise waits clocked s
  | .rdRequest r f => Sys2Proof.Machine.execRdRequest r f s
  | .wrNRequest r f => Sys2Proof.Machine.execWrNRequest r f s
  | .wrPRequest r f => Sys2Proof.Machine.execWrPRequest r f s
  | .completion r f => Sys2Proof.Machine.execCompletion r f s
  | .ackFrame r f => Sys2Proof.Machine.execAckFrame r f s
  | .commitWindowExpire src tag => Sys2Proof.Machine.execCommitWindowExpire src tag s
  | .busyRetry own t => Sys2Proof.Machine.execBusyRetry own t s
  | .completionTimeout own t => Sys2Proof.Machine.execCompletionTimeout own t s
  | .tagQuarantineEnd t => Sys2Proof.Machine.execTagQuarantineEnd t s
  | .inkApply => Sys2Proof.Machine.execInkApply s
  | .portPeek o p => Sys2Proof.Machine.execPortPeek o p s
  | .portPop o p count => Sys2Proof.Machine.execPortPop o p count s
  | .portPush o p posted data => Sys2Proof.Machine.execPortPush o p posted data s
  | .queueMoveRetry q => Sys2Proof.Machine.execQueueMoveRetry q s
  | .stallReadExpire q o => Sys2Proof.Machine.execStallReadExpire q o s
  | .tailTimerFire q => Sys2Proof.Machine.execTailTimerFire q s
  | .censusCheck => Sys2Proof.Machine.execCensusCheck s
  | .nibEnable n => Sys2Proof.Machine.execNibEnable n s
  | .nibDisable n sent got => Sys2Proof.Machine.execNibDisable n sent got s
  | .nibTxItemStart n => Sys2Proof.Machine.execNibTxItemStart n s
  | .nibTxItemComplete n miso => Sys2Proof.Machine.execNibTxItemComplete n miso s
  | .uartCharacterReceive n samples mark turn ns => Sys2Proof.Machine.execUartCharacterReceive n samples mark turn ns s
  | .uartIdleClose n => Sys2Proof.Machine.execUartIdleClose n s
  | .uartBreakReceive n mark turn ns => Sys2Proof.Machine.execUartBreakReceive n mark turn ns s
  | .uartCtsChange n lvl sent => Sys2Proof.Machine.execUartCtsChange n lvl sent s
  | .uartDeRelease n => Sys2Proof.Machine.execUartDeRelease n s
  | .nibHoldEnd n => Sys2Proof.Machine.execNibHoldEnd n s
  | .hdlcFrameReceive n raw ns => Sys2Proof.Machine.execHdlcFrameReceive n raw ns s
  | .spiTargetCsFall n => Sys2Proof.Machine.execSpiTargetCsFall n s
  | .spiTargetCsRise n edges => Sys2Proof.Machine.execSpiTargetCsRise n edges s
  | .i2cStart7 n recover res => Sys2Proof.Machine.execI2cStart7 n recover res s
  | .i2cStart10 n recover res sent => Sys2Proof.Machine.execI2cStart10 n recover res sent s
  | .i2cWrite n acked res => Sys2Proof.Machine.execI2cWrite n acked res s
  | .i2cRead n data lost => Sys2Proof.Machine.execI2cRead n data lost s
  | .i2cStop n => Sys2Proof.Machine.execI2cStop n s
  | .i2cPause n => Sys2Proof.Machine.execI2cPause n s
  | .i2cStretchTimeout n stuck => Sys2Proof.Machine.execI2cStretchTimeout n stuck s
  | .i2cTargetStart n addr ten read => Sys2Proof.Machine.execI2cTargetStart n addr ten read s
  | .i2cTargetStop n data sent nack stop => Sys2Proof.Machine.execI2cTargetStop n data sent nack stop s
  | .i2cTargetFillTimeout n sent => Sys2Proof.Machine.execI2cTargetFillTimeout n sent s
  | .i2cHoldTimeout n data => Sys2Proof.Machine.execI2cHoldTimeout n data s
  | .counterEdge n a b clocks => Sys2Proof.Machine.execCounterEdge n a b clocks s
  | .counterIndex n lvl => Sys2Proof.Machine.execCounterIndex n lvl s
  | .pwmPeriodBoundary n => Sys2Proof.Machine.execPwmPeriodBoundary n s
  | .oneShotEnd n => Sys2Proof.Machine.execOneShotEnd n s
  | .freqWindowEnd n => Sys2Proof.Machine.execFreqWindowEnd n s
  | .bankClassChange g mv => Sys2Proof.Machine.execBankClassChange g mv s
  | .outputFight n k => Sys2Proof.Machine.execOutputFight n k s
  | .debounceSettle p lvl ns => Sys2Proof.Machine.execDebounceSettle p lvl ns s
  | .stuckDetect p => Sys2Proof.Machine.execStuckDetect p s
  | .discreteShortPulse p => Sys2Proof.Machine.execDiscreteShortPulse p s
  | .chatterWindowEnd p => Sys2Proof.Machine.execChatterWindowEnd p s
  | .stormWindowEnd p => Sys2Proof.Machine.execStormWindowEnd p s
  | .discreteFilterWrite p det v => Sys2Proof.Machine.execDiscreteFilterWrite p det v s
  | .discreteLimitWrite p v => Sys2Proof.Machine.execDiscreteLimitWrite p v s
  | .discreteOutClaim p => Sys2Proof.Machine.execDiscreteOutClaim p s
  | .discreteOutRelease p => Sys2Proof.Machine.execDiscreteOutRelease p s
  | .discreteOutValWrite p v => Sys2Proof.Machine.execDiscreteOutValWrite p v s
  | .discretePulseEnd p => Sys2Proof.Machine.execDiscretePulseEnd p s
  | .discreteSafeWrite p v => Sys2Proof.Machine.execDiscreteSafeWrite p v s
  | .strokeEnable => Sys2Proof.Machine.execStrokeEnable s
  | .strokeDisable => Sys2Proof.Machine.execStrokeDisable s
  | .strokeCommit => Sys2Proof.Machine.execStrokeCommit s
  | .strokeCutoff => Sys2Proof.Machine.execStrokeCutoff s
  | .strokeInstant late => Sys2Proof.Machine.execStrokeInstant late s
  | .strokeFrame r f => Sys2Proof.Machine.execStrokeFrame r f s
  | .strokeScheduleSwitch => Sys2Proof.Machine.execStrokeScheduleSwitch s
  | .strokeConfig m => Sys2Proof.Machine.execStrokeConfig m s
  | .qlEnable q => Sys2Proof.Machine.execQlEnable q s
  | .qlDisable q c => Sys2Proof.Machine.execQlDisable q c s
  | .qlCtlSwap q => Sys2Proof.Machine.execQlCtlSwap q s
  | .qlSwapTakeEffect q => Sys2Proof.Machine.execQlSwapTakeEffect q s
  | .qlCtlForce q c => Sys2Proof.Machine.execQlCtlForce q c s
  | .qlCtlSwcan q => Sys2Proof.Machine.execQlCtlSwcan q s
  | .qlCtlMark q => Sys2Proof.Machine.execQlCtlMark q s
  | .qlTxWrite o q v => Sys2Proof.Machine.execQlTxWrite o q v s
  | .qlRxdRead o q => Sys2Proof.Machine.execQlRxdRead o q s
  | .qlQueueTxFetch q => Sys2Proof.Machine.execQlQueueTxFetch q s
  | .nop q lvl => Sys2Proof.Machine.execNop q lvl s
  | .shout q lvl => Sys2Proof.Machine.execShout q lvl s
  | .shin q lvl smp => Sys2Proof.Machine.execShin q lvl smp s
  | .shxc q lvl smp => Sys2Proof.Machine.execShxc q lvl smp s
  | .const q lvl => Sys2Proof.Machine.execConst q lvl s
  | .load q lvl => Sys2Proof.Machine.execLoad q lvl s
  | .store q lvl => Sys2Proof.Machine.execStore q lvl s
  | .tally q lvl => Sys2Proof.Machine.execTally q lvl s
  | .dir q lvl => Sys2Proof.Machine.execDir q lvl s
  | .idle q lvl => Sys2Proof.Machine.execIdle q lvl s
  | .qlIllegalStep q => Sys2Proof.Machine.execQlIllegalStep q s
  | .qlRestart q => Sys2Proof.Machine.execQlRestart q s
  | .qlLoad m => Sys2Proof.Machine.execQlLoad m s
  | .qlSwap m c => Sys2Proof.Machine.execQlSwap m c s
  | .canEnable k => Sys2Proof.Machine.execCanEnable k s
  | .canDisable k => Sys2Proof.Machine.execCanDisable k s
  | .canBusIntegrated k => Sys2Proof.Machine.execCanBusIntegrated k s
  | .canSubmissionTake k => Sys2Proof.Machine.execCanSubmissionTake k s
  | .canTxAttempt k => Sys2Proof.Machine.execCanTxAttempt k s
  | .canTxSuccess k delay ovl => Sys2Proof.Machine.execCanTxSuccess k delay ovl s
  | .canTxFail k sent arb exempt steps delay => Sys2Proof.Machine.execCanTxFail k sent arb exempt steps delay s
  | .canTxcanWrite k w v => Sys2Proof.Machine.execCanTxcanWrite k w v s
  | .canFrameReceive k w0 w1 data sof ovl => Sys2Proof.Machine.execCanFrameReceive k w0 w1 data sof ovl s
  | .canStagingAdmit k => Sys2Proof.Machine.execCanStagingAdmit k s
  | .canHpwinRead o k => Sys2Proof.Machine.execCanHpwinRead o k s
  | .canBusoffRecover k => Sys2Proof.Machine.execCanBusoffRecover k s
  | .canStuckDominant k tx steps => Sys2Proof.Machine.execCanStuckDominant k tx steps s
  | .canCtlFallback k => Sys2Proof.Machine.execCanCtlFallback k s
  | .canWatchdogExpire k => Sys2Proof.Machine.execCanWatchdogExpire k s
  | .canWatchdogKick k o => Sys2Proof.Machine.execCanWatchdogKick k o s
  | .canCtlFbleave k => Sys2Proof.Machine.execCanCtlFbleave k s
  | .canFbSlotStart k c n => Sys2Proof.Machine.execCanFbSlotStart k c n s
  | .canFbSlotLate k c n => Sys2Proof.Machine.execCanFbSlotLate k c n s
  | .canclkLoss => Sys2Proof.Machine.execCanclkLoss s
  | .canclkRecover mhz => Sys2Proof.Machine.execCanclkRecover mhz s
  | .pbpEnable => Sys2Proof.Machine.execPbpEnable s
  | .pbpDisable => Sys2Proof.Machine.execPbpDisable s
  | .windowEnable inb w => Sys2Proof.Machine.execWindowEnable inb w s
  | .windowDisable inb w => Sys2Proof.Machine.execWindowDisable inb w s
  | .pbpOutboundCycleStart => Sys2Proof.Machine.execPbpOutboundCycleStart s
  | .pbpBusGrant => Sys2Proof.Machine.execPbpBusGrant s
  | .pbpArbTimeout j => Sys2Proof.Machine.execPbpArbTimeout j s
  | .pbpCycleAck lanes => Sys2Proof.Machine.execPbpCycleAck lanes s
  | .pbpCycleError => Sys2Proof.Machine.execPbpCycleError s
  | .pbpBusTimeout => Sys2Proof.Machine.execPbpBusTimeout s
  | .pbpCycleRetry => Sys2Proof.Machine.execPbpCycleRetry s
  | .pbpRequestLimit j => Sys2Proof.Machine.execPbpRequestLimit j s
  | .pbpPrefetchAge w => Sys2Proof.Machine.execPbpPrefetchAge w s
  | .pbpInboundDecode addr am width write lanes => Sys2Proof.Machine.execPbpInboundDecode addr am width write lanes s
  | .pbpPostedAdmit => Sys2Proof.Machine.execPbpPostedAdmit s
  | .pbpHoldLimitExpire => Sys2Proof.Machine.execPbpHoldLimitExpire s
  | .wireLevelChange => Sys2Proof.Machine.execWireLevelChange s
  | .wireRefresh => Sys2Proof.Machine.execWireRefresh s
  | .wireFrame r f => Sys2Proof.Machine.execWireFrame r f s
  | .wireLost => Sys2Proof.Machine.execWireLost s
  | .tbStepApply n v => Sys2Proof.Machine.execTbStepApply n v s
  | .tbRateWrite n v => Sys2Proof.Machine.execTbRateWrite n v s
  | .tbBctlWrite n v => Sys2Proof.Machine.execTbBctlWrite n v s
  | .tbLoRead n => Sys2Proof.Machine.execTbLoRead n s
  | .tbEnable => Sys2Proof.Machine.execTbEnable s
  | .tbDisable => Sys2Proof.Machine.execTbDisable s
  | .syncSend => Sys2Proof.Machine.execSyncSend s
  | .syncFrame r f stamp => Sys2Proof.Machine.execSyncFrame r f stamp s
  | .syncPairTimeout no => Sys2Proof.Machine.execSyncPairTimeout no s
  | .holdoverTimeout => Sys2Proof.Machine.execHoldoverTimeout s
  | .stbyCounterRefresh => Sys2Proof.Machine.execStbyCounterRefresh s
  | .timeGet m => Sys2Proof.Machine.execTimeGet m s
  | .timeStep m => Sys2Proof.Machine.execTimeStep m s
  | .timeRestepAllow m => Sys2Proof.Machine.execTimeRestepAllow m s
  | .tbConfig m => Sys2Proof.Machine.execTbConfig m s
  | .kcDoorbell m o => Sys2Proof.Machine.execKcDoorbell m o s
  | .kcCtlClose m o => Sys2Proof.Machine.execKcCtlClose m o s
  | .kcSessionExpire m => Sys2Proof.Machine.execKcSessionExpire m s
  | .jobStep m j last ok => Sys2Proof.Machine.execJobStep m j last ok s
  | .jobOutcomeExpire m j => Sys2Proof.Machine.execJobOutcomeExpire m j s
  | .jobLowSupplyResume m j => Sys2Proof.Machine.execJobLowSupplyResume m j s
  | .hello m => Sys2Proof.Machine.execHello m s
  | .goodbye m => Sys2Proof.Machine.execGoodbye m s
  | .getIdentity m => Sys2Proof.Machine.execGetIdentity m s
  | .getCaps m => Sys2Proof.Machine.execGetCaps m s
  | .jobStatus m => Sys2Proof.Machine.execJobStatus m s
  | .jobCancel m => Sys2Proof.Machine.execJobCancel m s
  | .cfgRead m => Sys2Proof.Machine.execCfgRead m s
  | .cfgWrite m => Sys2Proof.Machine.execCfgWrite m s
  | .cfgEnable m => Sys2Proof.Machine.execCfgEnable m s
  | .cfgCheck m => Sys2Proof.Machine.execCfgCheck m s
  | .cfgSave m last ok => Sys2Proof.Machine.execCfgSave m last ok s
  | .cfgRestore m => Sys2Proof.Machine.execCfgRestore m s
  | .fwBegin m => Sys2Proof.Machine.execFwBegin m s
  | .fwChunk m => Sys2Proof.Machine.execFwChunk m s
  | .fwVerify m last => Sys2Proof.Machine.execFwVerify m last s
  | .fwActivate m => Sys2Proof.Machine.execFwActivate m s
  | .fwSlotInfo m => Sys2Proof.Machine.execFwSlotInfo m s
  | .nvCounters m => Sys2Proof.Machine.execNvCounters m s
  | .bltFreeze m => Sys2Proof.Machine.execBltFreeze m s
  | .bltRead m => Sys2Proof.Machine.execBltRead m s
  | .bltThaw m => Sys2Proof.Machine.execBltThaw m s
  | .bltClear m => Sys2Proof.Machine.execBltClear m s
  | .monArm m => Sys2Proof.Machine.execMonArm m s
  | .monRead m => Sys2Proof.Machine.execMonRead m s
  | .fltRead m => Sys2Proof.Machine.execFltRead m s
  | .fltClear m => Sys2Proof.Machine.execFltClear m s
  | .heartbeatSend r => Sys2Proof.Machine.execHeartbeatSend r s
  | .heartbeat r f => Sys2Proof.Machine.execHeartbeat r f s
  | .authAck r f => Sys2Proof.Machine.execAuthAck r f s
  | .authorityLeaseExpire r => Sys2Proof.Machine.execAuthorityLeaseExpire r s
  | .lapsedEnd r => Sys2Proof.Machine.execLapsedEnd r s
  | .heartbeatSilence r => Sys2Proof.Machine.execHeartbeatSilence r s
  | .takeReq r f => Sys2Proof.Machine.execTakeReq r f s
  | .takeAns r f => Sys2Proof.Machine.execTakeAns r f s
  | .noHolderTimeout r => Sys2Proof.Machine.execNoHolderTimeout r s
  | .witnessHostTimeout r => Sys2Proof.Machine.execWitnessHostTimeout r s
  | .appoint r f => Sys2Proof.Machine.execAppoint r f s
  | .table r f => Sys2Proof.Machine.execTable r f s
  | .standbyPassOver r => Sys2Proof.Machine.execStandbyPassOver r s
  | .standbyAckTimeout => Sys2Proof.Machine.execStandbyAckTimeout s
  | .swapReq r f => Sys2Proof.Machine.execSwapReq r f s
  | .roleSwapTimeout r => Sys2Proof.Machine.execRoleSwapTimeout r s
  | .censusRptSend => Sys2Proof.Machine.execCensusRptSend s
  | .censusRpt r f => Sys2Proof.Machine.execCensusRpt r f s
  | .nodeAbsent n => Sys2Proof.Machine.execNodeAbsent n s
  | .sizeSetSend => Sys2Proof.Machine.execSizeSetSend s
  | .sizeSet r f => Sys2Proof.Machine.execSizeSet r f s
  | .leaseOpAcquire r f => Sys2Proof.Machine.execLeaseOpAcquire r f s
  | .leaseOpRenew r f => Sys2Proof.Machine.execLeaseOpRenew r f s
  | .leaseOpRelease r f => Sys2Proof.Machine.execLeaseOpRelease r f s
  | .leaseOpGrant r f => Sys2Proof.Machine.execLeaseOpGrant r f s
  | .leaseOpRefuse r f => Sys2Proof.Machine.execLeaseOpRefuse r f s
  | .leaseExpire res => Sys2Proof.Machine.execLeaseExpire res s
  | .leaseRequestRepeat m => Sys2Proof.Machine.execLeaseRequestRepeat m s
  | .leaseAnswerTimeout m => Sys2Proof.Machine.execLeaseAnswerTimeout m s
  | .roleSetConfig m => Sys2Proof.Machine.execRoleSetConfig m s
  | .roleSetGrant m => Sys2Proof.Machine.execRoleSetGrant m s
  | .roleSetDeny m => Sys2Proof.Machine.execRoleSetDeny m s
  | .roleSwap m => Sys2Proof.Machine.execRoleSwap m s
  | .leaseAcquire m => Sys2Proof.Machine.execLeaseAcquire m s
  | .leaseRenew m => Sys2Proof.Machine.execLeaseRenew m s
  | .leaseRelease m => Sys2Proof.Machine.execLeaseRelease m s
  | .censusRead m => Sys2Proof.Machine.execCensusRead m s
  | .memoryUncorrectable src info corrected q item cell => Sys2Proof.Machine.execMemoryUncorrectable src info corrected q item cell s
  | .fltStatusValidWrite => Sys2Proof.Machine.execFltStatusValidWrite s
  | .fltCtlSafeExit => Sys2Proof.Machine.execFltCtlSafeExit s
  | .fltUnquarWrite v => Sys2Proof.Machine.execFltUnquarWrite v s
  | .fltInjWrite v => Sys2Proof.Machine.execFltInjWrite v s
  | .lockstepMismatch k at_ => Sys2Proof.Machine.execLockstepMismatch k at_ s
  | .coreWatchdogExpire k => Sys2Proof.Machine.execCoreWatchdogExpire k s
  | .pllLockLoss p => Sys2Proof.Machine.execPllLockLoss p s
  | .logicTempLimit t => Sys2Proof.Machine.execLogicTempLimit t s
  | .bltCtlFreeze => Sys2Proof.Machine.execBltCtlFreeze s
  | .bltCtlThaw => Sys2Proof.Machine.execBltCtlThaw s
  | .bltClrWrite => Sys2Proof.Machine.execBltClrWrite s
  | .monSample m v => Sys2Proof.Machine.execMonSample m v s
  | .monCtlArm m => Sys2Proof.Machine.execMonCtlArm m s
  | .monCtlStop m => Sys2Proof.Machine.execMonCtlStop m s
  | .cphPageEnable o p => Sys2Proof.Machine.execCphPageEnable o p s
  | .cphPageDisable o p => Sys2Proof.Machine.execCphPageDisable o p s
  | .cphCmdLoad o p k ksize persist nvOk => Sys2Proof.Machine.execCphCmdLoad o p k ksize persist nvOk s
  | .cphCmdErase o p k => Sys2Proof.Machine.execCphCmdErase o p k s
  | .cphJobStart => Sys2Proof.Machine.execCphJobStart s
  | .cphJobEnd => Sys2Proof.Machine.execCphJobEnd s
  | .cphResultAdmit p => Sys2Proof.Machine.execCphResultAdmit p s
  | .cphDinWrite o p data => Sys2Proof.Machine.execCphDinWrite o p data s
  | .cphCounterPersist k ok => Sys2Proof.Machine.execCphCounterPersist k ok s
  | .keyLoad m nvOk => Sys2Proof.Machine.execKeyLoad m nvOk s
  | .keyErase m => Sys2Proof.Machine.execKeyErase m s
  | .macGen m => Sys2Proof.Machine.execMacGen m s
  | .macVerify m => Sys2Proof.Machine.execMacVerify m s
  | .companionTick t => Sys2Proof.Machine.execCompanionTick t s
  | .feedGood x => Sys2Proof.Machine.execFeedGood x s
  | .feedLost x => Sys2Proof.Machine.execFeedLost x s
  | .feedOvervoltage x vin => Sys2Proof.Machine.execFeedOvervoltage x vin s
  | .feedReverseCurrent x => Sys2Proof.Machine.execFeedReverseCurrent x s
  | .feedReverseRecover x => Sys2Proof.Machine.execFeedReverseRecover x s
  | .feedImbalance share => Sys2Proof.Machine.execFeedImbalance share s
  | .infailEnter => Sys2Proof.Machine.execInfailEnter s
  | .infailEnd => Sys2Proof.Machine.execInfailEnd s
  | .feedEnable x => Sys2Proof.Machine.execFeedEnable x s
  | .feedDisable x => Sys2Proof.Machine.execFeedDisable x s
  | .slotEnable n => Sys2Proof.Machine.execSlotEnable n s
  | .slotDisable n => Sys2Proof.Machine.execSlotDisable n s
  | .slotOnWrite n => Sys2Proof.Machine.execSlotOnWrite n s
  | .slotOffWrite n => Sys2Proof.Machine.execSlotOffWrite n s
  | .slotCtlRetry n => Sys2Proof.Machine.execSlotCtlRetry n s
  | .slotInsertionDelayEnd n => Sys2Proof.Machine.execSlotInsertionDelayEnd n s
  | .slotFastTrip n => Sys2Proof.Machine.execSlotFastTrip n s
  | .slotStartTimerExpire n => Sys2Proof.Machine.execSlotStartTimerExpire n s
  | .slotFaultTimerExpire n => Sys2Proof.Machine.execSlotFaultTimerExpire n s
  | .slotCooldownEnd n => Sys2Proof.Machine.execSlotCooldownEnd n s
  | .slotLeadEnd n => Sys2Proof.Machine.execSlotLeadEnd n s
  | .slotWarnRelease n => Sys2Proof.Machine.execSlotWarnRelease n s
  | .slotPgUndervoltage n => Sys2Proof.Machine.execSlotPgUndervoltage n s
  | .slotRetriesClear n => Sys2Proof.Machine.execSlotRetriesClear n s
  | .slotBusOvervoltage n => Sys2Proof.Machine.execSlotBusOvervoltage n s
  | .companionThermalShutdown t => Sys2Proof.Machine.execCompanionThermalShutdown t s
  | .companionThermalRecover => Sys2Proof.Machine.execCompanionThermalRecover s
  | .companionTempWarning t => Sys2Proof.Machine.execCompanionTempWarning t s
  | .nvInhibitEnter causes => Sys2Proof.Machine.execNvInhibitEnter causes s
  | .nvInhibitEnd => Sys2Proof.Machine.execNvInhibitEnd s
  | .cseqOutputAssert => Sys2Proof.Machine.execCseqOutputAssert s
  | .cseqTimeout => Sys2Proof.Machine.execCseqTimeout s
  | .cseqRetry => Sys2Proof.Machine.execCseqRetry s
  | .cseqShutdown => Sys2Proof.Machine.execCseqShutdown s
  | .cseqPgFall k => Sys2Proof.Machine.execCseqPgFall k s
  | .pwrStbySetHiWrite v => Sys2Proof.Machine.execPwrStbySetHiWrite v s
  | .pwrStbyCntLoRead => Sys2Proof.Machine.execPwrStbyCntLoRead s
  | .loadShed => Sys2Proof.Machine.execLoadShed s
  | .feedStatus m => Sys2Proof.Machine.execFeedStatus m s
  | .slotOn m => Sys2Proof.Machine.execSlotOn m s
  | .slotOff m => Sys2Proof.Machine.execSlotOff m s
  | .slotRetry m => Sys2Proof.Machine.execSlotRetry m s
  | .firmwareStart => Sys2Proof.Machine.execFirmwareStart s
  | .bootConfirm => Sys2Proof.Machine.execBootConfirm s
  | .hoursPersist => Sys2Proof.Machine.execHoursPersist s
  | .companionResetEnd => Sys2Proof.Machine.execCompanionResetEnd s
  | .badOpcode m => Sys2Proof.Machine.execBadOpcode m s
  | .canReceiveError k pxe steps => Sys2Proof.Machine.execCanReceiveError k pxe steps s

end Sys2Proof.Machine
end

