-- ==== Sys2Proof/Machine/Step.lean ====
section
/-! DEFINITION. One step of the block: the command at the front of its queue, or one nanosecond of its clock. -/
namespace Sys2Proof.Machine
open Sys2Proof

/-- One step. On an empty queue one nanosecond of the REFCLK-derived clock passes (DESIGN CHOICE, log entry 2): the time bases
advance (R400, R401), unless the logic die is held in LPOR. -/
def step (s : State) : Host.Outcome State Fault Refusal :=
  match s.pending with
  | c :: rest => exec c { s with pending := rest }
  | [] => .next (idleTick s)

/-- `s` with the command that the word spells at the front of its queue; the table gives no row a word. -/
def State.withFetchWord (s : State) (nbits w : Nat) : State :=
  match decodeTableWord nbits w with
  | some c => { s with pending := c :: s.pending }
  | none => s

end Sys2Proof.Machine
end

