-- ==== Sys2Proof/Part.lean ====
section
/-! DEFINITION. The part of the block that each command needs out of reset (R32, R33). -/
namespace Sys2Proof

/-- What a command needs out of reset: the ring core, the whole logic die, the companion, or nothing. -/
inductive Part where
  | core
  | hub
  | companion
  | always
  deriving DecidableEq, Repr

/-- The part that a command acts in. -/
def Instr.part : Instr → Part
  | .registerWrite _ _ _ => .core
  | .commitOnDeliveryRead _ _ _ => .core
  | .d2dStatusFrame => .hub
  | .companionWriteAck => .hub
  | .d2dLinkLost => .hub
  | .logicPowerOnReset => .always
  | .lporRelease _ _ _ => .always
  | .rstNAssert => .always
  | .rstNRelease _ _ _ => .always
  | .hubCtlSwrst => .hub
  | .hubCtlRun => .hub
  | .hubCtlRunClear => .hub
  | .hubCtlRcclr => .hub
  | .companionPowerOnReset => .always
  | .stbyCounterInvalid _ => .always
  | .perstNAssert => .core
  | .noticeCoalesceFlush _ => .hub
  | .laneSignalDetect _ => .core
  | .laneSignalLoss _ _ => .core
  | .blockLockAcquire _ _ => .core
  | .blockLockLoss _ _ => .core
  | .invalidSyncHeader _ _ => .core
  | .invalidBlock _ _ _ => .core
  | .superframeLockAcquire _ _ _ => .core
  | .superframeLockLoss _ _ => .core
  | .commaReceive _ _ _ _ => .core
  | .commaSend _ => .core
  | .rateChangeTimeout _ => .core
  | .trainAdaptEnd _ _ _ => .core
  | .laneStateTimeout _ => .core
  | .elasticIdleDelete _ _ => .core
  | .elasticIdleInsert _ _ => .core
  | .elasticOverflow _ _ => .core
  | .forcedIdleBlock _ => .core
  | .adaptStep _ _ _ => .core
  | .laneTxeqApply _ => .core
  | .laneCtlRetrain _ => .core
  | .laneLinkEnable _ => .core
  | .laneLinkDisable _ => .core
  | .lanePrbsCtlWrite _ _ => .core
  | .prbsCheckerLock _ _ => .core
  | .prbsCheckerUnlock _ _ => .core
  | .prbsBitsLoRead _ _ => .core
  | .laneMarginUpdate _ _ _ => .core
  | .lanePrbs _ => .hub
  | .lanePrbsEnd _ _ _ => .hub
  | .frameHeaderArrival _ _ => .core
  | .frameEnd _ _ _ => .core
  | .laneArbitrate _ _ => .core
  | .staleRemoval _ _ => .core
  | .creditUpdate _ _ => .core
  | .creditUpdateSend _ => .core
  | .creditAudit _ _ => .core
  | .creditAuditSend _ => .core
  | .windowEntryExpire _ => .hub
  | .windowMemoryError _ => .hub
  | .windowDiscardEnd _ => .hub
  | .msgFrame _ _ => .hub
  | .incomingItemAbandon _ _ => .hub
  | .msgOffer _ => .hub
  | .msgReoffer _ => .hub
  | .presenceSend => .hub
  | .presenceFrame _ _ => .hub
  | .ringSeenTimeout _ _ => .hub
  | .ringClosureLoss _ => .hub
  | .pcieMemRead _ _ => .hub
  | .pcieMemWrite _ _ => .hub
  | .requestTagGrant _ => .hub
  | .pcieCompletionAck _ _ => .hub
  | .pcieLinkDown => .hub
  | .spiWrite _ _ _ => .hub
  | .spiRead _ _ => .hub
  | .spiFwrite _ _ _ _ => .hub
  | .spiFread _ _ _ => .hub
  | .spiStatus => .hub
  | .mspiCsRise _ _ => .hub
  | .rdRequest _ _ => .core
  | .wrNRequest _ _ => .core
  | .wrPRequest _ _ => .core
  | .completion _ _ => .hub
  | .ackFrame _ _ => .hub
  | .commitWindowExpire _ _ => .hub
  | .busyRetry _ _ => .hub
  | .completionTimeout _ _ => .hub
  | .tagQuarantineEnd _ => .hub
  | .inkApply => .hub
  | .portPeek _ _ => .core
  | .portPop _ _ _ => .core
  | .portPush _ _ _ _ => .core
  | .queueMoveRetry _ => .hub
  | .stallReadExpire _ _ => .hub
  | .tailTimerFire _ => .hub
  | .censusCheck => .hub
  | .nibEnable _ => .hub
  | .nibDisable _ _ _ => .hub
  | .nibTxItemStart _ => .hub
  | .nibTxItemComplete _ _ => .hub
  | .uartCharacterReceive _ _ _ _ _ => .hub
  | .uartIdleClose _ => .hub
  | .uartBreakReceive _ _ _ _ => .hub
  | .uartCtsChange _ _ _ => .hub
  | .uartDeRelease _ => .hub
  | .nibHoldEnd _ => .hub
  | .hdlcFrameReceive _ _ _ => .hub
  | .spiTargetCsFall _ => .hub
  | .spiTargetCsRise _ _ => .hub
  | .i2cStart7 _ _ _ => .hub
  | .i2cStart10 _ _ _ _ => .hub
  | .i2cWrite _ _ _ => .hub
  | .i2cRead _ _ _ => .hub
  | .i2cStop _ => .hub
  | .i2cPause _ => .hub
  | .i2cStretchTimeout _ _ => .hub
  | .i2cTargetStart _ _ _ _ => .hub
  | .i2cTargetStop _ _ _ _ _ => .hub
  | .i2cTargetFillTimeout _ _ => .hub
  | .i2cHoldTimeout _ _ => .hub
  | .counterEdge _ _ _ _ => .hub
  | .counterIndex _ _ => .hub
  | .pwmPeriodBoundary _ => .hub
  | .oneShotEnd _ => .hub
  | .freqWindowEnd _ => .hub
  | .bankClassChange _ _ => .hub
  | .outputFight _ _ => .hub
  | .debounceSettle _ _ _ => .hub
  | .stuckDetect _ => .hub
  | .discreteShortPulse _ => .hub
  | .chatterWindowEnd _ => .hub
  | .stormWindowEnd _ => .hub
  | .discreteFilterWrite _ _ _ => .hub
  | .discreteLimitWrite _ _ => .hub
  | .discreteOutClaim _ => .hub
  | .discreteOutRelease _ => .hub
  | .discreteOutValWrite _ _ => .hub
  | .discretePulseEnd _ => .hub
  | .discreteSafeWrite _ _ => .hub
  | .strokeEnable => .hub
  | .strokeDisable => .hub
  | .strokeCommit => .hub
  | .strokeCutoff => .hub
  | .strokeInstant _ => .hub
  | .strokeFrame _ _ => .hub
  | .strokeScheduleSwitch => .hub
  | .strokeConfig _ => .hub
  | .qlEnable _ => .hub
  | .qlDisable _ _ => .hub
  | .qlCtlSwap _ => .hub
  | .qlSwapTakeEffect _ => .hub
  | .qlCtlForce _ _ => .hub
  | .qlCtlSwcan _ => .hub
  | .qlCtlMark _ => .hub
  | .qlTxWrite _ _ _ => .core
  | .qlRxdRead _ _ => .core
  | .qlQueueTxFetch _ => .hub
  | .nop _ _ => .hub
  | .shout _ _ => .hub
  | .shin _ _ _ => .hub
  | .shxc _ _ _ => .hub
  | .const _ _ => .hub
  | .load _ _ => .hub
  | .store _ _ => .hub
  | .tally _ _ => .hub
  | .dir _ _ => .hub
  | .idle _ _ => .hub
  | .qlIllegalStep _ => .hub
  | .qlRestart _ => .hub
  | .qlLoad _ => .hub
  | .qlSwap _ _ => .hub
  | .canEnable _ => .hub
  | .canDisable _ => .hub
  | .canBusIntegrated _ => .hub
  | .canSubmissionTake _ => .hub
  | .canTxAttempt _ => .hub
  | .canTxSuccess _ _ _ => .hub
  | .canTxFail _ _ _ _ _ _ => .hub
  | .canTxcanWrite _ _ _ => .hub
  | .canFrameReceive _ _ _ _ _ _ => .hub
  | .canStagingAdmit _ => .hub
  | .canHpwinRead _ _ => .core
  | .canBusoffRecover _ => .hub
  | .canStuckDominant _ _ _ => .hub
  | .canCtlFallback _ => .hub
  | .canWatchdogExpire _ => .hub
  | .canWatchdogKick _ _ => .hub
  | .canCtlFbleave _ => .hub
  | .canFbSlotStart _ _ _ => .hub
  | .canFbSlotLate _ _ _ => .hub
  | .canclkLoss => .hub
  | .canclkRecover _ => .hub
  | .pbpEnable => .hub
  | .pbpDisable => .hub
  | .windowEnable _ _ => .hub
  | .windowDisable _ _ => .hub
  | .pbpOutboundCycleStart => .hub
  | .pbpBusGrant => .hub
  | .pbpArbTimeout _ => .hub
  | .pbpCycleAck _ => .hub
  | .pbpCycleError => .hub
  | .pbpBusTimeout => .hub
  | .pbpCycleRetry => .hub
  | .pbpRequestLimit _ => .hub
  | .pbpPrefetchAge _ => .hub
  | .pbpInboundDecode _ _ _ _ _ => .hub
  | .pbpPostedAdmit => .hub
  | .pbpHoldLimitExpire => .hub
  | .wireLevelChange => .hub
  | .wireRefresh => .hub
  | .wireFrame _ _ => .hub
  | .wireLost => .hub
  | .tbStepApply _ _ => .hub
  | .tbRateWrite _ _ => .hub
  | .tbBctlWrite _ _ => .hub
  | .tbLoRead _ => .hub
  | .tbEnable => .hub
  | .tbDisable => .hub
  | .syncSend => .hub
  | .syncFrame _ _ _ => .hub
  | .syncPairTimeout _ => .hub
  | .holdoverTimeout => .hub
  | .stbyCounterRefresh => .hub
  | .timeGet _ => .hub
  | .timeStep _ => .hub
  | .timeRestepAllow _ => .hub
  | .tbConfig _ => .hub
  | .kcDoorbell _ _ => .hub
  | .kcCtlClose _ _ => .hub
  | .kcSessionExpire _ => .hub
  | .jobStep _ _ _ _ => .hub
  | .jobOutcomeExpire _ _ => .hub
  | .jobLowSupplyResume _ _ => .hub
  | .hello _ => .hub
  | .goodbye _ => .hub
  | .getIdentity _ => .hub
  | .getCaps _ => .hub
  | .jobStatus _ => .hub
  | .jobCancel _ => .hub
  | .cfgRead _ => .hub
  | .cfgWrite _ => .hub
  | .cfgEnable _ => .hub
  | .cfgCheck _ => .hub
  | .cfgSave _ _ _ => .hub
  | .cfgRestore _ => .hub
  | .fwBegin _ => .hub
  | .fwChunk _ => .hub
  | .fwVerify _ _ => .hub
  | .fwActivate _ => .hub
  | .fwSlotInfo _ => .hub
  | .nvCounters _ => .hub
  | .bltFreeze _ => .hub
  | .bltRead _ => .hub
  | .bltThaw _ => .hub
  | .bltClear _ => .hub
  | .monArm _ => .hub
  | .monRead _ => .hub
  | .fltRead _ => .hub
  | .fltClear _ => .hub
  | .heartbeatSend _ => .hub
  | .heartbeat _ _ => .hub
  | .authAck _ _ => .hub
  | .authorityLeaseExpire _ => .hub
  | .lapsedEnd _ => .hub
  | .heartbeatSilence _ => .hub
  | .takeReq _ _ => .hub
  | .takeAns _ _ => .hub
  | .noHolderTimeout _ => .hub
  | .witnessHostTimeout _ => .hub
  | .appoint _ _ => .hub
  | .table _ _ => .hub
  | .standbyPassOver _ => .hub
  | .standbyAckTimeout => .hub
  | .swapReq _ _ => .hub
  | .roleSwapTimeout _ => .hub
  | .censusRptSend => .hub
  | .censusRpt _ _ => .hub
  | .nodeAbsent _ => .hub
  | .sizeSetSend => .hub
  | .sizeSet _ _ => .hub
  | .leaseOpAcquire _ _ => .hub
  | .leaseOpRenew _ _ => .hub
  | .leaseOpRelease _ _ => .hub
  | .leaseOpGrant _ _ => .hub
  | .leaseOpRefuse _ _ => .hub
  | .leaseExpire _ => .hub
  | .leaseRequestRepeat _ => .hub
  | .leaseAnswerTimeout _ => .hub
  | .roleSetConfig _ => .hub
  | .roleSetGrant _ => .hub
  | .roleSetDeny _ => .hub
  | .roleSwap _ => .hub
  | .leaseAcquire _ => .hub
  | .leaseRenew _ => .hub
  | .leaseRelease _ => .hub
  | .censusRead _ => .hub
  | .memoryUncorrectable _ _ _ _ _ _ => .hub
  | .fltStatusValidWrite => .hub
  | .fltCtlSafeExit => .hub
  | .fltUnquarWrite _ => .hub
  | .fltInjWrite _ => .hub
  | .lockstepMismatch _ _ => .hub
  | .coreWatchdogExpire _ => .hub
  | .pllLockLoss _ => .hub
  | .logicTempLimit _ => .hub
  | .bltCtlFreeze => .hub
  | .bltCtlThaw => .hub
  | .bltClrWrite => .hub
  | .monSample _ _ => .hub
  | .monCtlArm _ => .hub
  | .monCtlStop _ => .hub
  | .cphPageEnable _ _ => .hub
  | .cphPageDisable _ _ => .hub
  | .cphCmdLoad _ _ _ _ _ _ => .hub
  | .cphCmdErase _ _ _ => .hub
  | .cphJobStart => .hub
  | .cphJobEnd => .hub
  | .cphResultAdmit _ => .hub
  | .cphDinWrite _ _ _ => .core
  | .cphCounterPersist _ _ => .hub
  | .keyLoad _ _ => .hub
  | .keyErase _ => .hub
  | .macGen _ => .hub
  | .macVerify _ => .hub
  | .companionTick _ => .companion
  | .feedGood _ => .companion
  | .feedLost _ => .companion
  | .feedOvervoltage _ _ => .companion
  | .feedReverseCurrent _ => .companion
  | .feedReverseRecover _ => .companion
  | .feedImbalance _ => .companion
  | .infailEnter => .companion
  | .infailEnd => .companion
  | .feedEnable _ => .hub
  | .feedDisable _ => .hub
  | .slotEnable _ => .hub
  | .slotDisable _ => .hub
  | .slotOnWrite _ => .hub
  | .slotOffWrite _ => .hub
  | .slotCtlRetry _ => .hub
  | .slotInsertionDelayEnd _ => .companion
  | .slotFastTrip _ => .companion
  | .slotStartTimerExpire _ => .companion
  | .slotFaultTimerExpire _ => .companion
  | .slotCooldownEnd _ => .companion
  | .slotLeadEnd _ => .companion
  | .slotWarnRelease _ => .companion
  | .slotPgUndervoltage _ => .companion
  | .slotRetriesClear _ => .companion
  | .slotBusOvervoltage _ => .companion
  | .companionThermalShutdown _ => .companion
  | .companionThermalRecover => .companion
  | .companionTempWarning _ => .companion
  | .nvInhibitEnter _ => .core
  | .nvInhibitEnd => .core
  | .cseqOutputAssert => .companion
  | .cseqTimeout => .companion
  | .cseqRetry => .companion
  | .cseqShutdown => .companion
  | .cseqPgFall _ => .companion
  | .pwrStbySetHiWrite _ => .hub
  | .pwrStbyCntLoRead => .hub
  | .loadShed => .hub
  | .feedStatus _ => .hub
  | .slotOn _ => .hub
  | .slotOff _ => .hub
  | .slotRetry _ => .hub
  | .firmwareStart => .hub
  | .bootConfirm => .hub
  | .hoursPersist => .hub
  | .companionResetEnd => .always
  | .badOpcode _ => .hub
  | .canReceiveError _ _ _ => .hub

end Sys2Proof
end

