-- ==== Sys2Proof/Safety.lean ====
section
/-! DEFINITION. The terms in which claims about the block are made: parts out of reset, a command's own effect, and the block at
rest between commands. -/
namespace Sys2Proof.Machine
open Sys2Proof

/-- The ring core is out of reset (R32, R33). -/
def State.coreUp (s : State) : Prop := s.hub.lporHeld = false

/-- The whole logic die is out of reset (R32). -/
def State.hubUp (s : State) : Prop := s.hub.lporHeld = false ∧ s.hub.rstHeld = false

/-- The part of the block that command `c` acts in is held in reset (R32, R33). -/
def State.holds (s : State) (c : Instr) : Prop :=
  match c.part with
  | .core => s.hub.lporHeld = true
  | .hub => s.hub.lporHeld = true ∨ s.hub.rstHeld = true
  | .companion => s.hub.cprst = true
  | .always => False

/-- The state a command acts on: `s` without the commands that wait. -/
def State.alone (s : State) : State := { s with pending := [] }

/-- Command `c` completes in `s`: `u` is what it does itself, and the block carries on from there. -/
def Does (c : Instr) (s u : State) : Prop := exec c s = .next (carryOn u s)

/-- Command `c` completes in `s`, and what it does itself is as `P` says. -/
def Ends (c : Instr) (s : State) (P : State → Prop) : Prop := ∃ u, Does c s u ∧ P u

/-- Registers outside `ks` hold in `u` what they hold in `s`. -/
def RegsKeep (ks : List Nat) (s u : State) : Prop := ∀ j, j ∉ ks → rd u j = rd s j

/-- Nothing but registers among `ks` differs between `s` and `u`; the queue of commands is not looked at. -/
def OnlyRegs (ks : List Nat) (s u : State) : Prop := { u with regs := s.regs, pending := s.pending } = s ∧ RegsKeep ks s u

/-- The registers that raising fault source `n` may write (R495, R500, R502, R508). -/
def faultRegs (n : Nat) : List Nat :=
  [fltCnt n, fltActive (n / 32), fltStatus, fltFirstSrc, fltFirstInfo, fltFirstTimeLo, fltFirstTimeHi, fltFirstCnt, fltLastSrc,
    hubStatus, bltStatus, bltRefused, bltMissed, bltWritten]

/-- Nothing but registers among `ks`, the reactions ordered, the blotter's records and the vectors sent or pending differs between
`s` and `u`: what raising a fault or creating a notice may change besides. -/
def OnlyRaised (ks : List Nat) (s u : State) : Prop :=
  { u with regs := s.regs, pending := s.pending, post := s.post, flt := { u.flt with recs := s.flt.recs },
           hub := { u.hub with msix := s.hub.msix, msixPend := s.hub.msixPend } } = s ∧ RegsKeep ks s u

/-- The packet `raw` with opcode `op` stands rung in mailbox `m`, pair K serves it, it is the mailbox's turn (R436), and it passes
the tests of R441. -/
def State.rung (s : State) (m op : Nat) (raw : List Byte) : Prop :=
  (box m s).pkt = some raw ∧ kServes s = true ∧ pkOp raw = op ∧ kcWaits m s = false ∧ kcTurn m s = true ∧ kcGate m raw s = none

/-- NOTICE_N is due: HUB_CTL.NPIN_EN is 1, and a notice queue chosen in HUB_NPIN is not empty (R48). -/
def State.noticeDue (s : State) : Bool :=
  rb s hubCtl 4 && (List.range 16).any (fun n => rb s hubNpin n && !(queue (608 + n) s).items.isEmpty)

/-- Between commands the outputs follow the state: NOTICE_N (R48), the count of cells of data that waits (R163, R169), and every
pin the running bridge owns (R362, R369, R384). -/
structure State.Settled (s : State) : Prop where
  notice   : s.hub.noticePin = s.noticeDue
  inflight : s.ink.inflight = waitingCells s
  bridge   : pbpRuns s = true → ∀ p, p < 512 → owner p s = 4 → ((pin p s).oe, (pin p s).out) = bridgeLevels s p

/-- Nothing is left to carry on: no reaction is ordered, no frame waits at a full sink, no tag waits on an absent node, no read is
held, no request waits its turn, no SPI write is under way, no ended item waits for its copies, no C3 share is left over, no
queue, nib or quill has anything to move on, the bridge does not run and has no completion to take, and NOTICE_N and the cells of waiting data are as they
should be. -/
structure State.Quiet (s : State) : Prop where
  post     : s.post = []
  sinks    : s.ring.sinks = []
  tags     : ∀ e ∈ s.tx.tags, isAbsent e.2 = false
  held     : s.tx.held = []
  order    : s.tx.order = []
  spi      : s.tx.spi.writes = []
  linger   : s.tx.linger = []
  share    : ∀ l, l < 2 → (link l s).sh = 0
  queues   : s.ink.queues = []
  nibs     : ∀ e ∈ s.nibs, (nib e.1 s).fifo = []
  quills   : ∀ e ∈ s.quills, (qlEn e.1 s && qlRxen e.1 s) = false
  bridge   : pbpRuns s = false
  inbound  : s.pbp.result = none
  notice   : s.hub.noticePin = s.noticeDue
  inflight : s.ink.inflight = waitingCells s

/-- Every sparse table of the state that a register or buffer access reads is in canonical form: keys strictly rising, no entry
equal to what an unlisted key reads as. -/
structure State.Canonical (s : State) : Prop where
  regs   : twf resetOf 0 s.regs = true
  active : twf resetOf 0 s.ink.active = true
  comp   : twf resetOf 0 s.pwr.comp = true

end Sys2Proof.Machine
end

