-- ==== Sys2Proof/Certificates/Slice0/Obligations.lean ====
section
/-! DEFINITION. The statements about the model, one Prop each: first the block as a whole, then the completion of every family's
commands, then what single commands do. -/
open Sys2Proof Sys2Proof.Machine

/-- The state after reset is settled, its register tables are canonical, and a read of each of these registers returns the reset value of its table: HUB_ID, FLT_CTL, RING_CFG, LANE_CTL,
LANE_STATUS, LANE_TXEQ, INK_CPL_RSV, INK_FREE, Q_CFG, Q_LIM, BLT_CTL, MON_MIN, XB_PIN, XB_DOUT, STK_PERIOD, TB_PERIOD,
TB_CTOT, PBP_CFG, FEED_CTL and SLOT_CFG. -/
def Obligations.ResetStateAsTheTablesSay : Prop :=
  State.reset.Settled ∧ State.reset.Canonical ∧ ∀ e ∈ [(0x0, 0x92560210#32), (0x1000, 1#32), (0x30000, 0x8FE#32), (0x38000, 0x19#32), (0x39004, 1#32), (0x38010, 0xA0602#32),
    (0x2000C, 0x800#32), (0x20018, 0x8000#32), (0x28000, 0x1F40000#32), (0x28008, 0x1000008#32), (0x50000, 2#32),
    (0x5401C, 0x7FFFFFFF#32), (0x300000, 0x20#32), (0x30100C, 0x200#32), (0x6010, 0xF4240#32), (0x4010, 0x3E8#32),
    (0x4030, 0xFFFFFFFF#32), (0x400010, 0x1029#32), (0x40100, 1#32), (0x41010, 0x35A32#32)], readVal e.1 State.reset = e.2

/-- A step with command `c` at the front of the queue is `exec` of `c` on the state with the rest of the queue. The queue is the
model's own (log entry 2). -/
def Obligations.StepRunsFront : Prop :=
  ∀ (c : Instr) (rest : List Instr) (s : State), step { s with pending := c :: rest } = exec c { s with pending := rest }

/-- On an empty queue a step is one nanosecond: out of LPOR it advances each time base that is not slaved by 1 + TB_RATE × 2^-32 ns,
and the S2 output of a PWM whose DUTY has passed falls; nothing else changes but the count of elapsed time: no register, no
queue, no pin but those that nibs own, no nib without a fall to come. In LPOR only the count changes. That a step on an empty
queue is one nanosecond is the model's choice (log entry 2). -/
def Obligations.StepOnEmptyQueue : Prop :=
  ∀ s : State, s.pending = [] →
    (s.coreUp → ∃ t, step s = .next t ∧ t.hub = { s.hub with now := s.hub.now + 1 } ∧
      { t with time := s.time, hub := s.hub, nibs := s.nibs, pins := s.pins } = s ∧ { t.time with bases := s.time.bases } = s.time ∧
      (∀ n, n < 4 → base n t = if slaved n s then base n s else advance (base n s) (4294967296 + sgn (rd s (tbBase n 0x0C)))) ∧
      (∀ p, owner p s ≠ 1 → pin p t = pin p s) ∧
      ∀ n, { nib n t with fall := (nib n s).fall } = nib n s ∧
        ((nib n s).fall = none ∨ (∃ x, (nib n s).fall = some x ∧ s.hub.now + 1 < x) → nib n t = nib n s)) ∧
    (s.hub.lporHeld = true → step s = .next { s with hub := { s.hub with now := s.hub.now + 1 } })

/-- In every state every command answers a next state, and the commands that wait stay as they are: no command of this block stops
it, and none adds to the queue. The queue is the model's own (log entry 2). -/
def Obligations.CommandsAnswerAndKeepQueue : Prop :=
  ∀ (c : Instr) (s : State), ∃ t, exec c s = .next t ∧ t.pending = s.pending

/-- From every settled state, a step answers a state that is settled: NOTICE_N is low exactly while a notice queue chosen in
HUB_NPIN is not empty and NPIN_EN is 1, the INFLIGHT cells are those of the data that waits, and every pin the running bridge
owns is driven as the cycle, the sideband and the wires need it. -/
def Obligations.StepsStaySettled : Prop :=
  ∀ s t : State, s.Settled → step s = .next t → t.Settled

/-- In a quiet state nothing is left to carry on: a command whose own effect leaves the state quiet ends with that effect alone. -/
def Obligations.QuietIsAtRest : Prop :=
  ∀ (c : Instr) (s u : State), Does c s u → u.Quiet → exec c s = .next { u with pending := s.pending }

/-- A command that acts in a part held in reset has no effect of its own: in LPOR nothing of the logic die acts, in RST_N nothing
outside the ring core, and a companion in its reset does nothing. That these commands are without effect, and do not stop, is
the model's choice (log entry 3). -/
def Obligations.PartsInResetAreInert : Prop :=
  ∀ (c : Instr) (s : State), s.holds c → Does c s s.alone

/-- Every command of the hub, its resets and its registers completes, with every operand, in every state in which the part of the
block it acts in is out of reset: the answer is the next state in which the command's own effect, the named operation written
from its rule, has been carried out and what it lets go on has gone on. -/
def Obligations.HubCommandsComplete : Prop :=
  ∀ s : State, let s0 := s.alone
    (∀ (o : Origin) (off : Nat) (v : Word), s.coreUp → Does (.registerWrite o off v) s (serve o ⟨.wrN, off, 4, wordBytes v⟩ s0)) ∧
    (∀ (o : Origin) (off : Nat) (count : Nat), s.coreUp →
      Does (.commitOnDeliveryRead o off count) s (serve o ⟨.rd, off, count, []⟩ s0)) ∧
    (s.hubUp → Does .d2dStatusFrame s (d2dStatus s0)) ∧
    (s.hubUp → Does .companionWriteAck s (compAck s0)) ∧
    (s.hubUp → Does .d2dLinkLost s (d2dLost s0)) ∧
    (Does .logicPowerOnReset s (lporReset s0)) ∧
    (∀ (node : Fin 256) (boot : Fin 4) (test : Bool),
      Does (.lporRelease node boot test) s (lporRelease (strapPins node boot test s0))) ∧
    (Does .rstNAssert s (rstAssert s0)) ∧
    (∀ (node : Fin 256) (boot : Fin 4) (test : Bool),
      Does (.rstNRelease node boot test) s (rstRelease (strapPins node boot test s0))) ∧
    (s.hubUp → Does .hubCtlSwrst s (hubCtlWrite (withBit hubCtl 1 s0) s0)) ∧
    (s.hubUp → Does .hubCtlRun s (hubCtlWrite (withBit hubCtl 0 s0) s0)) ∧
    (s.hubUp → Does .hubCtlRunClear s (hubCtlWrite (sansBit hubCtl 0 s0) s0)) ∧
    (s.hubUp → Does .hubCtlRcclr s (hubCtlWrite (withBit hubCtl 5 s0) s0)) ∧
    (Does .companionPowerOnReset s (compReset s0)) ∧
    (∀ (osc : Bool), Does (.stbyCounterInvalid osc) s (stbyInvalid osc s0)) ∧
    (s.coreUp → Does .perstNAssert s (perst s0)) ∧
    (∀ (n : Fin 16), s.hubUp → Does (.noticeCoalesceFlush n) s (coalFlush n s0))

/-- Every command of the ring lanes completes, with every operand, in every state in which the part of the block it acts in is out
of reset, a Kilco command where its packet has been rung, is served and passes the tests of R441: the answer is the next state
in which the command's own effect, the named operation written from its rule, has been carried out and what it lets go on has
gone on. -/
def Obligations.LaneCommandsComplete : Prop :=
  ∀ s : State, let s0 := s.alone
    (∀ (l : Fin 2), s.coreUp → Does (.laneSignalDetect l) s (laneSignal l s0)) ∧
    (∀ (l : Fin 2) (sig : Bool), s.coreUp → Does (.laneSignalLoss l sig) s (laneSignalLoss l sig s0)) ∧
    (∀ (l : Fin 2) (hs : List (BitVec 2)), s.coreUp → Does (.blockLockAcquire l hs) s (rxHeaders l hs s0)) ∧
    (∀ (l : Fin 2) (hs : List (BitVec 2)), s.coreUp → Does (.blockLockLoss l hs) s (rxHeaders l hs s0)) ∧
    (∀ (l : Fin 2) (hi : Bool), s.coreUp → Does (.invalidSyncHeader l hi) s (invalidHeader l hi s0)) ∧
    (∀ (l : Fin 2) (blocks : Nat) (b : Block), s.coreUp → Does (.invalidBlock l blocks b) s (invalidBlock l blocks b s0)) ∧
    (∀ (l : Fin 2) (b c : Block), s.coreUp → Does (.superframeLockAcquire l b c) s (sfLockAcquire l b c s0)) ∧
    (∀ (l : Fin 2) (n : Nat), s.coreUp → Does (.superframeLockLoss l n) s (sfLockLoss l n s0)) ∧
    (∀ (l : Fin 2) (b : Block) (gap blocks : Nat), s.coreUp →
      Does (.commaReceive l b gap blocks) s (commaReceive l b gap blocks s0)) ∧
    (∀ (l : Fin 2), s.coreUp → Does (.commaSend l) s (commaSend l s0)) ∧
    (∀ (l : Fin 2), s.coreUp → Does (.rateChangeTimeout l) s (rateTimeout l s0)) ∧
    (∀ (l : Fin 2) (ctle : Nat) (dfe : List Int), s.coreUp → Does (.trainAdaptEnd l ctle dfe) s (trainEnd l ctle dfe s0)) ∧
    (∀ (l : Fin 2), s.coreUp → Does (.laneStateTimeout l) s (stateTimeout l s0)) ∧
    (∀ (l : Fin 2) (es : List BufEv), s.coreUp → Does (.elasticIdleDelete l es) s (idleDelete l es s0)) ∧
    (∀ (l : Fin 2) (es : List BufEv), s.coreUp → Does (.elasticIdleInsert l es) s (idleInsert l es s0)) ∧
    (∀ (l : Fin 2) (es : List BufEv), s.coreUp → Does (.elasticOverflow l es) s (bufMoves l es s0)) ∧
    (∀ (l : Fin 2), s.coreUp → Does (.forcedIdleBlock l) s (forcedIdle l s0)) ∧
    (∀ (l : Fin 2) (ctle : Nat) (dfe : List Int), s.coreUp → Does (.adaptStep l ctle dfe) s (adaptStep l ctle dfe s0)) ∧
    (∀ (l : Fin 2), s.coreUp → Does (.laneTxeqApply l) s (txeqApply l s0)) ∧
    (∀ (l : Fin 2), s.coreUp → Does (.laneCtlRetrain l) s (laneCtlWrite l (withBit (laneReg l 0) 1 s0) s0)) ∧
    (∀ (l : Fin 2), s.coreUp → Does (.laneLinkEnable l) s (laneCtlWrite l (withBit (laneReg l 0) 0 s0) s0)) ∧
    (∀ (l : Fin 2), s.coreUp → Does (.laneLinkDisable l) s (laneCtlWrite l (sansBit (laneReg l 0) 0 s0) s0)) ∧
    (∀ (l : Fin 2) (v : Word), s.coreUp → Does (.lanePrbsCtlWrite l v) s (prbsCtlWrite l v s0)) ∧
    (∀ (l : Fin 2) (bits : List Bool), s.coreUp → Does (.prbsCheckerLock l bits) s (prbsBits l bits s0)) ∧
    (∀ (l : Fin 2) (bits : List Bool), s.coreUp → Does (.prbsCheckerUnlock l bits) s (prbsBits l bits s0)) ∧
    (∀ (l : Fin 2) (bits : List Bool), s.coreUp → Does (.prbsBitsLoRead l bits) s (prbsLoRead l (prbsBits l bits s0))) ∧
    (∀ (l : Fin 2) (height : Nat) (width : Nat), s.coreUp →
      Does (.laneMarginUpdate l height width) s (marginUpdate l height width s0)) ∧
    (∀ (m : Fin 16) (raw : List Byte), s.hubUp → s0.rung m 0x0309 raw → Does (.lanePrbs m) s (kcLanePrbs m raw (kcTaken m s0))) ∧
    (∀ (m : Fin 16) (j : Fin 4) (bits : List Bool), s.hubUp → Does (.lanePrbsEnd m j bits) s (prbsJobEnd m j bits s0))

/-- Every command of the Makadom ring completes, with every operand, in every state in which the part of the block it acts in is
out of reset: the answer is the next state in which the command's own effect, the named operation written from its rule, has
been carried out and what it lets go on has gone on. -/
def Obligations.RingCommandsComplete : Prop :=
  ∀ s : State, let s0 := s.alone
    (∀ (l : Fin 2) (f : Frame), s.coreUp →
      Does (.frameHeaderArrival l f) s (if isLinkLocal f then linkLocal l f s0 else headerArrival l f s0)) ∧
    (∀ (l : Fin 2) (blocks : Nat) (term : Fin 256), s.coreUp → Does (.frameEnd l blocks term) s (frameEnd l blocks term s0)) ∧
    (∀ (l : Fin 2) (res : Nat), s.coreUp → Does (.laneArbitrate l res) s (arbitrate l res s0)) ∧
    (∀ (l : Fin 2) (id : Nat), s.coreUp → Does (.staleRemoval l id) s (staleRemove l id s0)) ∧
    (∀ (l : Fin 2) (f : Frame), s.coreUp → Does (.creditUpdate l f) s (creditUpdate l f s0)) ∧
    (∀ (l : Fin 2), s.coreUp → Does (.creditUpdateSend l) s (sendUpdate l s0)) ∧
    (∀ (l : Fin 2) (f : Frame), s.coreUp → Does (.creditAudit l f) s (creditAudit l f s0)) ∧
    (∀ (l : Fin 2), s.coreUp → Does (.creditAuditSend l) s (sendAudit l s0)) ∧
    (∀ (src : Fin 256), s.hubUp → Does (.windowEntryExpire src) s (winExpire src s0)) ∧
    (∀ (srcs : List Nat), s.hubUp → Does (.windowMemoryError srcs) s (winError srcs s0)) ∧
    (∀ (src : Fin 256), s.hubUp → Does (.windowDiscardEnd src) s (winDiscardEnd src s0)) ∧
    (∀ (r : Fin 2) (f : Frame), s.hubUp → Does (.msgFrame r f) s (msgFrame r f s0)) ∧
    (∀ (src : Fin 256) (tag : Fin 1024), s.hubUp → Does (.incomingItemAbandon src tag) s (incAbandon src tag s0)) ∧
    (∀ (q : Fin 1024), s.hubUp → Does (.msgOffer q) s (msgOffer q s0)) ∧
    (∀ (t : Fin 1024), s.hubUp → Does (.msgReoffer t) s (msgReoffer t s0)) ∧
    (s.hubUp → Does .presenceSend s (presenceSend s0)) ∧
    (∀ (r : Fin 2) (f : Frame), s.hubUp → Does (.presenceFrame r f) s (presenceArrives r f s0)) ∧
    (∀ (n : Fin 256) (r : Fin 2), s.hubUp → Does (.ringSeenTimeout n r) s (seenChange n r false s0)) ∧
    (∀ (r : Fin 2), s.hubUp → Does (.ringClosureLoss r) s (closedChange r false s0))

/-- Every command of fabric transactions, PCIe and the SPI target completes, with every operand, in every state in which the part
of the block it acts in is out of reset: the answer is the next state in which the command's own effect, the named operation
written from its rule, has been carried out and what it lets go on has gone on. -/
def Obligations.TransactionCommandsComplete : Prop :=
  ∀ s : State, let s0 := s.alone
    (∀ (bar : Bar) (runs : List (Nat × Nat)), s.hubUp →
      Does (.pcieMemRead bar runs) s (pcieMem bar .rd (runs.map (fun r => (r.1, r.2, []))) s0)) ∧
    (∀ (bar : Bar) (runs : List (Nat × List Byte)), s.hubUp →
      Does (.pcieMemWrite bar runs) s (pcieMem bar .wrP (runs.map (fun r => (r.1, r.2.length, r.2))) s0)) ∧
    (∀ (who : Fin 4), s.hubUp → Does (.requestTagGrant who) s (tagGrant who s0)) ∧
    (∀ (req : Nat) (idx : Nat), s.hubUp → Does (.pcieCompletionAck req idx) s (commitOrg (.pcie req idx) s0)) ∧
    (s.hubUp → Does .pcieLinkDown s (pcieDown s0)) ∧
    (∀ (off : Nat) (data : List Byte) (crc : Byte), s.hubUp →
      Does (.spiWrite off data crc) s (spiWrite 0x02 3 0 off off 64 data crc s0)) ∧
    (∀ (off : Nat) (words : Nat), s.hubUp → Does (.spiRead off words) s (spiRead 0x0B 3 0 off off words s0)) ∧
    (∀ (node : Fin 256) (off : Nat) (data : List Byte) (crc : Byte), s.hubUp →
      Does (.spiFwrite node off data crc) s (spiWrite 0x12 8 node off (node * 2 ^ 56 + off) 62 data crc s0)) ∧
    (∀ (node : Fin 256) (off : Nat) (words : Nat), s.hubUp →
      Does (.spiFread node off words) s (spiRead 0x1B 8 node off (node * 2 ^ 56 + off) words s0)) ∧
    (s.hubUp → Does .spiStatus s (spiStatusRead s0)) ∧
    (∀ (waits clocked : Nat), s.hubUp → Does (.mspiCsRise waits clocked) s (spiCsRise waits clocked s0)) ∧
    (∀ (r : Fin 2) (f : Frame), s.coreUp → Does (.rdRequest r f) s (requestArrives 2 r f s0)) ∧
    (∀ (r : Fin 2) (f : Frame), s.coreUp → Does (.wrNRequest r f) s (requestArrives 1 r f s0)) ∧
    (∀ (r : Fin 2) (f : Frame), s.coreUp → Does (.wrPRequest r f) s (postedArrives r f s0)) ∧
    (∀ (r : Fin 2) (f : Frame), s.hubUp → Does (.completion r f) s (completionArrives r f s0)) ∧
    (∀ (r : Fin 2) (f : Frame), s.hubUp → Does (.ackFrame r f) s (ackArrives r f s0)) ∧
    (∀ (src : Fin 256) (tag : Fin 1024), s.hubUp → Does (.commitWindowExpire src tag) s (commitExpire src tag s0)) ∧
    (∀ (own : Bool) (t : Fin 1024), s.hubUp → Does (.busyRetry own t) s ((if own then ownRetry t else busyRetry t) s0)) ∧
    (∀ (own : Bool) (t : Fin 1024), s.hubUp →
      Does (.completionTimeout own t) s ((if own then ownBusyEnd t else completionTimeout t) s0)) ∧
    (∀ (t : Fin 1024), s.hubUp → Does (.tagQuarantineEnd t) s (tagQuarEnd t s0))

/-- Every command of the inkwell and its queues completes, with every operand, in every state in which the part of the block it
acts in is out of reset: the answer is the next state in which the command's own effect, the named operation written from its
rule, has been carried out and what it lets go on has gone on. -/
def Obligations.InkwellCommandsComplete : Prop :=
  ∀ s : State, let s0 := s.alone
    (s.hubUp → Does .inkApply s (inkCtlWrite 1 s0)) ∧
    (∀ (o : Origin) (p : Fin 64), s.coreUp → Does (.portPeek o p) s (serve o ⟨.rd, portOff p, 8, []⟩ s0)) ∧
    (∀ (o : Origin) (p : Fin 64) (count : Nat), s.coreUp → Does (.portPop o p count) s (serve o ⟨.rd, portOff p, count, []⟩ s0)) ∧
    (∀ (o : Origin) (p : Fin 64) (posted : Bool) (data : List Byte), s.coreUp →
      Does (.portPush o p posted data) s (serve o ⟨writeKind posted, portOff p, data.length, data⟩ s0)) ∧
    (∀ (q : Fin 1024), s.hubUp → Does (.queueMoveRetry q) s (flow ((queue q s0).items.length + 8) q s0)) ∧
    (∀ (q : Fin 1024) (o : Origin), s.hubUp → Does (.stallReadExpire q o) s (stallExpire q o s0)) ∧
    (∀ (q : Fin 1024), s.hubUp → Does (.tailTimerFire q) s (tailFire q s0)) ∧
    (s.hubUp → Does .censusCheck s (census s0))

/-- Every command of the nibs completes, with every operand, in every state in which the part of the block it acts in is out of
reset: the answer is the next state in which the command's own effect, the named operation written from its rule, has been
carried out and what it lets go on has gone on. -/
def Obligations.NibCommandsComplete : Prop :=
  ∀ s : State, let s0 := s.alone
    (∀ (n : Fin 256), s.hubUp → Does (.nibEnable n) s (nibCtlWrite n (withBit (nibReg n 0) 0 s0) 0 [] s0)) ∧
    (∀ (n : Fin 256) (sent : Nat) (got : List Byte), s.hubUp →
      Does (.nibDisable n sent got) s (nibCtlWrite n (sansBit (nibReg n 0) 0 s0) sent got s0)) ∧
    (∀ (n : Fin 256), s.hubUp → Does (.nibTxItemStart n) s (nibTxStart n s0)) ∧
    (∀ (n : Fin 256) (miso : List (BitVec 4)), s.hubUp → Does (.nibTxItemComplete n miso) s (nibTxComplete n miso s0)) ∧
    (∀ (n : Fin 256) (samples : List (BitVec 3)) (mark : Bool) (turn : Bool) (ns : Nat), s.hubUp →
      Does (.uartCharacterReceive n samples mark turn ns) s (uartReceive n samples mark turn ns s0)) ∧
    (∀ (n : Fin 256), s.hubUp → Does (.uartIdleClose n) s (uartIdle n s0)) ∧
    (∀ (n : Fin 256) (mark : Bool) (turn : Bool) (ns : Nat), s.hubUp →
      Does (.uartBreakReceive n mark turn ns) s (uartBreak n mark turn ns s0)) ∧
    (∀ (n : Fin 256) (lvl : Bool) (sent : Nat), s.hubUp → Does (.uartCtsChange n lvl sent) s (uartCts n lvl sent s0)) ∧
    (∀ (n : Fin 256), s.hubUp → Does (.uartDeRelease n) s (uartDeRelease n s0)) ∧
    (∀ (n : Fin 256), s.hubUp → Does (.nibHoldEnd n) s (nibHoldEnd n s0)) ∧
    (∀ (n : Fin 256) (raw : List Bool) (ns : Nat), s.hubUp → Does (.hdlcFrameReceive n raw ns) s (hdlcReceive n raw ns s0)) ∧
    (∀ (n : Fin 256), s.hubUp → Does (.spiTargetCsFall n) s (spiTargetFall n s0)) ∧
    (∀ (n : Fin 256) (edges : List (Bool × Bool)), s.hubUp → Does (.spiTargetCsRise n edges) s (spiTargetRise n edges s0)) ∧
    (∀ (n : Fin 256) (recover : Option Bool) (res : I2cRes), s.hubUp →
      Does (.i2cStart7 n recover res) s (i2cStart7 n recover res s0)) ∧
    (∀ (n : Fin 256) (recover : Option Bool) (res : I2cRes) (sent : Nat), s.hubUp →
      Does (.i2cStart10 n recover res sent) s (i2cStart10 n recover res sent s0)) ∧
    (∀ (n : Fin 256) (acked : Nat) (res : I2cRes), s.hubUp → Does (.i2cWrite n acked res) s (i2cWrite n acked res s0)) ∧
    (∀ (n : Fin 256) (data : List Byte) (lost : Bool), s.hubUp → Does (.i2cRead n data lost) s (i2cRead n data lost s0)) ∧
    (∀ (n : Fin 256), s.hubUp → Does (.i2cStop n) s (i2cStop n s0)) ∧
    (∀ (n : Fin 256), s.hubUp → Does (.i2cPause n) s (i2cPause n s0)) ∧
    (∀ (n : Fin 256) (stuck : Bool), s.hubUp → Does (.i2cStretchTimeout n stuck) s (i2cStretch n stuck s0)) ∧
    (∀ (n : Fin 256) (addr : Nat) (ten : Bool) (read : Bool), s.hubUp →
      Does (.i2cTargetStart n addr ten read) s (i2cTgtStart n addr ten read s0)) ∧
    (∀ (n : Fin 256) (data : List Byte) (sent : Nat) (nack : Bool) (stop : Bool), s.hubUp →
      Does (.i2cTargetStop n data sent nack stop) s (i2cTgtStop n data sent nack stop s0)) ∧
    (∀ (n : Fin 256) (sent : Nat), s.hubUp → Does (.i2cTargetFillTimeout n sent) s (i2cTgtFill n sent s0)) ∧
    (∀ (n : Fin 256) (data : List Byte), s.hubUp → Does (.i2cHoldTimeout n data) s (i2cTgtHold n data s0)) ∧
    (∀ (n : Fin 256) (a : Bool) (b : Bool) (clocks : Nat), s.hubUp →
      Does (.counterEdge n a b clocks) s (ctrEdge n a b clocks s0)) ∧
    (∀ (n : Fin 256) (lvl : Bool), s.hubUp → Does (.counterIndex n lvl) s (ctrIndex n lvl s0)) ∧
    (∀ (n : Fin 256), s.hubUp → Does (.pwmPeriodBoundary n) s (pwmBoundary n s0)) ∧
    (∀ (n : Fin 256), s.hubUp → Does (.oneShotEnd n) s (oneShotEnd n s0)) ∧
    (∀ (n : Fin 256), s.hubUp → Does (.freqWindowEnd n) s (freqWindowEnd n s0)) ∧
    (∀ (g : Fin 16) (mv : Nat), s.hubUp → Does (.bankClassChange g mv) s (bankClassChange g mv s0)) ∧
    (∀ (n : Fin 256) (k : Fin 4), s.hubUp → Does (.outputFight n k) s (outputFight n k s0))

/-- Every command of discrete lines and the stroke completes, with every operand, in every state in which the part of the block it
acts in is out of reset, a Kilco command where its packet has been rung, is served and passes the tests of R441: the answer is
the next state in which the command's own effect, the named operation written from its rule, has been carried out and what it
lets go on has gone on. -/
def Obligations.LineCommandsComplete : Prop :=
  ∀ s : State, let s0 := s.alone
    (∀ (p : Fin 512) (lvl : Bool) (ns : Nat), s.hubUp → Does (.debounceSettle p lvl ns) s (debounceSettle p lvl ns s0)) ∧
    (∀ (p : Fin 512), s.hubUp → Does (.stuckDetect p) s (stuckDetect p s0)) ∧
    (∀ (p : Fin 512), s.hubUp → Does (.discreteShortPulse p) s (shortPulse p s0)) ∧
    (∀ (p : Fin 512), s.hubUp → Does (.chatterWindowEnd p) s (chatterWindowEnd p s0)) ∧
    (∀ (p : Fin 512), s.hubUp → Does (.stormWindowEnd p) s (stormCut p s0)) ∧
    (∀ (p : Fin 512) (det : Bool) (v : Word), s.hubUp →
      Does (.discreteFilterWrite p det v) s ((if det then ddetWrite p v else dfltWrite p v) s0)) ∧
    (∀ (p : Fin 512) (v : Word), s.hubUp → Does (.discreteLimitWrite p v) s (dlimWrite p v s0)) ∧
    (∀ (p : Fin 512), s.hubUp → Does (.discreteOutClaim p) s (doutWrite p (withBit (dReg p 0x0C) 31 s0) s0)) ∧
    (∀ (p : Fin 512), s.hubUp → Does (.discreteOutRelease p) s (doutWrite p (sansBit (dReg p 0x0C) 31 s0) s0)) ∧
    (∀ (p : Fin 512) (v : Bool), s.hubUp → Does (.discreteOutValWrite p v) s (doutWrite p (setBit (rd s0 (dReg p 0x0C)) 0 v) s0)) ∧
    (∀ (p : Fin 512), s.hubUp → Does (.discretePulseEnd p) s (pulseEnd p s0)) ∧
    (∀ (p : Fin 512) (v : Fin 4), s.hubUp →
      Does (.discreteSafeWrite p v) s (doutWrite p (setFld (rd s0 (dReg p 0x0C)) 9 8 v) s0)) ∧
    (s.hubUp → Does .strokeEnable s (stkCtlWrite (withBit stkCtl 0 s0) s0)) ∧
    (s.hubUp → Does .strokeDisable s (stkCtlWrite (sansBit stkCtl 0 s0) s0)) ∧
    (s.hubUp → Does .strokeCommit s (stkCtlWrite (withBit stkCtl 1 s0) s0)) ∧
    (s.hubUp → Does .strokeCutoff s (stkCutoff s0)) ∧
    (∀ (late : Bool), s.hubUp → Does (.strokeInstant late) s (stkInstant late s0)) ∧
    (∀ (r : Fin 2) (f : Frame), s.hubUp → Does (.strokeFrame r f) s (strokeArrives r f s0)) ∧
    (s.hubUp → Does .strokeScheduleSwitch s (stkSwitch s0)) ∧
    (∀ (m : Fin 16) (raw : List Byte), s.hubUp → s0.rung m 0x0405 raw →
      Does (.strokeConfig m) s (kcStrokeConfig m raw (kcTaken m s0)))

/-- Every command of the quills completes, with every operand, in every state in which the part of the block it acts in is out of
reset, a Kilco command where its packet has been rung, is served and passes the tests of R441: the answer is the next state in
which the command's own effect, the named operation written from its rule, has been carried out and what it lets go on has
gone on. -/
def Obligations.QuillCommandsComplete : Prop :=
  ∀ s : State, let s0 := s.alone
    (∀ (q : Fin 64), s.hubUp → Does (.qlEnable q) s (qlCtlWrite q (withBit (qlReg q 0) 0 s0) ⟨false, 0, []⟩ s0)) ∧
    (∀ (q : Fin 64) (c : QlCut), s.hubUp → Does (.qlDisable q c) s (qlCtlWrite q (sansBit (qlReg q 0) 0 s0) c s0)) ∧
    (∀ (q : Fin 64), s.hubUp → Does (.qlCtlSwap q) s (qlCtlWrite q (withBit (qlReg q 0) 4 s0) ⟨false, 0, []⟩ s0)) ∧
    (∀ (q : Fin 64), s.hubUp → Does (.qlSwapTakeEffect q) s (qlSwapEffect q s0)) ∧
    (∀ (q : Fin 64) (c : QlCut), s.hubUp → Does (.qlCtlForce q c) s (qlCtlWrite q (withBit (qlReg q 0) 5 s0) c s0)) ∧
    (∀ (q : Fin 64), s.hubUp → Does (.qlCtlSwcan q) s (qlCtlWrite q (withBit (qlReg q 0) 7 s0) ⟨false, 0, []⟩ s0)) ∧
    (∀ (q : Fin 64), s.hubUp → Does (.qlCtlMark q) s (qlCtlWrite q (withBit (qlReg q 0) 6 s0) ⟨false, 0, []⟩ s0)) ∧
    (∀ (o : Origin) (q : Fin 64) (v : Word), s.coreUp →
      Does (.qlTxWrite o q v) s (serve o ⟨.wrN, qlReg q 0x40, 4, wordBytes v⟩ s0)) ∧
    (∀ (o : Origin) (q : Fin 64), s.coreUp → Does (.qlRxdRead o q) s (serve o ⟨.rd, qlReg q 0x44, 4, []⟩ s0)) ∧
    (∀ (q : Fin 64), s.hubUp → Does (.qlQueueTxFetch q) s (qlFetch q s0)) ∧
    (∀ (q : Fin 64) (lvl : Bool), s.hubUp → Does (.nop q lvl) s (qlRun q 0 lvl [] s0)) ∧
    (∀ (q : Fin 64) (lvl : Bool), s.hubUp → Does (.shout q lvl) s (qlRun q 1 lvl [] s0)) ∧
    (∀ (q : Fin 64) (lvl : Bool) (smp : List Bool), s.hubUp → Does (.shin q lvl smp) s (qlRun q 2 lvl smp s0)) ∧
    (∀ (q : Fin 64) (lvl : Bool) (smp : List Bool), s.hubUp → Does (.shxc q lvl smp) s (qlRun q 3 lvl smp s0)) ∧
    (∀ (q : Fin 64) (lvl : Bool), s.hubUp → Does (.const q lvl) s (qlRun q 4 lvl [] s0)) ∧
    (∀ (q : Fin 64) (lvl : Bool), s.hubUp → Does (.load q lvl) s (qlRun q 5 lvl [] s0)) ∧
    (∀ (q : Fin 64) (lvl : Bool), s.hubUp → Does (.store q lvl) s (qlRun q 6 lvl [] s0)) ∧
    (∀ (q : Fin 64) (lvl : Bool), s.hubUp → Does (.tally q lvl) s (qlRun q 7 lvl [] s0)) ∧
    (∀ (q : Fin 64) (lvl : Bool), s.hubUp → Does (.dir q lvl) s (qlRun q 8 lvl [] s0)) ∧
    (∀ (q : Fin 64) (lvl : Bool), s.hubUp → Does (.idle q lvl) s (qlRun q 9 lvl [] s0)) ∧
    (∀ (q : Fin 64), s.hubUp → Does (.qlIllegalStep q) s (qlIllegal q s0)) ∧
    (∀ (q : Fin 64), s.hubUp → Does (.qlRestart q) s (qlRestart q s0)) ∧
    (∀ (m : Fin 16) (raw : List Byte), s.hubUp → s0.rung m 0x0801 raw → Does (.qlLoad m) s (kcQlLoad m raw (kcTaken m s0))) ∧
    (∀ (m : Fin 16) (c : QlCut) (raw : List Byte), s.hubUp → s0.rung m 0x0802 raw →
      Does (.qlSwap m c) s (kcQlSwap m c raw (kcTaken m s0)))

/-- Every command of the CAN FD controllers completes, with every operand, in every state in which the part of the block it acts
in is out of reset: the answer is the next state in which the command's own effect, the named operation written from its rule,
has been carried out and what it lets go on has gone on. -/
def Obligations.CanCommandsComplete : Prop :=
  ∀ s : State, let s0 := s.alone
    (∀ (k : Fin 16), s.hubUp → Does (.canEnable k) s (canCtlWrite k (withBit (canReg k 0) 0 s0) s0)) ∧
    (∀ (k : Fin 16), s.hubUp → Does (.canDisable k) s (canCtlWrite k (sansBit (canReg k 0) 0 s0) s0)) ∧
    (∀ (k : Fin 16), s.hubUp → Does (.canBusIntegrated k) s (canIntegrated k s0)) ∧
    (∀ (k : Fin 16), s.hubUp → Does (.canSubmissionTake k) s (canTake k s0)) ∧
    (∀ (k : Fin 16), s.hubUp → Does (.canTxAttempt k) s (canAttempt k s0)) ∧
    (∀ (k : Fin 16) (delay : Nat) (ovl : Nat), s.hubUp → Does (.canTxSuccess k delay ovl) s (canSuccess k delay ovl s0)) ∧
    (∀ (k : Fin 16) (sent : Nat) (arb : Bool) (exempt : Bool) (steps : Nat) (delay : Option Nat), s.hubUp →
      Does (.canTxFail k sent arb exempt steps delay) s (canFail k sent arb exempt steps delay s0)) ∧
    (∀ (k : Fin 16) (w : Fin 4) (v : Word), s.hubUp → Does (.canTxcanWrite k w v) s (canTxcan k w v s0)) ∧
    (∀ (k : Fin 16) (w0 : Word) (w1 : Word) (data : List Byte) (sof : DWord) (ovl : Nat), s.hubUp →
      Does (.canFrameReceive k w0 w1 data sof ovl) s (canReceive k w0 w1 data sof ovl s0)) ∧
    (∀ (k : Fin 16), s.hubUp → Does (.canStagingAdmit k) s (canAdmit k s0)) ∧
    (∀ (o : Origin) (k : Fin 16), s.coreUp → Does (.canHpwinRead o k) s (serve o ⟨.rd, canReg k 0x140, 80, []⟩ s0)) ∧
    (∀ (k : Fin 16), s.hubUp → Does (.canBusoffRecover k) s (canRecover k s0)) ∧
    (∀ (k : Fin 16) (tx : Bool) (steps : Nat), s.hubUp → Does (.canStuckDominant k tx steps) s (canStuck k tx steps s0)) ∧
    (∀ (k : Fin 16), s.hubUp → Does (.canCtlFallback k) s (canCtlWrite k (withBit (canReg k 0) 5 s0) s0)) ∧
    (∀ (k : Fin 16), s.hubUp → Does (.canWatchdogExpire k) s (canWatchdog k s0)) ∧
    (∀ (k : Fin 16) (o : Origin), s.hubUp → Does (.canWatchdogKick k o) s (canWdogWrite k o (withBit (canReg k 0x30) 29 s0) s0)) ∧
    (∀ (k : Fin 16), s.hubUp → Does (.canCtlFbleave k) s (canCtlWrite k (withBit (canReg k 0) 6 s0) s0)) ∧
    (∀ (k : Fin 16) (c : Fin 8) (n : Fin 8), s.hubUp → Does (.canFbSlotStart k c n) s (canSlotStart k c n s0)) ∧
    (∀ (k : Fin 16) (c : Fin 8) (n : Fin 8), s.hubUp → Does (.canFbSlotLate k c n) s (canSlotLate k c n s0)) ∧
    (s.hubUp → Does .canclkLoss s (canClkLoss s0)) ∧
    (∀ (mhz : Nat), s.hubUp → Does (.canclkRecover mhz) s (canClkBack mhz s0)) ∧
    (∀ (k : Fin 16) (pxe : Bool) (steps : Nat), s.hubUp → Does (.canReceiveError k pxe steps) s (canRxError k pxe steps s0))

/-- Every command of the parallel backplane bridge completes, with every operand, in every state in which the part of the block it
acts in is out of reset: the answer is the next state in which the command's own effect, the named operation written from its
rule, has been carried out and what it lets go on has gone on. -/
def Obligations.BridgeCommandsComplete : Prop :=
  ∀ s : State, let s0 := s.alone
    (s.hubUp → Does .pbpEnable s (pbpCtlWrite (withBit pbpCtl 0 s0) s0)) ∧
    (s.hubUp → Does .pbpDisable s (pbpCtlWrite (sansBit pbpCtl 0 s0) s0)) ∧
    (∀ (inb : Bool) (w : Fin 16), s.hubUp →
      Does (.windowEnable inb w) s (if inb && 8 ≤ w.val then s0 else winCtlWrite inb w 1 s0)) ∧
    (∀ (inb : Bool) (w : Fin 16), s.hubUp →
      Does (.windowDisable inb w) s (if inb && 8 ≤ w.val then s0 else winCtlWrite inb w 0 s0)) ∧
    (s.hubUp → Does .pbpOutboundCycleStart s (pbpCycleStart s0)) ∧
    (s.hubUp → Does .pbpBusGrant s (pbpBusGrant s0)) ∧
    (∀ (j : Nat), s.hubUp → Does (.pbpArbTimeout j) s (pbpArbTimeout j s0)) ∧
    (∀ (lanes : Word), s.hubUp → Does (.pbpCycleAck lanes) s (pbpCycleAck lanes s0)) ∧
    (s.hubUp → Does .pbpCycleError s (pbpCycleFail .fe s0)) ∧
    (s.hubUp → Does .pbpBusTimeout s (pbpCycleFail .ft s0)) ∧
    (s.hubUp → Does .pbpCycleRetry s (pbpCycleRetry s0)) ∧
    (∀ (j : Nat), s.hubUp → Does (.pbpRequestLimit j) s (pbpRequestLimit j s0)) ∧
    (∀ (w : Fin 16), s.hubUp → Does (.pbpPrefetchAge w) s (pbpPrefetchAge w s0)) ∧
    (∀ (addr : Nat) (am : Fin 64) (width : Nat) (write : Bool) (lanes : Word), s.hubUp →
      Does (.pbpInboundDecode addr am width write lanes) s (pbpInbound addr am width write lanes s0)) ∧
    (s.hubUp → Does .pbpPostedAdmit s (postHeld s0)) ∧
    (s.hubUp → Does .pbpHoldLimitExpire s (pbpHoldEnd s0)) ∧
    (s.hubUp → Does .wireLevelChange s (wireChange s0)) ∧
    (s.hubUp → Does .wireRefresh s (wireSend s0)) ∧
    (∀ (r : Fin 2) (f : Frame), s.hubUp → Does (.wireFrame r f) s (wireFrame r f s0)) ∧
    (s.hubUp → Does .wireLost s (wireLost s0))

/-- Every command of the time bases completes, with every operand, in every state in which the part of the block it acts in is out
of reset, a Kilco command where its packet has been rung, is served and passes the tests of R441: the answer is the next state
in which the command's own effect, the named operation written from its rule, has been carried out and what it lets go on has
gone on. -/
def Obligations.TimeCommandsComplete : Prop :=
  ∀ s : State, let s0 := s.alone
    (∀ (n : Fin 4) (v : Word), s.hubUp → Does (.tbStepApply n v) s (tbStepWrite n v s0)) ∧
    (∀ (n : Fin 4) (v : Word), s.hubUp → Does (.tbRateWrite n v) s (tbRateWrite n v s0)) ∧
    (∀ (n : Fin 4) (v : Word), s.hubUp → Does (.tbBctlWrite n v) s (tbBctlWrite n v s0)) ∧
    (∀ (n : Fin 4), s.hubUp → Does (.tbLoRead n) s (tbLoRead n s0)) ∧
    (s.hubUp → Does .tbEnable s (tbCtlWrite (withBit tbCtl 0 s0) s0)) ∧
    (s.hubUp → Does .tbDisable s (tbCtlWrite (sansBit tbCtl 0 s0) s0)) ∧
    (s.hubUp → Does .syncSend s (syncSend (rd s0 (roleEpoch 1)) s0)) ∧
    (∀ (r : Fin 2) (f : Frame) (stamp : DWord), s.hubUp → Does (.syncFrame r f stamp) s (syncArrives r f stamp s0)) ∧
    (∀ (no : Nat), s.hubUp → Does (.syncPairTimeout no) s (syncAlone no s0)) ∧
    (s.hubUp → Does .holdoverTimeout s (holdoverTimeout s0)) ∧
    (s.hubUp → Does .stbyCounterRefresh s (stbyRefresh s0)) ∧
    (∀ (m : Fin 16) (raw : List Byte), s.hubUp → s0.rung m 0x0401 raw → Does (.timeGet m) s (kcTimeGet m raw (kcTaken m s0))) ∧
    (∀ (m : Fin 16) (raw : List Byte), s.hubUp → s0.rung m 0x0402 raw → Does (.timeStep m) s (kcTimeStep m raw (kcTaken m s0))) ∧
    (∀ (m : Fin 16) (raw : List Byte), s.hubUp → s0.rung m 0x0403 raw →
      Does (.timeRestepAllow m) s (kcRestepAllow m raw (kcTaken m s0))) ∧
    (∀ (m : Fin 16) (raw : List Byte), s.hubUp → s0.rung m 0x0404 raw → Does (.tbConfig m) s (kcTbConfig m raw (kcTaken m s0)))

/-- Every command of mailboxes, sessions and jobs completes, with every operand, in every state in which the part of the block it
acts in is out of reset, a Kilco command where its packet has been rung, is served and passes the tests of R441: the answer is
the next state in which the command's own effect, the named operation written from its rule, has been carried out and what it
lets go on has gone on. -/
def Obligations.MailboxCommandsComplete : Prop :=
  ∀ s : State, let s0 := s.alone
    (∀ (m : Fin 16) (o : Origin), s.hubUp → Does (.kcDoorbell m o) s (kcDoorbell m o 1 s0)) ∧
    (∀ (m : Fin 16) (o : Origin), s.hubUp → Does (.kcCtlClose m o) s (kcCtlWrite m o 1 s0)) ∧
    (∀ (m : Fin 16), s.hubUp → Does (.kcSessionExpire m) s (kcExpire m s0)) ∧
    (∀ (m : Fin 17) (j : Nat) (last : Bool) (ok : Bool), s.hubUp → Does (.jobStep m j last ok) s (jobStep m j last ok s0)) ∧
    (∀ (m : Fin 17) (j : Nat), s.hubUp → Does (.jobOutcomeExpire m j) s (jobExpire m j s0)) ∧
    (∀ (m : Fin 17) (j : Nat), s.hubUp → Does (.jobLowSupplyResume m j) s (jobResume m j s0)) ∧
    (∀ (m : Fin 16) (raw : List Byte), s.hubUp → s0.rung m 0x0001 raw → Does (.hello m) s (kcHello m raw (kcTaken m s0))) ∧
    (∀ (m : Fin 16) (raw : List Byte), s.hubUp → s0.rung m 0x0002 raw → Does (.goodbye m) s (kcGoodbye m (kcTaken m s0))) ∧
    (∀ (m : Fin 16) (raw : List Byte), s.hubUp → s0.rung m 0x0003 raw → Does (.getIdentity m) s (kcIdentity m (kcTaken m s0))) ∧
    (∀ (m : Fin 16) (raw : List Byte), s.hubUp → s0.rung m 0x0004 raw → Does (.getCaps m) s (kcCaps m (kcTaken m s0))) ∧
    (∀ (m : Fin 16) (raw : List Byte), s.hubUp → s0.rung m 0x0005 raw → Does (.jobStatus m) s (jobStatus m raw (kcTaken m s0))) ∧
    (∀ (m : Fin 16) (raw : List Byte), s.hubUp → s0.rung m 0x0006 raw → Does (.jobCancel m) s (kcJobCancel m raw (kcTaken m s0))) ∧
    (∀ (m : Fin 16) (raw : List Byte), s.hubUp → s0.rung m 0x0101 raw → Does (.cfgRead m) s (kcCfgRead m raw (kcTaken m s0))) ∧
    (∀ (m : Fin 16) (raw : List Byte), s.hubUp → s0.rung m 0x0102 raw → Does (.cfgWrite m) s (kcCfgWrite m raw (kcTaken m s0))) ∧
    (∀ (m : Fin 16) (raw : List Byte), s.hubUp → s0.rung m 0x0103 raw → Does (.cfgEnable m) s (kcCfgEnable m raw (kcTaken m s0))) ∧
    (∀ (m : Fin 16) (raw : List Byte), s.hubUp → s0.rung m 0x0106 raw → Does (.cfgCheck m) s (kcCfgCheck m raw (kcTaken m s0))) ∧
    (∀ (m : Fin 16) (last : Bool) (ok : Bool) (raw : List Byte), s.hubUp → s0.rung m 0x0104 raw →
      Does (.cfgSave m last ok) s (kcCfgSave m last ok raw (kcTaken m s0))) ∧
    (∀ (m : Fin 16) (raw : List Byte), s.hubUp → s0.rung m 0x0105 raw →
      Does (.cfgRestore m) s (kcCfgRestore m raw (kcTaken m s0))) ∧
    (∀ (m : Fin 16), s.hubUp → Does (.badOpcode m) s (kcBadOpcode m s0))

/-- Every command of start-up, firmware and stored configuration completes, with every operand, in every state in which the part
of the block it acts in is out of reset, a Kilco command where its packet has been rung, is served and passes the tests of
R441: the answer is the next state in which the command's own effect, the named operation written from its rule, has been
carried out and what it lets go on has gone on. -/
def Obligations.BootCommandsComplete : Prop :=
  ∀ s : State, let s0 := s.alone
    (∀ (m : Fin 16) (raw : List Byte), s.hubUp → s0.rung m 0x0201 raw → Does (.fwBegin m) s (fwBegin m raw (kcTaken m s0))) ∧
    (∀ (m : Fin 16) (raw : List Byte), s.hubUp → s0.rung m 0x0202 raw → Does (.fwChunk m) s (fwChunk m raw (kcTaken m s0))) ∧
    (∀ (m : Fin 16) (last : Bool) (raw : List Byte), s.hubUp → s0.rung m 0x0203 raw →
      Does (.fwVerify m last) s (kcFwVerify m last raw (kcTaken m s0))) ∧
    (∀ (m : Fin 16) (raw : List Byte), s.hubUp → s0.rung m 0x0204 raw →
      Does (.fwActivate m) s (kcFwActivate m raw (kcTaken m s0))) ∧
    (∀ (m : Fin 16) (raw : List Byte), s.hubUp → s0.rung m 0x0205 raw → Does (.fwSlotInfo m) s (fwSlotInfo m raw (kcTaken m s0))) ∧
    (∀ (m : Fin 16) (raw : List Byte), s.hubUp → s0.rung m 0x0206 raw → Does (.nvCounters m) s (nvCounters m (kcTaken m s0))) ∧
    (s.hubUp → Does .firmwareStart s (firmwareStart s0)) ∧
    (s.hubUp → Does .bootConfirm s (bootConfirm s0)) ∧
    (s.hubUp → Does .hoursPersist s (hoursPersist s0))

/-- Every command of the fault collector, the blotter and the monitors completes, with every operand, in every state in which the
part of the block it acts in is out of reset, a Kilco command where its packet has been rung, is served and passes the tests
of R441: the answer is the next state in which the command's own effect, the named operation written from its rule, has been
carried out and what it lets go on has gone on. -/
def Obligations.FaultCommandsComplete : Prop :=
  ∀ s : State, let s0 := s.alone
    (∀ (m : Fin 16) (raw : List Byte), s.hubUp → s0.rung m 0x0301 raw → Does (.bltFreeze m) s (kcBltFreeze m (kcTaken m s0))) ∧
    (∀ (m : Fin 16) (raw : List Byte), s.hubUp → s0.rung m 0x0302 raw → Does (.bltRead m) s (kcBltRead m raw (kcTaken m s0))) ∧
    (∀ (m : Fin 16) (raw : List Byte), s.hubUp → s0.rung m 0x0303 raw → Does (.bltThaw m) s (kcBltThaw m (kcTaken m s0))) ∧
    (∀ (m : Fin 16) (raw : List Byte), s.hubUp → s0.rung m 0x0304 raw → Does (.bltClear m) s (kcBltClear m (kcTaken m s0))) ∧
    (∀ (m : Fin 16) (raw : List Byte), s.hubUp → s0.rung m 0x0305 raw → Does (.monArm m) s (kcMonArm m raw (kcTaken m s0))) ∧
    (∀ (m : Fin 16) (raw : List Byte), s.hubUp → s0.rung m 0x0306 raw → Does (.monRead m) s (kcMonRead m raw (kcTaken m s0))) ∧
    (∀ (m : Fin 16) (raw : List Byte), s.hubUp → s0.rung m 0x0307 raw → Does (.fltRead m) s (kcFltRead m (kcTaken m s0))) ∧
    (∀ (m : Fin 16) (raw : List Byte), s.hubUp → s0.rung m 0x0308 raw → Does (.fltClear m) s (kcFltClear m raw (kcTaken m s0))) ∧
    (∀ (src : Fin 256) (info : Word) (corrected : Bool) (q : Fin 1024) (item cell : Nat), s.hubUp →
      Does (.memoryUncorrectable src info corrected q item cell) s (memoryError src info corrected q item cell s0)) ∧
    (s.hubUp → Does .fltStatusValidWrite s (fltStatusWrite 0x80000000 s0)) ∧
    (s.hubUp → Does .fltCtlSafeExit s (fltCtlWrite (withBit fltCtl 1 s0) s0)) ∧
    (∀ (v : Word), s.hubUp → Does (.fltUnquarWrite v) s (unquarWrite v s0)) ∧
    (∀ (v : Word), s.hubUp → Does (.fltInjWrite v) s (fltInject v s0)) ∧
    (∀ (k : Bool) (at_ : Word), s.hubUp → Does (.lockstepMismatch k at_) s (lockstep k at_ s0)) ∧
    (∀ (k : Bool), s.hubUp → Does (.coreWatchdogExpire k) s (coreWatchdog k s0)) ∧
    (∀ (p : Fin 4), s.hubUp → Does (.pllLockLoss p) s (pllLoss p s0)) ∧
    (∀ (t : Int), s.hubUp → Does (.logicTempLimit t) s (tempLimit t s0)) ∧
    (s.hubUp → Does .bltCtlFreeze s (bltFreeze true s0)) ∧
    (s.hubUp → Does .bltCtlThaw s (bltFreeze false s0)) ∧
    (s.hubUp → Does .bltClrWrite s (bltClrWrite 1 s0)) ∧
    (∀ (m : Fin 16) (v : Int), s.hubUp → Does (.monSample m v) s (monSample m v s0)) ∧
    (∀ (m : Fin 16), s.hubUp → Does (.monCtlArm m) s (monCtlWrite m 0x80000000 s0)) ∧
    (∀ (m : Fin 16), s.hubUp → Does (.monCtlStop m) s (monCtlWrite m 0x40000000 s0))

/-- Every command of ring roles and leases completes, with every operand, in every state in which the part of the block it acts in
is out of reset, a Kilco command where its packet has been rung, is served and passes the tests of R441: the answer is the
next state in which the command's own effect, the named operation written from its rule, has been carried out and what it lets
go on has gone on. -/
def Obligations.RoleCommandsComplete : Prop :=
  ∀ s : State, let s0 := s.alone
    (∀ (r : Fin 2), s.hubUp → Does (.heartbeatSend r) s (heartbeatSend r s0)) ∧
    (∀ (r : Fin 2) (f : Frame), s.hubUp → Does (.heartbeat r f) s (heartbeat r f s0)) ∧
    (∀ (r : Fin 2) (f : Frame), s.hubUp → Does (.authAck r f) s (authAck r f s0)) ∧
    (∀ (r : Fin 2), s.hubUp → Does (.authorityLeaseExpire r) s (authExpire r s0)) ∧
    (∀ (r : Fin 2), s.hubUp → Does (.lapsedEnd r) s (lapsedEnd r s0)) ∧
    (∀ (r : Fin 2), s.hubUp → Does (.heartbeatSilence r) s (heartbeatSilence r s0)) ∧
    (∀ (r : Fin 2) (f : Frame), s.hubUp → Does (.takeReq r f) s (takeReq r f s0)) ∧
    (∀ (r : Fin 2) (f : Frame), s.hubUp → Does (.takeAns r f) s (takeAns r f s0)) ∧
    (∀ (r : Fin 2), s.hubUp → Does (.noHolderTimeout r) s (noHolder r s0)) ∧
    (∀ (r : Fin 2), s.hubUp → Does (.witnessHostTimeout r) s (hostTimeout r s0)) ∧
    (∀ (r : Fin 2) (f : Frame), s.hubUp → Does (.appoint r f) s (appoint r f s0)) ∧
    (∀ (r : Fin 2) (f : Frame), s.hubUp → Does (.table r f) s (table r f s0)) ∧
    (∀ (r : Fin 2), s.hubUp → Does (.standbyPassOver r) s (passOver r s0)) ∧
    (s.hubUp → Does .standbyAckTimeout s (standbyAckTimeout s0)) ∧
    (∀ (r : Fin 2) (f : Frame), s.hubUp → Does (.swapReq r f) s (swapReq r f s0)) ∧
    (∀ (r : Fin 2), s.hubUp → Does (.roleSwapTimeout r) s (swapTimeout r s0)) ∧
    (s.hubUp → Does .censusRptSend s (censusSend s0)) ∧
    (∀ (r : Fin 2) (f : Frame), s.hubUp → Does (.censusRpt r f) s (censusRpt r f s0)) ∧
    (∀ (n : Fin 256), s.hubUp → Does (.nodeAbsent n) s (nodeAbsent n s0)) ∧
    (s.hubUp → Does .sizeSetSend s (sizeSetSend s0)) ∧
    (∀ (r : Fin 2) (f : Frame), s.hubUp → Does (.sizeSet r f) s (sizeSet r f s0)) ∧
    (∀ (r : Fin 2) (f : Frame), s.hubUp → Does (.leaseOpAcquire r f) s (leaseOp 1 r f s0)) ∧
    (∀ (r : Fin 2) (f : Frame), s.hubUp → Does (.leaseOpRenew r f) s (leaseOp 2 r f s0)) ∧
    (∀ (r : Fin 2) (f : Frame), s.hubUp → Does (.leaseOpRelease r f) s (leaseOp 3 r f s0)) ∧
    (∀ (r : Fin 2) (f : Frame), s.hubUp → Does (.leaseOpGrant r f) s (leaseOp 4 r f s0)) ∧
    (∀ (r : Fin 2) (f : Frame), s.hubUp → Does (.leaseOpRefuse r f) s (leaseOp 5 r f s0)) ∧
    (∀ (res : Word), s.hubUp → Does (.leaseExpire res) s (leaseExpire res s0)) ∧
    (∀ (m : Fin 16), s.hubUp → Does (.leaseRequestRepeat m) s (leaseRepeat m s0)) ∧
    (∀ (m : Fin 16), s.hubUp → Does (.leaseAnswerTimeout m) s (leaseTimeout m s0)) ∧
    (∀ (m : Fin 16) (raw : List Byte), s.hubUp → s0.rung m 0x0501 raw →
      Does (.roleSetConfig m) s (roleSetConfig m raw (kcTaken m s0))) ∧
    (∀ (m : Fin 16) (raw : List Byte), s.hubUp → s0.rung m 0x0501 raw →
      Does (.roleSetGrant m) s (roleSetHost m 2 raw (kcTaken m s0))) ∧
    (∀ (m : Fin 16) (raw : List Byte), s.hubUp → s0.rung m 0x0501 raw →
      Does (.roleSetDeny m) s (roleSetHost m 3 raw (kcTaken m s0))) ∧
    (∀ (m : Fin 16) (raw : List Byte), s.hubUp → s0.rung m 0x0502 raw →
      Does (.roleSwap m) s (kcRoleSwapFirst m raw (kcTaken m s0))) ∧
    (∀ (m : Fin 16) (raw : List Byte), s.hubUp → s0.rung m 0x0503 raw →
      Does (.leaseAcquire m) s (kcLease m 1 raw (kcTaken m s0))) ∧
    (∀ (m : Fin 16) (raw : List Byte), s.hubUp → s0.rung m 0x0504 raw → Does (.leaseRenew m) s (kcLease m 2 raw (kcTaken m s0))) ∧
    (∀ (m : Fin 16) (raw : List Byte), s.hubUp → s0.rung m 0x0505 raw →
      Does (.leaseRelease m) s (kcLease m 3 raw (kcTaken m s0))) ∧
    (∀ (m : Fin 16) (raw : List Byte), s.hubUp → s0.rung m 0x0506 raw →
      Does (.censusRead m) s (kcCensusRead m raw (kcTaken m s0)))

/-- Every command of the keyed check engine completes, with every operand, in every state in which the part of the block it acts
in is out of reset, a Kilco command where its packet has been rung, is served and passes the tests of R441: the answer is the
next state in which the command's own effect, the named operation written from its rule, has been carried out and what it lets
go on has gone on. -/
def Obligations.KeyCommandsComplete : Prop :=
  ∀ s : State, let s0 := s.alone
    (∀ (o : Origin) (p : Fin 16), s.hubUp →
      Does (.cphPageEnable o p) s (pageWrite o p (cphCtlWrite p (withBit (cphReg p 0) 0 s0) (holderWord o s0)) s0)) ∧
    (∀ (o : Origin) (p : Fin 16), s.hubUp →
      Does (.cphPageDisable o p) s (pageWrite o p (cphCtlWrite p (sansBit (cphReg p 0) 0 s0) (holderWord o s0)) s0)) ∧
    (∀ (o : Origin) (p : Fin 16) (k : Fin 32) (ksize : Fin 4) (persist : Bool) (nvOk : Bool), s.hubUp →
      Does (.cphCmdLoad o p k ksize persist nvOk) s (pageWrite o p (cphCmd p (cmdLoadWord k ksize persist) nvOk (holderWord o s0)) s0)) ∧
    (∀ (o : Origin) (p : Fin 16) (k : Fin 32), s.hubUp →
      Does (.cphCmdErase o p k) s (pageWrite o p (cphCmd p (cmdEraseWord k) true (holderWord o s0)) s0)) ∧
    (s.hubUp → Does .cphJobStart s (cphJobStart s0)) ∧
    (s.hubUp → Does .cphJobEnd s (cphJobEnd s0)) ∧
    (∀ (p : Fin 16), s.hubUp → Does (.cphResultAdmit p) s (cphAdmit p s0)) ∧
    (∀ (o : Origin) (p : Fin 16) (data : List Byte), s.coreUp →
      Does (.cphDinWrite o p data) s (serve o ⟨.wrN, cphReg p 0x400, data.length, data⟩ s0)) ∧
    (∀ (k : Fin 32) (ok : Bool), s.hubUp → Does (.cphCounterPersist k ok) s (ctrPersist k ok s0)) ∧
    (∀ (m : Fin 16) (nvOk : Bool) (raw : List Byte), s.hubUp → s0.rung m 0x0701 raw →
      Does (.keyLoad m nvOk) s (kcKeyLoad m nvOk raw (kcTaken m s0))) ∧
    (∀ (m : Fin 16) (raw : List Byte), s.hubUp → s0.rung m 0x0702 raw → Does (.keyErase m) s (kcKeyErase m raw (kcTaken m s0))) ∧
    (∀ (m : Fin 16) (raw : List Byte), s.hubUp → s0.rung m 0x0703 raw → Does (.macGen m) s (kcMacGen m raw (kcTaken m s0))) ∧
    (∀ (m : Fin 16) (raw : List Byte), s.hubUp → s0.rung m 0x0704 raw → Does (.macVerify m) s (kcMacVerify m raw (kcTaken m s0)))

/-- Every command of the companion, the feeds and the slots completes, with every operand, in every state in which the part of the
block it acts in is out of reset, a Kilco command where its packet has been rung, is served and passes the tests of R441: the
answer is the next state in which the command's own effect, the named operation written from its rule, has been carried out
and what it lets go on has gone on. -/
def Obligations.PowerCommandsComplete : Prop :=
  ∀ s : State, let s0 := s.alone
    (∀ (t : TickIn), s.hub.cprst = false → Does (.companionTick t) s (compTick t s0)) ∧
    (∀ (x : Fin 2), s.hub.cprst = false → Does (.feedGood x) s (feedBecomesGood x s0)) ∧
    (∀ (x : Fin 2), s.hub.cprst = false → Does (.feedLost x) s (feedLost x s0)) ∧
    (∀ (x : Fin 2) (vin : Nat), s.hub.cprst = false → Does (.feedOvervoltage x vin) s (feedOvervolt x vin s0)) ∧
    (∀ (x : Fin 2), s.hub.cprst = false → Does (.feedReverseCurrent x) s (feedReverse x s0)) ∧
    (∀ (x : Fin 2), s.hub.cprst = false → Does (.feedReverseRecover x) s (feedReverseEnd x s0)) ∧
    (∀ (share : Nat), s.hub.cprst = false → Does (.feedImbalance share) s (feedImbalance share s0)) ∧
    (s.hub.cprst = false → Does .infailEnter s (infailEnter s0)) ∧
    (s.hub.cprst = false → Does .infailEnd s (infailEnd s0)) ∧
    (∀ (x : Fin 2), s.hubUp → Does (.feedEnable x) s (atComp (fun s => feedCtlWrite x (crd s (feedReg x 0) ||| 1#32) s) s0)) ∧
    (∀ (x : Fin 2), s.hubUp → Does (.feedDisable x) s (atComp (fun s => feedCtlWrite x (crd s (feedReg x 0) &&& ~~~1#32) s) s0)) ∧
    (∀ (n : Fin 8), s.hubUp → Does (.slotEnable n) s (atComp (slotEnable n) s0)) ∧
    (∀ (n : Fin 8), s.hubUp → Does (.slotDisable n) s (atComp (slotDisable n) s0)) ∧
    (∀ (n : Fin 8), s.hubUp → Does (.slotOnWrite n) s (atComp (slotOnWrite n) s0)) ∧
    (∀ (n : Fin 8), s.hubUp → Does (.slotOffWrite n) s (atComp (fun s => if slotOn n s then slotOffWrite n s else s) s0)) ∧
    (∀ (n : Fin 8), s.hubUp → Does (.slotCtlRetry n) s (atComp (slotRetry n) s0)) ∧
    (∀ (n : Fin 8), s.hub.cprst = false → Does (.slotInsertionDelayEnd n) s (insertEnd n s0)) ∧
    (∀ (n : Fin 8), s.hub.cprst = false → Does (.slotFastTrip n) s (fastTrip n s0)) ∧
    (∀ (n : Fin 8), s.hub.cprst = false → Does (.slotStartTimerExpire n) s (startExpire n s0)) ∧
    (∀ (n : Fin 8), s.hub.cprst = false → Does (.slotFaultTimerExpire n) s (faultExpire n s0)) ∧
    (∀ (n : Fin 8), s.hub.cprst = false → Does (.slotCooldownEnd n) s (coolEnd n s0)) ∧
    (∀ (n : Fin 8), s.hub.cprst = false → Does (.slotLeadEnd n) s (leadEnd n s0)) ∧
    (∀ (n : Fin 8), s.hub.cprst = false → Does (.slotWarnRelease n) s (warnRelease n s0)) ∧
    (∀ (n : Fin 8), s.hub.cprst = false → Does (.slotPgUndervoltage n) s (pgUnder n s0)) ∧
    (∀ (n : Fin 8), s.hub.cprst = false → Does (.slotRetriesClear n) s (retriesClear n s0)) ∧
    (∀ (n : Fin 8), s.hub.cprst = false → Does (.slotBusOvervoltage n) s (busOver n s0)) ∧
    (∀ (t : Int), s.hub.cprst = false → Does (.companionThermalShutdown t) s (thermalShut t s0)) ∧
    (s.hub.cprst = false → Does .companionThermalRecover s (thermalEnd s0)) ∧
    (∀ (t : Int), s.hub.cprst = false → Does (.companionTempWarning t) s (tempWarn t s0)) ∧
    (∀ (causes : Fin 8), s.coreUp → Does (.nvInhibitEnter causes) s (nvEnter causes s0)) ∧
    (s.coreUp → Does .nvInhibitEnd s (nvEnd s0)) ∧
    (s.hub.cprst = false → Does .cseqOutputAssert s (seqAssert s0)) ∧
    (s.hub.cprst = false → Does .cseqTimeout s (seqTimeout s0)) ∧
    (s.hub.cprst = false → Does .cseqRetry s (seqRetry s0)) ∧
    (s.hub.cprst = false → Does .cseqShutdown s (seqShut s0)) ∧
    (∀ (k : Fin 4), s.hub.cprst = false → Does (.cseqPgFall k) s (seqPgFall k s0)) ∧
    (∀ (v : Word), s.hubUp → Does (.pwrStbySetHiWrite v) s (stbySetHi v s0)) ∧
    (s.hubUp → Does .pwrStbyCntLoRead s ((stbyReadLo s0).2)) ∧
    (s.hubUp → Does .loadShed s (loadShed s0)) ∧
    (∀ (m : Fin 16) (raw : List Byte), s.hubUp → s0.rung m 0x0601 raw → Does (.feedStatus m) s (kcFeedStatus m (kcTaken m s0))) ∧
    (∀ (m : Fin 16) (raw : List Byte), s.hubUp → s0.rung m 0x0602 raw → Does (.slotOn m) s (kcSlotCmd m 2 raw (kcTaken m s0))) ∧
    (∀ (m : Fin 16) (raw : List Byte), s.hubUp → s0.rung m 0x0603 raw → Does (.slotOff m) s (kcSlotCmd m 3 raw (kcTaken m s0))) ∧
    (∀ (m : Fin 16) (raw : List Byte), s.hubUp → s0.rung m 0x0604 raw → Does (.slotRetry m) s (kcSlotCmd m 4 raw (kcTaken m s0))) ∧
    (Does .companionResetEnd s (compResetEnd s0))

/-- A REGISTER_WRITE by pair M completes OK, and stores by the register's access type: RW (HUB_NROUTE) takes the written bits that
are not reserved, W1C (LANE_EVT) clears the bits written 1, RWL (XB_PIN) takes the value while the pin has no owner and has no
effect otherwise, RO (HUB_ID) keeps its value. No other register changes. A write that meets the error on the local
interconnect that FS7 reports completes POISON, has no effect, and is the only one to do so. -/
def Obligations.RegisterWritesFollowAccessType : Prop :=
  ∀ (s : State) (v : Word), s.hubUp → pendOf .pairM s = none →
    let told (st : Status) (u : State) : Prop := u.tx.core = s.tx.core ++ [(.pairM, st, [])] ∧ u.hub.icBad = false
    (s.hub.icBad = false →
      (∀ g, g < 32 → Ends (.registerWrite .pairM (0x80 + 4 * g) v) s (fun u => told .ok u ∧ RegsKeep [0x80 + 4 * g] s u ∧
        rd u (0x80 + 4 * g) = (rd s (0x80 + 4 * g) &&& ~~~0x1F#32) ||| (v &&& 0x1F#32))) ∧
      (∀ l : Fin 2, Ends (.registerWrite .pairM (laneReg l 0x008) v) s (fun u => told .ok u ∧ RegsKeep [laneReg l 0x008] s u ∧
        rd u (laneReg l 0x008) = rd s (laneReg l 0x008) &&& ~~~(v &&& 0x3F#32))) ∧
      (∀ p, p < 512 → owner p s = 0 → Ends (.registerWrite .pairM (xbPin p) v) s (fun u => told .ok u ∧ RegsKeep [xbPin p] s u ∧
        rd u (xbPin p) = (rd s (xbPin p) &&& ~~~0x3F#32) ||| (v &&& 0x3F#32))) ∧
      (∀ p, p < 512 → owner p s ≠ 0 → Ends (.registerWrite .pairM (xbPin p) v) s (fun u => told .ok u ∧ RegsKeep [] s u)) ∧
      Ends (.registerWrite .pairM 0 v) s (fun u => told .ok u ∧ RegsKeep [] s u)) ∧
    (s.hub.icBad = true → ∀ k, Ends (.registerWrite .pairM k v) s (fun u => told .poison u ∧ RegsKeep [] s u))

/-- A read of a hub counter (RC) by pair M returns the count and leaves the counter at 0, its read committed at delivery; a read
by the SPI target returns the count, holds it pending and leaves the counter unreduced until the answer has been shifted out.
While a read of the counter is pending, a further one is held, and nothing is returned. -/
def Obligations.CounterReadsCommit : Prop :=
  ∀ (s : State) (i : Nat), s.hubUp → s.hub.icBad = false → i < 11 →
    let k := 0x140 + 4 * i
    (readHeld [k] s = false → pendOf .pairM s = none → Ends (.commitOnDeliveryRead .pairM k 4) s (fun u =>
      u.tx.core = s.tx.core ++ [(.pairM, .ok, wordBytes (rd s k))] ∧ rd u k = 0#32 ∧ RegsKeep [k] s u)) ∧
    (readHeld [k] s = false → pendOf .spi s = none → Ends (.commitOnDeliveryRead .spi k 4) s (fun u =>
      pendOf .spi u = some ⟨.spi, [.count k (rd s k).toNat]⟩ ∧ RegsKeep [] s u)) ∧
    (readHeld [k] s = true → Ends (.commitOnDeliveryRead .pairM k 4) s (fun u =>
      u = { s.alone with tx := { s.tx with held := s.tx.held ++ [(.pairM, ⟨.rd, k, 4, []⟩)] } }))

/-- LOGIC_POWER_ON_RESET puts every register of the logic die at its reset value, but the ones that show a sensed level (log entry
1), the slot states of MRAM and the two registers of the standby domain, and every unit of it at its reset state; the
companion's state, the key slots, the image slots, the boot record, the journal and the configuration stores are kept, and LPOR
is held. -/
def Obligations.PowerOnResetClearsTheDie : Prop :=
  ∀ s : State, Ends .logicPowerOnReset s (fun u =>
    let kept (k : Nat) : Bool := isSensed k || k == bootSlots || k == pwrReg 0x020 || k == pwrReg 0x028
    (∀ k, rd u k = if kept k then rd s k else resetOf k) ∧
    u.hub.lporHeld = true ∧ u.lanes = State.reset.lanes ∧ u.ring = State.reset.ring ∧ u.tx = State.reset.tx ∧
    u.ink = State.reset.ink ∧ u.flt = State.reset.flt ∧ u.mons = State.reset.mons ∧ u.pins = State.reset.pins ∧
    u.nibs = State.reset.nibs ∧ u.stk = State.reset.stk ∧ u.quills = State.reset.quills ∧ u.time = State.reset.time ∧
    u.pbp = State.reset.pbp ∧ u.cans = State.reset.cans ∧ u.kc = State.reset.kc ∧ u.roles = State.reset.roles ∧
    { u.pwr with shedN := s.pwr.shedN } = s.pwr ∧ u.cph.slots = s.cph.slots ∧ u.boot.img0 = s.boot.img0 ∧
    u.boot.img1 = s.boot.img1 ∧ u.boot.copies = s.boot.copies ∧ u.boot.ring = s.boot.ring ∧ u.boot.st0 = s.boot.st0 ∧
    u.boot.st1 = s.boot.st1)

/-- D2D_LINK_LOST with the link up clears HUB_STATUS.D2D_UP and raises FS192, and from then on every write of companion-side
registers completes BUSY with no effect; only the fault collector's registers change besides. -/
def Obligations.LostLinkAnswersBusy : Prop :=
  ∀ s : State, s.hubUp → rb s hubStatus 2 = true → Ends .d2dLinkLost s (fun u =>
    rb u hubStatus 2 = false ∧ rb u (fltActive 6) 0 = true ∧ rd u (fltCnt 192) = satAdd (rd s (fltCnt 192)) 1 ∧
    OnlyRaised (faultRegs 192) s u ∧
    ∀ (v : State) (o : Origin) (who : Word) (a : Access), rb v hubStatus 2 = false → a.kind ≠ .rd → legalAccess a = true →
      4 ≤ a.count → (∀ k ∈ accWords a, compSide k = true ∧ known k = true) → regServe o who a v = .now .busy [] [] v)

/-- An invalid sync header that loses block lock (the sixteenth in its window of 64 blocks) in NEGOTIATE: a lane that has sent
STAGE = ACK with agreed version 2 enters RATE_CHANGE; both locks are lost and counted once (log entry 10), and no register changes but
LANE_STATUS, LANE_EVT, LANE_CNT_HDR and LANE_CNT_LOL of the lane. A lane that has not goes back to DETECT. -/
def Obligations.LaneFollowsPartnersRate : Prop :=
  ∀ (s : State) (l : Fin 2) (h : BitVec 2) (hi : Bool), s.coreUp → laneState l s = 3 → blockLock l s = true →
    15 ≤ (lane l s).winBad → syncOk h = false → ∀ c ∈ [Instr.blockLockLoss l [h], Instr.invalidSyncHeader l hi],
    ((lane l s).ackSent = true → (lane l s).agreed = 2 → Ends c s (fun u => laneState l u = 4 ∧ blockLock l u = false ∧
      sfLock l u = false ∧ rd u (laneReg l 0x020) = satAdd (rd s (laneReg l 0x020)) 1 ∧
      rd u (laneReg l 0x02C) = satAdd (rd s (laneReg l 0x02C)) 1 ∧
      RegsKeep [laneReg l 0x004, laneReg l 0x008, laneReg l 0x020, laneReg l 0x02C] s u ∧
      { u with regs := s.regs, lanes := s.lanes } = s.alone)) ∧
    ((lane l s).ackSent = false ∨ (lane l s).agreed ≠ 2 → rb s (laneReg l 0) 0 = true → Ends c s (fun u => laneState l u = 1 ∧
      blockLock l u = false ∧ sfLock l u = false ∧ laneBit l 10 u = false))

/-- A lane in UP with LINK_EN = 1 leaves it on each cause of R66: LANE_CNT_DOWN counts it, LANE_EVT.DOWN is set, notice 0x11
carries the cause, the link's credits start over and LANE_MARGIN reads 0. Signal loss is cause 0x01, loss of block lock 0x02,
loss of superframe lock 0x03, an elastic buffer that fills, or runs empty inside a frame, 0x04, LINK_EN written 0 or RETRAIN
written 1 0x06, PAT written 0b01 or 0b10 0x07, a partner's comma at its place with STAGE other than UP 0x08. The lane is then in
DETECT; in DISABLED for LINK_EN = 0; in PRBS for cause 0x07. -/
def Obligations.LaneLeavesUp : Prop :=
  ∀ (s : State) (l : Fin 2), s.coreUp → laneState l s = 6 → rb s (laneReg l 0) 0 = true →
    let left (cause st : Nat) (u : State) : Prop := laneState l u = st ∧ rb u (laneReg l 0x008) 1 = true ∧
      rd u (laneReg l 0x038) = satAdd (rd s (laneReg l 0x038)) 1 ∧ rd u (laneReg l 0x01C) = 0#32 ∧
      Post.notice 2 0x11 l (w32 cause) (tb0 s) ∈ u.post ∧ { link l u with wire := [] } = ({} : LinkSt)
    (∀ sig, Ends (.laneSignalLoss l sig) s (left 1 1)) ∧
    (∀ h, blockLock l s = true → 15 ≤ (lane l s).winBad → syncOk h = false → Ends (.blockLockLoss l [h]) s (left 2 1)) ∧
    (∀ hi, blockLock l s = true → 15 ≤ (lane l s).winBad → Ends (.invalidSyncHeader l hi) s (left 2 1)) ∧
    (∀ p n, blockLock l s = true → sfLock l s = true → (lane l s).pos = some p → 4096 ≤ p + n →
      3 ≤ (lane l s).missRun + (p + n) / 4096 → Ends (.superframeLockLoss l n) s (left 3 1)) ∧
    (∀ b, blockLock l s = true → commaOf b = none → (lane l s).elastic.length = 31 → Ends (.elasticOverflow l [.inp b]) s (left 4 1)) ∧
    (blockLock l s = true → inFrame l s = true → (lane l s).elastic.length = 1 → Ends (.elasticOverflow l [.out]) s (left 4 1)) ∧
    Ends (.laneLinkDisable l) s (left 6 0) ∧
    Ends (.laneCtlRetrain l) s (left 6 1) ∧
    (∀ v, fld v 1 0 = 1 ∨ fld v 1 0 = 2 → Ends (.lanePrbsCtlWrite l v) s (left 7 7)) ∧
    (∀ b typ p gap blocks, blockLock l s = true → sfLock l s = true → (lane l s).pos = some p → p + gap = 4095 →
      commaOf b = some typ → typ / 2 % 4 ≠ 2 → Ends (.commaReceive l b gap blocks) s (left 8 1))

/-- LINK_EN written 1 in DISABLED moves the lane to DETECT, or with PAT not 0 to PRBS with its three counts cleared. A read of
LANE_PRBS_BITS_LO captures the high word of the 64-bit count for LANE_PRBS_BITS_HI. Each bit that a checker with lock has
received is compared with the pattern and counted, a mismatch in LANE_PRBS_ERR. Other registers are unchanged. -/
def Obligations.LaneStartsAndTests : Prop :=
  ∀ (s : State) (l : Fin 2), s.coreUp →
    (laneState l s = 0 → rb s (laneReg l 0) 0 = false → rf s (laneReg l 0x040) 1 0 = 0 → Ends (.laneLinkEnable l) s (fun u =>
      laneState l u = 1 ∧ rb u (laneReg l 0) 0 = true ∧
      RegsKeep [laneReg l 0, laneReg l 0x004, laneReg l 0x008, laneReg l 0x018, laneReg l 0x02C] s u)) ∧
    (laneState l s = 0 → rb s (laneReg l 0) 0 = false → rf s (laneReg l 0x040) 1 0 ≠ 0 → Ends (.laneLinkEnable l) s (fun u =>
      laneState l u = 7 ∧ rb u (laneReg l 0) 0 = true ∧ rd u (laneReg l 0x044) = 0#32 ∧ rd u (laneReg l 0x048) = 0#32 ∧
      rd u (laneReg l 0x04C) = 0#32 ∧
      RegsKeep [laneReg l 0, laneReg l 0x004, laneReg l 0x008, laneReg l 0x018, laneReg l 0x02C, laneReg l 0x044, laneReg l 0x048,
        laneReg l 0x04C] s u)) ∧
    Ends (.prbsBitsLoRead l []) s (fun u => rd u (laneReg l 0x04C) = (lane l s).prbsHi ∧ RegsKeep [laneReg l 0x04C] s u) ∧
    (∀ b, prbsChecks l s = true → laneBit l 13 s = true → Ends (.prbsBitsLoRead l [b]) s (fun u =>
      let n := (lane l s).prbsHi.toNat * 4294967296 + (rd s (laneReg l 0x048)).toNat + 1
      rd u (laneReg l 0x048) = w32 n ∧ rd u (laneReg l 0x04C) = w32 (n / 4294967296) ∧
      rd u (laneReg l 0x044) = satAdd (rd s (laneReg l 0x044)) (b2n (prbsNext (rf s (laneReg l 0x040) 1 0) (lane l s).prbs.chk != b)) ∧
      RegsKeep [laneReg l 0x004, laneReg l 0x044, laneReg l 0x048, laneReg l 0x04C] s u))

/-- The line code of the ring lanes: a descrambler in the scrambler's state recovers every block, its sync header unscrambled, and one in
any other state is in the scrambler's state after one block. A comma is recognised exactly by header 0b10, type bits [7:5] 0b000, VER
0b01 or 0b10 and the 56-bit pattern (its place in the block: log entry 6). A comma with STAGE = UP at its place leaves the
descrambler and the elastic buffer of a lane in UP as they were, and changes no register but LANE_PARTNER. -/
def Obligations.LineCodeRoundTrips : Prop :=
  (∀ (st : Nat) (b : Block), let r := scrambleBlk st b
    r.2.hdr = b.hdr ∧ descrambleBlk st r.2 = (r.1, b) ∧ ∀ x, (descrambleBlk x r.2).1 = r.1) ∧
  (∀ (b : Block) (t : Nat), commaOf b = some t ↔ b.hdr = 0b10#2 ∧ b.pay.toNat / 256 = 0x3CA5F05A0FC396 ∧
    b.pay.toNat % 256 = t ∧ t / 32 = 0 ∧ (t / 8 % 4 = 1 ∨ t / 8 % 4 = 2)) ∧
  (∀ (s : State) (l : Fin 2) (b : Block) (typ : Nat), s.coreUp → laneState l s = 6 → blockLock l s = true → sfLock l s = true →
    (lane l s).pos = some 4095 → commaOf b = some typ → typ / 2 % 4 = 2 → Ends (.commaReceive l b 0 0) s (fun u =>
      rd u (laneReg l 0x00C) = w32 typ ∧ RegsKeep [laneReg l 0x00C] s u ∧ u.ring = s.ring ∧
      (lane l u).rxScr = (lane l s).rxScr ∧ (lane l u).elastic = (lane l s).elastic ∧ (lane l u).pos = some 0))

/-- What a serial line codes, its receiver recovers: the bits of a frame between flags with zeros inserted (R218), the levels of NRZI
(log entry 31), and the stuffed bits of a CAN frame (log entry 38), each for every list of bits. -/
def Obligations.LineBitsRoundTrip : Prop :=
  (∀ d rest : List Bool,
    deframe 0 [] (stuffBits 0 d ++ [false, true, true, true, true, true, true, false] ++ rest) = some (d, false)) ∧
  (∀ (p : Bool) (d : List Bool), nrziDec p (nrziEnc p d) = d) ∧
  (∀ (tail : Bool) (d : List Bool), canDestuff none 0 (canStuff tail none 0 d) = some d)

/-- Once the duplicate filter has accepted a copy of a frame that is not SINGLE, it discards every further copy of it as a
duplicate, on either ring, and counts it in RING_CNT_DUP of the ring it came on. A copy that is judged bad marks nothing. -/
def Obligations.DuplicatesAcceptedOnce : Prop :=
  ∀ (s : State) (r r' : Nat) (f : Frame) (ok : Bool), f.single = false →
    ((dupFilter r f true s).1 = true →
      dupFilter r' f ok (dupFilter r f true s).2 = (false, cntRing 0x050 r' 1 (dupFilter r f true s).2)) ∧
    (dupFilter r f false s).1 = false ∧ (dupFilter r f false s).2.ring = s.ring

/-- RING_SEEN_TIMEOUT of another node that was seen on a ring clears its bit of that ring and orders notice 0x22; nothing else of
RING_SEEN changes. -/
def Obligations.SilentNodeIsUnseen : Prop :=
  ∀ (s : State) (n : Fin 256) (r : Fin 2), s.hubUp → n.val ≠ 0 → n.val ≠ 255 → n.val ≠ ownNode s → seenOn n r s = true →
    Ends (.ringSeenTimeout n r) s (fun u => seenOn n r u = false ∧
      (∀ m q, m < 256 → q < 2 → (m, q) ≠ (n.val, r.val) → seenOn m q u = seenOn m q s) ∧
      RegsKeep [ringReg (0x100 + 4 * (n / 16))] s u ∧
      u.post = s.post ++ [.notice 2 0x22 0 (w32 (n * 256 + seenPair n u)) (tb0 s)])

/-- A write from the ring to HUB_AP_SEL, HUB_PRM_CTL or a HUB_PRM register completes DENIED whatever the permission tables hold:
the denial is counted, a WR_N is answered with a completion that says so, and none of these registers changes. A read from the
ring that the tables permit is served, and a CFG_WRITE of this node writes them with status OK. -/
def Obligations.LocalOnlyWritesAreDenied : Prop :=
  ∀ (s : State) (src tag k : Nat) (v : Word), s.hubUp → s.hub.icBad = false →
    k = hubApSel ∨ k = hubPrmCtl ∨ (0x400 ≤ k ∧ k < 0x800 ∧ k % 4 = 0) →
    Ends (.registerWrite (.ring src tag) k v) s (fun u =>
      u = (originate (mkFrame src 3 1 tag 3 []) (sinkFree src tag (unserve (.ring src tag) (bump hubCntDenied 1 s.alone)))).2 ∧
      ∀ j, j = hubApSel ∨ j = hubPrmCtl ∨ (0x400 ≤ j ∧ j < 0x800) → rd u j = rd s j) ∧
    (permitted src ⟨.rd, k, 4, []⟩ s = true → denied (.ring src tag) ⟨.rd, k, 4, []⟩ s = false) ∧
    (∀ who, known k = true → (cfgPut who k v s).1 = .ok)

/-- COMPLETION_TIMEOUT of an outstanding read or write of pair M that waits for no retry counts it in HUB_CNT_CTO, completes it FT
and puts its tag into quarantine; one that waits for a retry ends BUSY, and its tag is free. TAG_QUARANTINE_END frees a tag in
quarantine, and only such a tag. -/
def Obligations.TimedOutTagsWait : Prop :=
  ∀ (s : State) (t : Fin 1024), s.hubUp →
    ((tagSt t s).use = .out → (tagSt t s).kind ≠ 2 → (tagSt t s).org = .pairM → (tagSt t s).gone = false → pendOf .pairM s = none →
      ((tagSt t s).waiting = false → Ends (.completionTimeout false t) s (fun u => (tagSt t u).use = .quarantine ∧
        rd u hubCntCto = satAdd (rd s hubCntCto) 1 ∧ u.tx.core = s.tx.core ++ [(.pairM, .ft, [])] ∧ RegsKeep [hubCntCto] s u ∧
        ∀ j, j ≠ t.val → tagSt j u = tagSt j s)) ∧
      ((tagSt t s).waiting = true → Ends (.completionTimeout false t) s (fun u => (tagSt t u).use = .free ∧
        u.tx.core = s.tx.core ++ [(.pairM, .busy, [])] ∧ RegsKeep [] s u ∧ ∀ j, j ≠ t.val → tagSt j u = tagSt j s))) ∧
    ((tagSt t s).use = .quarantine → Ends (.tagQuarantineEnd t) s (fun u => (tagSt t u).use = .free ∧ RegsKeep [] s u ∧
      ∀ j, j ≠ t.val → tagSt j u = tagSt j s)) ∧
    ((tagSt t s).use ≠ .quarantine → Does (.tagQuarantineEnd t) s s.alone)

/-- SPI_STATUS shifts out the outcome byte: bit 7 while accesses of a write are outstanding, bit 6 a CRC failure, bit 5 a
frame that ended within a word, bits [3:0] the first status other than OK. Nothing else changes. -/
def Obligations.SpiStatusByte : Prop :=
  ∀ s : State, s.hubUp → Ends .spiStatus s (fun u =>
    u = { s.alone with tx := { s.tx with spi := { s.tx.spi with out := u.tx.spi.out } } } ∧
    ∃ b : Byte, u.tx.spi.out = [b] ∧ b.getLsbD 7 = !s.tx.spi.writes.isEmpty ∧ b.getLsbD 6 = s.tx.spi.badCrc ∧
      b.getLsbD 5 = s.tx.spi.partial_ ∧ b.getLsbD 4 = false ∧ b.toNat % 16 = s.tx.spi.first.code)

/-- CENSUS_CHECK with the three counts summing to 32,768 changes nothing. Otherwise it sets INK_EVT.CENSUS, orders notice group 3
event 0x02 with the sum, and raises FS64, which as a locked source puts the node in safe state; the counts themselves stay. -/
def Obligations.CensusRaisesOnMismatch : Prop :=
  ∀ s : State, s.hubUp →
    (s.ink.free + s.ink.queued + s.ink.inflight = 32768 → Does .censusCheck s s.alone) ∧
    (s.ink.free + s.ink.queued + s.ink.inflight ≠ 32768 → Ends .censusCheck s (fun u =>
      let n := w32 (s.ink.free + s.ink.queued + s.ink.inflight)
      rb u inkEvt 1 = true ∧ Post.notice 3 0x02 0 n (tb0 s) ∈ u.post ∧ rb u (fltActive 2) 0 = true ∧
      rd u (fltCnt 64) = satAdd (rd s (fltCnt 64)) 1 ∧ rb u hubStatus 4 = true ∧ Post.safe ∈ u.post ∧ u.ink = s.ink ∧
      OnlyRaised (inkEvt :: faultRegs 64) s u))

/-- STALL_READ_EXPIRE completes the held pop of pair M that has waited longest with status EMPTY and no data, and consumes nothing: the
queue keeps its items, its open items and the other held pops, those of pair M that came later among them, and no register
changes. Without a held pop of that requester nothing happens. -/
def Obligations.HeldPopsEndEmpty : Prop :=
  ∀ (s : State) (q : Fin 1024), s.hubUp → pendOf .pairM s = none →
    ((queue q s).held.any (fun h => h.org == .pairM) = true → Ends (.stallReadExpire q .pairM) s (fun u =>
      u.tx.core = s.tx.core ++ [(.pairM, .empty, [])] ∧ RegsKeep [] s u ∧
      queue q u = { queue q s with held := (queue q s).held.eraseP (fun h => h.org = .pairM) } ∧
      ∀ p, p ≠ q.val → queue p u = queue p s)) ∧
    ((queue q s).held.any (fun h => h.org == .pairM) = false → Does (.stallReadExpire q .pairM) s s.alone)

/-- With no nib enabled, INK_APPLY records the result of the totals check in INK_REASON; where the check passes every staged
register's active copy is what the register holds, and where it fails the active set is unchanged. No other register changes,
and the queues keep their items. -/
def Obligations.StagedSetTakesEffectWhole : Prop :=
  ∀ s : State, s.hubUp → liveNibs s = [] → Ends .inkApply s (fun u =>
    rf u inkReason 7 0 = (totalsCheck s).1 ∧ RegsKeep [inkReason] s u ∧ u.ink.queues = s.ink.queues ∧
    ((totalsCheck s).1 = 0 → ∀ k, isStaged k = true → tget resetOf u.ink.active k = rd s k) ∧
    ((totalsCheck s).1 ≠ 0 → u.ink.active = s.ink.active))

/-- UART_CTS_CHANGE at a running UART whose slot 3 is in use: with the level unchanged nothing happens; a change is shown in
NIB_STATUS bit 26, active while the line as delivered (0 without the bank's supply, inverted where the slot says so) is low,
and with the RTS/CTS handshake sets NIB_EVT.LINE. While no item is being sent, no register but these two changes. -/
def Obligations.ClearToSendFollowsThePin : Prop :=
  ∀ (s : State) (n : Fin 256) (lvl : Bool) (sent : Nat), s.hubUp → nibIn n 1 s = true → slotUse n 3 s = true →
    let active := !((lvl && bankClass (slotPin n 3 s / 32) s != 0) != slotInv n 3 s)
    (rb s (nibReg n 0x04) 26 = active → Does (.uartCtsChange n lvl sent) s s.alone) ∧
    (rb s (nibReg n 0x04) 26 ≠ active → Ends (.uartCtsChange n lvl sent) s (fun u => rb u (nibReg n 0x04) 26 = active ∧
      (uartHs n s = 1 → rb u (nibReg n 0x0C) 2 = true) ∧ (uartHs n s ≠ 1 → rd u (nibReg n 0x0C) = rd s (nibReg n 0x0C)) ∧
      ((nib n s).tx = false → RegsKeep [nibReg n 0x04, nibReg n 0x0C] s u ∧ u.pins = s.pins ∧ u.nibs = s.nibs ∧ u.ink = s.ink)))

/-- STK_CTL.COMMIT written 1 copies the sixteen STK_OVAL registers at once into the committed set. After the cutoff it also sets
STK_EVT.LATECOMMIT and counts; before it no register changes. The armed set stays as it was. DISCRETE_PULSE_END of a pulse under
way clears it, and VAL reads 0; a pin without a pulse is left alone, and no other register changes. -/
def Obligations.CommitsWaitAndPulsesEnd : Prop :=
  ∀ s : State, s.hubUp →
    Ends .strokeCommit s (fun u =>
      u.stk = { s.stk with committed := some ((List.range 16).map (fun g => rd s (stkReg (0x200 + 4 * g)))) } ∧
      (s.stk.cut = false → RegsKeep [] s u) ∧
      (s.stk.cut = true → rb u stkEvt 3 = true ∧ rd u (stkReg 0x30) = satAdd (rd s (stkReg 0x30)) 1 ∧ RegsKeep [stkEvt, stkReg 0x30] s u) ∧
      { u with regs := s.regs, stk := s.stk } = s.alone) ∧
    ∀ p : Fin 512,
      (rb s (dReg p 0x10) 2 = true → Ends (.discretePulseEnd p) s (fun u => rb u (dReg p 0x0C) 0 = false ∧ rb u (dReg p 0x10) 2 = false ∧
        OnlyRegs [dReg p 0x0C, dReg p 0x10] s u)) ∧
      (rb s (dReg p 0x10) 2 = false → Does (.discretePulseEnd p) s s.alone)

/-- A write of QL_TX by pair M: with TXEN = 0 a TX FIFO of fewer than 4 words takes the word at its end and the write completes
OK; a full one takes nothing, the write completes BUSY and is counted in QL_CNT_TXREF. With TXEN = 1 the write has no effect
on the FIFO, completes OK, sets QL_EVT.TXMIX and is counted. Every other requester that the permissions admit gets the same,
with the same status. -/
def Obligations.QuillTransmitFifo : Prop :=
  ∀ (s : State) (q : Fin 64) (v : Word), s.hubUp → s.hub.icBad = false → pendOf .pairM s = none →
    let told (st : Status) (u : State) : Prop := u.tx.core = s.tx.core ++ [(.pairM, st, [])]
    (qlTxen q s = false → (quill q s).txf.length < 4 → Ends (.qlTxWrite .pairM q v) s (fun u =>
      (quill q u).txf = (quill q s).txf ++ [v] ∧ told .ok u ∧ RegsKeep [qlStatus q] s u)) ∧
    (qlTxen q s = false → 4 ≤ (quill q s).txf.length → Ends (.qlTxWrite .pairM q v) s (fun u =>
      quill q u = quill q s ∧ told .busy u ∧ rd u (qlReg q 0x64) = satAdd (rd s (qlReg q 0x64)) 1 ∧
      RegsKeep [qlReg q 0x64, hubCntBusyIn] s u)) ∧
    (qlTxen q s = true → Ends (.qlTxWrite .pairM q v) s (fun u =>
      quill q u = quill q s ∧ told .ok u ∧ rb u (qlReg q 0x0C) 7 = true ∧ rd u (qlReg q 0x64) = satAdd (rd s (qlReg q 0x64)) 1 ∧
      RegsKeep [qlReg q 0x64, qlReg q 0x0C] s u)) ∧
    (∀ o : Origin, let a : Access := ⟨.wrN, qlReg q 0x40, 4, wordBytes v⟩
      denied o a s = false →
        Does (.qlTxWrite o q v) s (answer o a (qlTxWrite q v s.alone).1 [] (qlTxWrite q v s.alone).2))

/-- At an enabled quill that is not in quarantine, and whose QL_CTL holds no write-only bit: QL_CTL.SWAP sets SWPEND, or at a swap
point (halted, or in a wait or a stall outside a shift) swaps at once: the other bank is active from step 0, SWPEND and HALT
read 0, QL_EVT.SWAPPED is set and QL_CNT_SWAP counts. SWCAN clears SWPEND, MARK sets the mark latch; each changes no register
but QL_STATUS, and nothing else. While EN = 0 or QUAR = 1, SWAP and SWCAN have no effect. -/
def Obligations.QuillSwapAndMark : Prop :=
  ∀ (s : State) (q : Fin 64), s.hubUp → rf s (qlReg q 0) 7 4 = 0 →
    (qlEn q s = true → rb s (qlStatus q) 31 = false →
      (qlAtSwap q s = false → Ends (.qlCtlSwap q) s (fun u => rb u (qlStatus q) 29 = true ∧ OnlyRegs [qlStatus q] s u)) ∧
      (qlAtSwap q s = true → Ends (.qlCtlSwap q) s (fun u => qlBank q u = 1 - qlBank q s ∧ rf u (qlStatus q) 22 16 = 0 ∧
        rb u (qlStatus q) 29 = false ∧ rb u (qlStatus q) 30 = false ∧ rb u (qlReg q 0x0C) 4 = true ∧
        rd u (qlReg q 0x6C) = satAdd (rd s (qlReg q 0x6C)) 1 ∧ RegsKeep [qlStatus q, qlReg q 0x0C, qlReg q 0x6C] s u)) ∧
      Ends (.qlCtlSwcan q) s (fun u => rb u (qlStatus q) 29 = false ∧ OnlyRegs [qlStatus q] s u) ∧
      Ends (.qlCtlMark q) s (fun u => rb u (qlStatus q) 2 = true ∧ OnlyRegs [qlStatus q] s u)) ∧
    (qlEn q s = false ∨ rb s (qlStatus q) 31 = true →
      Ends (.qlCtlSwap q) s (fun u => OnlyRegs [] s u) ∧ Ends (.qlCtlSwcan q) s (fun u => OnlyRegs [] s u))

/-- A write of 1 to CAN_WDOG.KICK by pair M is a kick while it runs firmware and, with CAN_WDOG.LEASE = 1, only while a host holds the
session lease of the controller: the watchdog's time starts anew. By pair M otherwise, and by any other requester, it has no
effect. FBLEAVE at an enabled controller ends fall-back when its cause is FORCE, or WDOG with a kick since the last expiry; in
every other case it has no effect. -/
def Obligations.OnlyPairMKicks : Prop :=
  ∀ (s : State) (k : Fin 16), s.hubUp →
    (rb s hubStatus 1 = true → rb s (canReg k 0x30) 30 = false ∨ canLeased k s = true →
      Ends (.canWatchdogKick k .pairM) s (fun u => (can k u).kicked = true ∧ (can k u).wdogAt = s.hub.now ∧ RegsKeep [] s u)) ∧
    (∀ o, o ≠ .pairM ∨ rb s hubStatus 1 = false ∨ (rb s (canReg k 0x30) 30 = true ∧ canLeased k s = false) →
      Ends (.canWatchdogKick k o) s (fun u => OnlyRegs [] s u)) ∧
    (rf s (canReg k 0) 6 5 = 0 → canEn k s = true →
      (canFb k s = true → rf s (canStat k) 29 28 = 1 ∨ (rf s (canStat k) 29 28 = 2 ∧ (can k s).kicked = true) →
        Ends (.canCtlFbleave k) s (fun u => canFb k u = false ∧ rf u (canStat k) 29 28 = 0 ∧ rb u (canReg k 0x0C) 4 = true ∧
          RegsKeep [canStat k, canReg k 0x0C] s u)) ∧
      (canFb k s = false ∨ ¬ (rf s (canStat k) 29 28 = 1 ∨ (rf s (canStat k) 29 28 = 2 ∧ (can k s).kicked = true)) →
        Does (.canCtlFbleave k) s s.alone))

/-- WIRE_LOST with valid levels clears PBP_WIRE_RX.VALID, sets PBP_EVT.WIRELOST, counts PBP_CNT_WIRELOST and raises FS163. Once
the pins are settled, every sideband output pin the running bridge owns is driven to its SBLOST bit. Without valid levels
nothing happens. -/
def Obligations.LostWiresShow : Prop :=
  ∀ s : State, s.hubUp →
    (rb s (pbpReg 0x03C) 31 = true → Ends .wireLost s (fun u => rb u (pbpReg 0x03C) 31 = false ∧ rb u pbpEvtR 1 = true ∧
      rd u (pbpReg 0x0B4) = satAdd (rd s (pbpReg 0x0B4)) 1 ∧ rd u (fltCnt 163) = satAdd (rd s (fltCnt 163)) 1 ∧
      OnlyRaised (pbpReg 0x03C :: pbpEvtR :: pbpReg 0x0B4 :: faultRegs 163) s u ∧
      ∀ k, k < 8 → sidePin k u = (rb s (pbpReg 0x034) k, rb s (pbpReg 0x034) (8 + k)))) ∧
    (rb s (pbpReg 0x03C) 31 = false → Does .wireLost s s.alone)

/-- TB_LO_READ captures the whole value of the base; TB_LO then reads its lower word and TB_HI the captured upper word, and TB_HI
goes on reading it whatever the base does until the next capture. A read of both words at once gives the two words of one
value. No register but TB_HI of that base changes. -/
def Obligations.TimeIsReadWhole : Prop :=
  ∀ (s : State) (n : Fin 4), s.hubUp →
    Ends (.tbLoRead n) s (fun u => readVal (tbBase n 0x04) u = loW (baseVal n s) ∧ readVal (tbBase n 0x08) u = hiW (baseVal n s) ∧
      baseVal n u = baseVal n s ∧ OnlyRegs [] { s with time := u.time } u ∧
      (∀ d : Int, readVal (tbBase n 0x08) (setBase n (advance (base n u) d) u) = hiW (baseVal n s)) ∧
      ∀ m : Fin 4, m ≠ n → base m u = base m s) ∧
    (readRegs [tbBase n 0x04, tbBase n 0x08] s).1 = [loW (baseVal n s), hiW (baseVal n s)]

/-- TB_STEP_APPLY to a base 1 to 3 that is not slaved adds the signed 64-bit value of TB_STEP_HI:LO to it, or with ABS = 1 loads
the value and clears the fraction; the other bases and every register stay. A step or rate write of a slaved base is ignored:
TB_EVT.REFUSED is set and TB_REASON holds 0x63. -/
def Obligations.StepsOfABase : Prop :=
  ∀ (s : State) (n : Fin 4) (v : Word), s.hubUp → n.val ≠ 0 →
    let d := dword v (base n s).stepLo
    (slaved n s = false → rb s (tbBase n 0) 0 = false → Ends (.tbStepApply n v) s (fun u =>
      (base n u).ns = (base n s).ns + d ∧ (base n u).frac = (base n s).frac ∧ (∀ m : Fin 4, m ≠ n → base m u = base m s) ∧
      OnlyRegs [] { s with time := u.time } u)) ∧
    (slaved n s = false → rb s (tbBase n 0) 0 = true → Ends (.tbStepApply n v) s (fun u =>
      (base n u).ns = d ∧ (base n u).frac = 0#32 ∧ (∀ m : Fin 4, m ≠ n → base m u = base m s) ∧
      OnlyRegs [] { s with time := u.time } u)) ∧
    (slaved n s = true → ∀ c ∈ [Instr.tbStepApply n v, Instr.tbRateWrite n v], Ends c s (fun u => u.time = s.time ∧
      rd u tbReason = 0x63#32 ∧ rb u tbEvt 7 = true ∧ RegsKeep [tbReason, tbEvt] s u))

/-- KC_DOORBELL.RING on an open mailbox by a requester other than the holder has no effect but KC_CNT_FOREIGN and KC_EVT.FOREIGN.
By the holder, or on a closed mailbox, while PEND = 1 it has no effect but KC_CNT_DBLOST and KC_EVT.DBOVER. With PEND = 0 the
packet is the first 16 + LEN bytes of the request area: where pair K serves and the packet is no repeat, PEND is set and RDY
cleared; a repeat of the packet executed last on an open mailbox, other than HELLO, has the stored reply signalled again and
executes nothing; where pair K does not serve, the mailbox answers BUSY itself. -/
def Obligations.DoorbellTakesOnePacket : Prop :=
  ∀ (s : State) (m : Fin 16) (o : Origin), s.hubUp →
    let raw := kcBytes m 0x400 (16 + min (fld (wordAt (kcBytes m 0x404 4 s) 0) 15 0) 2032) s
    let again := kcOpen m s = true ∧ pkOp raw ≠ 1 ∧ (box m s).copy = some raw
    (kcOpen m s = true → rd s (kcReg m 0x10) ≠ holderWord o s → Ends (.kcDoorbell m o) s (fun u => rb u (kcReg m 0x0C) 1 = true ∧
      rd u (kcReg m 0x28) = satAdd (rd s (kcReg m 0x28)) 1 ∧ OnlyRegs [kcReg m 0x0C, kcReg m 0x28] s u)) ∧
    (kcOpen m s = false ∨ rd s (kcReg m 0x10) = holderWord o s →
      (rb s (kcStat m) 30 = true → Ends (.kcDoorbell m o) s (fun u =>
        rb u (kcReg m 0x0C) 2 = true ∧ rd u (kcReg m 0x24) = satAdd (rd s (kcReg m 0x24)) 1 ∧
        OnlyRegs [kcReg m 0x0C, kcReg m 0x24] s u)) ∧
      (rb s (kcStat m) 30 = false → kServes s = true → ¬ again → Ends (.kcDoorbell m o) s (fun u => rb u (kcStat m) 30 = true ∧
        rb u (kcStat m) 29 = false ∧ (box m u).pkt = some raw ∧ (box m u).ringer = holderWord o s ∧ RegsKeep [kcStat m] s u)) ∧
      (rb s (kcStat m) 30 = false → kServes s = true → again → Ends (.kcDoorbell m o) s (fun u => rb u (kcStat m) 30 = false ∧
        rb u (kcStat m) 29 = true ∧ (box m u).pkt = none ∧ (box m u).rpl = (box m s).rpl ∧ rb u (kcReg m 0x0C) 0 = true ∧
        RegsKeep [kcStat m, kcReg m 0x0C, kcReg m 0x20] s u)) ∧
      (rb s (kcStat m) 30 = false → kServes s = false → Ends (.kcDoorbell m o) s (fun u => rb u (kcStat m) 30 = false ∧
        rb u (kcStat m) 29 = true ∧ rb u (kcStat m) 28 = true ∧ (box m u).pkt = none ∧
        (box m u).rpl = replyBytes (pkMaj raw) (pkMin raw) 5 (pkTag raw) m 0 0 [] ∧
        rd u (kcReg m 0x2C) = satAdd (rd s (kcReg m 0x2C)) 1 ∧ RegsKeep [kcStat m, kcReg m 0x0C, kcReg m 0x2C] s u)))

/-- GET_CAPS in a mailbox where its packet has been rung, is served in its turn and passes the tests of R441: the reply area holds
the whole reply, PEND is cleared, RDY and KC_EVT.REPLY are set, vector 16 + s is sent, or pending where it is masked, and with
FLAGS.RPLNOTE notice event 0x02 is ordered for the session. -/
def Obligations.RepliesAreSignalled : Prop :=
  ∀ (s : State) (m : Fin 16) (raw : List Byte), s.hubUp → s.rung m 0x0004 raw → Ends (.getCaps m) s (fun u =>
    (box m u).rpl = replyBytes (replyVer m raw s).1 (replyVer m raw s).2 0 (pkTag raw) m 0 0
      (capsWords (inRom s) (rf s (kcStat m) 23 20) (rf s (kcStat m) 19 16)) ∧
    (box m u).pkt = none ∧ rb u (kcStat m) 30 = false ∧ rb u (kcStat m) 29 = true ∧ rb u (kcReg m 0x0C) 0 = true ∧
    (vecMasked (16 + m) s = false → u.hub.msix = s.hub.msix ++ [16 + m.val]) ∧
    (vecMasked (16 + m) s = true → u.hub.msix = s.hub.msix ∧ 16 + m.val ∈ u.hub.msixPend) ∧
    (bit (pkW raw 2) 1 = true → Post.session m 0x02 (w32 (pkTag raw * 65536)) (tb0 s) ∈ u.post) ∧
    (bit (pkW raw 2) 1 = false → u.post = s.post) ∧ RegsKeep [kcStat m, kcReg m 0x0C, kcReg m 0x20] s u)

/-- HOURS_PERSIST while pair M or ROM runs advances the operating time by 360 s; with NV writes possible the newest journal entry then
holds the new hours and seconds, the other counts as they were, and with NV writes inhibited the MRAM keeps what it held. Where
neither pair M nor ROM runs nothing happens. -/
def Obligations.BootHoursPersist : Prop :=
  ∀ s : State, s.hubUp →
    (rb s hubStatus 1 = true ∨ inRom s = true → Ends .hoursPersist s (fun u =>
      u.flt.hours * 3600 + u.flt.secs = s.flt.hours * 3600 + s.flt.secs + 360 ∧ u.flt.secs < 3600 ∧ RegsKeep [] s u ∧
      (nvInhibited s = false → (u.boot.ring.head?.map (fun e => e.cnt)) =
        some { s.boot.jnl with hours := u.flt.hours, secs := u.flt.secs, pcyc := s.flt.pcyc }) ∧
      (nvInhibited s = true → u.boot = s.boot))) ∧
    (rb s hubStatus 1 = false → inRom s = false → Does .hoursPersist s s.alone)

/-- PLL_LOCK_LOSS raises FS11 with the PLL's number. With FLT_STATUS.VALID = 0, and the severity at notice or above, it latches
source, severity, information and time, sets FLT_FIRST_CNT to 1 and sends vector 48, pending where it is masked. With VALID = 1 and another source
latched, the latch stays as it was and OVF is set. Either way FLT_ACTIVE and FLT_CNT of the source show the raise. -/
def Obligations.FirstFaultLatches : Prop :=
  ∀ (s : State) (p : Fin 4), s.hubUp →
    let shows (u : State) : Prop := rb u (fltActive 0) 11 = true ∧ rd u (fltCnt 11) = satAdd (rd s (fltCnt 11)) 1 ∧
      OnlyRaised (faultRegs 11) s u
    (severityOf 11 s ≠ 0 → rb s fltStatus 31 = false → Ends (.pllLockLoss p) s (fun u => shows u ∧ rb u fltStatus 31 = true ∧
      rd u fltFirstSrc = w32 (severityOf 11 s * 256 + 11) ∧ rd u fltFirstInfo = w32 p ∧ rd u fltFirstTimeLo = loW (tb0 s) ∧
      rd u fltFirstTimeHi = hiW (tb0 s) ∧ rd u fltFirstCnt = 1#32 ∧
      (if vecMasked 48 s then 48 ∈ u.hub.msixPend else 48 ∈ u.hub.msix))) ∧
    (severityOf 11 s ≠ 0 → rb s fltStatus 31 = true → rf s fltFirstSrc 7 0 ≠ 11 → Ends (.pllLockLoss p) s (fun u => shows u ∧
      rb u fltStatus 30 = true ∧ ∀ k ∈ [fltFirstSrc, fltFirstInfo, fltFirstTimeLo, fltFirstTimeHi, fltFirstCnt], rd u k = rd s k)) ∧
    (severityOf 11 s = 0 → Ends (.pllLockLoss p) s (fun u => shows u ∧ rd u fltStatus = rd s fltStatus))

/-- FLT_STATUS_VALID_WRITE, and FLT_CLEAR with FIRST = 1, clear VALID, OVF, MERGED, WORST and FLT_FIRST_CNT; FLT_FIRST_SRC,
FLT_FIRST_INFO, FLT_FIRST_TIME keep their values, and so do the FLT_ACTIVE bits unless the command clears them by name. A
raise after that latches as a new first error, and writing 1 to a bit of FLT_ACTIVE clears that bit alone. -/
def Obligations.HandlingEnds : Prop :=
  ∀ s : State, s.hubUp →
    let ended (u : State) : Prop := rb u fltStatus 31 = false ∧ rb u fltStatus 30 = false ∧ rb u fltStatus 29 = false ∧
      rf u fltStatus 25 24 = 0 ∧ rd u fltFirstCnt = 0#32 ∧
      ∀ k ∈ [fltFirstSrc, fltFirstInfo, fltFirstTimeLo, fltFirstTimeHi], rd u k = rd s k
    Ends .fltStatusValidWrite s (fun u => ended u ∧ OnlyRegs [fltStatus, fltFirstCnt] s u ∧
      ∀ n info, fixedClass n ≠ none → severityOf n s ≠ 0 → rf (raise n info u) fltFirstSrc 7 0 = n) ∧
    (∀ (m : Fin 16) (raw : List Byte), s.rung m 0x0308 raw → bit (par raw 0) 0 = true →
      (bit (par raw 0) 2 = true → fld (par raw 1) 15 0 < kindCount (fld (par raw 1) 31 28)) →
      Ends (.fltClear m) s (fun u => ended u ∧ (bit (par raw 0) 1 = false → ∀ j, j < 8 → rd u (fltActive j) = rd s (fltActive j)))) ∧
    (∀ j v, j < 8 → pendOf .pairM s = none → Ends (.registerWrite .pairM (fltActive j) v) s (fun u =>
      rd u (fltActive j) = rd s (fltActive j) &&& ~~~v ∧ RegsKeep [fltActive j] s u))

/-- BLT_CTL_FREEZE sets FREEZE, and then no record is written: every arriving one is counted in BLT_CNT_MISSED, whatever FULL
holds. BLT_CTL_THAW clears FREEZE, and the next record is written where the blotter is not full. BLT_CLR_WRITE empties the
blotter, sets COUNT to 0 and clears FULL, and leaves FREEZE and the counters as they are. -/
def Obligations.FrozenBlotterCountsMissed : Prop :=
  ∀ (s : State) (typ source : Nat) (a b c : Word), s.hubUp →
    Ends .bltCtlFreeze s (fun u => OnlyRegs [bltCtl] s u ∧ rb u bltCtl 0 = true ∧
      blot typ source a b c u = bump bltMissed 1 u) ∧
    Ends .bltCtlThaw s (fun u => OnlyRegs [bltCtl] s u ∧ rb u bltCtl 0 = false ∧
      (rb s bltStatus 31 = false → (blot typ source a b c u).flt.recs = s.flt.recs ++ [mkRec typ source a b c u] ∧
        rd (blot typ source a b c u) bltWritten = satAdd (rd s bltWritten) 1)) ∧
    Ends .bltClrWrite s (fun u => u.flt.recs = [] ∧ rf u bltStatus 12 0 = 0 ∧ rb u bltStatus 31 = false ∧ RegsKeep [bltStatus] s u)

/-- MON_CTL_ARM with a KIND and PARAM that are defined clears the results (CNT, LAST and every bin 0, MIN 0x7FFF_FFFF, MAX
0x8000_0000), sets RUNNING, clears DONE and ERR, and takes the five settings; with a reserved KIND or a PARAM out of range the
slot does not run, and ERR is set. Only that slot's registers change. -/
def Obligations.MonitorsArm : Prop :=
  ∀ (s : State) (m : Fin 16), s.hubUp →
    (monOk (rd s (monReg m 0x04)) = true → Ends (.monCtlArm m) s (fun u => rd u (monReg m 0) = 1#32 ∧ rd u (monReg m 0x18) = 0#32 ∧
      rd u (monReg m 0x24) = 0#32 ∧ (∀ i, i < 32 → rd u (monReg m (0x28 + 4 * i)) = 0#32) ∧ rd u (monReg m 0x1C) = 0x7FFFFFFF#32 ∧
      rd u (monReg m 0x20) = 0x80000000#32 ∧ (mon m u).cfg = rd s (monReg m 0x04) ∧ (mon m u).per = rd s (monReg m 0x08) ∧
      (mon m u).ofs = rd s (monReg m 0x0C) ∧ (mon m u).width = rd s (monReg m 0x10) ∧ (mon m u).lim = rd s (monReg m 0x14) ∧
      ∀ j, (∀ o, o < 0x100 → j ≠ monReg m o) → rd u j = rd s j)) ∧
    (monOk (rd s (monReg m 0x04)) = false → Ends (.monCtlArm m) s (fun u => rd u (monReg m 0) = 4#32 ∧ OnlyRegs [monReg m 0] s u))

/-- AUTHORITY_LEASE_EXPIRE at the active holder of a role, whose pair M runs and whose 2 ms have passed on TB0, enters LAPSED and
raises FS243; elsewhere it has no effect. LAPSED_END takes a holder that has lapsed to IDLE where it may hold the role, and has no
effect elsewhere. LEASE_EXPIRE of a lease in the arbiter's table frees its resource, counts it in HUB_CNT_LEASEXP and sets
HUB_ROLE_EVT.LEASEXP. Nothing of this happens without pair M. -/
def Obligations.AuthorityLapses : Prop :=
  ∀ s : State, s.hubUp →
    (∀ r : Fin 2, (roleOwn r s = 4 → pairM s = true → authOver r s = true → Ends (.authorityLeaseExpire r) s (fun u =>
        roleOwn r u = 5 ∧ rd u (fltCnt 243) = satAdd (rd s (fltCnt 243)) 1)) ∧
      (roleOwn r s ≠ 4 ∨ pairM s = false ∨ authOver r s = false → Does (.authorityLeaseExpire r) s s.alone) ∧
      (roleOwn r s = 5 → pairM s = true → Ends (.lapsedEnd r) s (fun u => roleOwn r u = (if capable r s then 1 else 0) ∧
        RegsKeep [roleState r, roleEvtR] s u)) ∧
      (roleOwn r s ≠ 5 ∨ pairM s = false → Does (.lapsedEnd r) s s.alone)) ∧
    (∀ res, leaseOf res s ≠ none → pairM s = true → Ends (.leaseExpire res) s (fun u => leaseOf res u = none ∧
      (∀ x, x ≠ res → leaseOf x u = leaseOf x s) ∧ rd u 0x83C = satAdd (rd s 0x83C) 1 ∧ rb u roleEvtR 2 = true ∧
      RegsKeep [0x83C, roleEvtR] s u)) ∧
    (∀ res, leaseOf res s = none ∨ pairM s = false → Does (.leaseExpire res) s s.alone)

/-- CPH_CMD_ERASE by the own node's pair M through a page that no other requester owns and that owns the slot, and KEY_ERASE by
the holder of such a page, leave the slot without a key, its PERSIST copy cleared (at once, or with NV writes inhibited marked
to be), its generation one higher and wrapped from 0xFFFF to 0, its counter unchanged; an empty slot's generation advances in
the same way. -/
def Obligations.ErasedKeysAreGone : Prop :=
  ∀ (s : State) (p : Fin 16) (k : Fin 32), s.hubUp → owns p k s = true →
    let erased (u : State) : Prop := (keySlot k u).key = none ∧ (keySlot k u).pers = false ∧
      (keySlot k u).gen = ((keySlot k s).gen + 1) % 65536 ∧ (keySlot k u).ctr = (keySlot k s).ctr ∧
      ((keySlot k u).keyNv = none ∨ (keySlot k u).due = true) ∧ ∀ j, j ≠ k.val → keySlot j u = keySlot j s
    (cphDenied p (holderWord .pairM s) s = false → Ends (.cphCmdErase .pairM p k) s erased) ∧
    (∀ (m : Fin 16) (raw : List Byte), s.rung m 0x0702 raw → cmdPage raw = p.val → cmdSlot raw = k.val → pageHolder m p s = true →
      Ends (.keyErase m) s erased)

/-- PWR_STBY_SET_HI_WRITE loads PWR_STBY_SET_HI:LO into the 48-bit counter and sets VALID; from there it counts 32768 to the second.
PWR_STBY_CNT_LO_READ shows its lower word and captures its upper 16 bits for PWR_STBY_CNT_HI. STBY_COUNTER_INVALID clears VALID and
the counter restarts from 0. Other registers are unchanged. -/
def Obligations.StandbyCounterLoads : Prop :=
  ∀ (s : State) (v : Word),
    (s.hubUp → Ends (.pwrStbySetHiWrite v) s (fun u => stbyNow u = fld v 15 0 * 4294967296 + s.pwr.stbySet.toNat ∧
      rb u (pwrReg 0x020) 0 = true ∧ RegsKeep [pwrReg 0x020] s u ∧
      ∀ n, stbyNow { u with hub := { u.hub with now := u.hub.now + 1000000000 * n } } = (stbyNow u + 32768 * n) % 281474976710656)) ∧
    (s.hubUp → Ends .pwrStbyCntLoRead s (fun u => readVal (pwrReg 0x024) u = w32 (stbyNow s) ∧
      rd u (pwrReg 0x028) = w32 (stbyNow s / 4294967296 % 65536) ∧ OnlyRegs [pwrReg 0x028] s u)) ∧
    (∀ osc, Ends (.stbyCounterInvalid osc) s (fun u => stbyNow u = 0 ∧ rb u (pwrReg 0x020) 0 = false ∧ RegsKeep [pwrReg 0x020] s u))

/-- With the link to the companion up: FEED_DISABLE of an enabled feed while the other is not GOOD or has EN = 0 is ignored, with
REASON 0x7B. SLOT_CTL.RETRY clears RETRIES, and takes a LATCHED slot whose ON is 1 to WAIT; any other slot stays in its state, and
no other register of the companion changes. -/
def Obligations.LastFeedStaysOn : Prop :=
  ∀ s : State, s.hubUp → rb s hubStatus 2 = true → s.hub.cprst = false →
    (∀ x : Fin 2, crb s (feedReg x 0) 0 = true → feedGood (1 - x.val) s = false ∨ crb s (feedReg (1 - x.val) 0) 0 = false →
      Ends (.feedDisable x) s (fun u => crb u (feedReg x 0) 0 = true ∧ crf u (feedReg x 0x04) 7 0 = 0x7B ∧
        ∀ j, j ≠ feedReg x 0x04 → crd u j = crd s j)) ∧
    (∀ n : Fin 8, Ends (.slotCtlRetry n) s (fun u => crf u (slotReg' n 0x04) 23 16 = 0 ∧
      slotState n u = (if slotState n s = 6 ∧ slotOn n s = true then 1 else slotState n s) ∧
      ∀ j, j ≠ slotReg' n 0x04 → crd u j = crd s j))
end

