-- ==== Sys2Proof/Laws/State.lean ====
section
/-! SUPPORT. What each named update of the state leaves alone, field by field, and what it writes: true by unfolding. -/
namespace Sys2Proof.Laws
open Sys2Proof Sys2Proof.Machine

@[simp] theorem wr_pending (k : Nat) (v : Word) (s : State) : (wr k v s).pending = s.pending := rfl
@[simp] theorem wr_free (k : Nat) (v : Word) (s : State) : (wr k v s).free = s.free := rfl
@[simp] theorem wr_post (k : Nat) (v : Word) (s : State) : (wr k v s).post = s.post := rfl
@[simp] theorem wr_hub (k : Nat) (v : Word) (s : State) : (wr k v s).hub = s.hub := rfl
@[simp] theorem wr_lanes (k : Nat) (v : Word) (s : State) : (wr k v s).lanes = s.lanes := rfl
@[simp] theorem wr_ring (k : Nat) (v : Word) (s : State) : (wr k v s).ring = s.ring := rfl
@[simp] theorem wr_tx (k : Nat) (v : Word) (s : State) : (wr k v s).tx = s.tx := rfl
@[simp] theorem wr_ink (k : Nat) (v : Word) (s : State) : (wr k v s).ink = s.ink := rfl
@[simp] theorem wr_flt (k : Nat) (v : Word) (s : State) : (wr k v s).flt = s.flt := rfl
@[simp] theorem wr_mons (k : Nat) (v : Word) (s : State) : (wr k v s).mons = s.mons := rfl
@[simp] theorem wr_pins (k : Nat) (v : Word) (s : State) : (wr k v s).pins = s.pins := rfl
@[simp] theorem wr_nibs (k : Nat) (v : Word) (s : State) : (wr k v s).nibs = s.nibs := rfl
@[simp] theorem wr_stk (k : Nat) (v : Word) (s : State) : (wr k v s).stk = s.stk := rfl
@[simp] theorem wr_quills (k : Nat) (v : Word) (s : State) : (wr k v s).quills = s.quills := rfl
@[simp] theorem wr_time (k : Nat) (v : Word) (s : State) : (wr k v s).time = s.time := rfl
@[simp] theorem wr_pbp (k : Nat) (v : Word) (s : State) : (wr k v s).pbp = s.pbp := rfl
@[simp] theorem wr_cans (k : Nat) (v : Word) (s : State) : (wr k v s).cans = s.cans := rfl
@[simp] theorem wr_kc (k : Nat) (v : Word) (s : State) : (wr k v s).kc = s.kc := rfl
@[simp] theorem wr_roles (k : Nat) (v : Word) (s : State) : (wr k v s).roles = s.roles := rfl
@[simp] theorem wr_cph (k : Nat) (v : Word) (s : State) : (wr k v s).cph = s.cph := rfl
@[simp] theorem wr_pwr (k : Nat) (v : Word) (s : State) : (wr k v s).pwr = s.pwr := rfl
@[simp] theorem wr_boot (k : Nat) (v : Word) (s : State) : (wr k v s).boot = s.boot := rfl

@[simp] theorem wf_pending (k hi lo v : Nat) (s : State) : (wf k hi lo v s).pending = s.pending := rfl
@[simp] theorem wf_free (k hi lo v : Nat) (s : State) : (wf k hi lo v s).free = s.free := rfl
@[simp] theorem wf_post (k hi lo v : Nat) (s : State) : (wf k hi lo v s).post = s.post := rfl
@[simp] theorem wf_hub (k hi lo v : Nat) (s : State) : (wf k hi lo v s).hub = s.hub := rfl
@[simp] theorem wf_lanes (k hi lo v : Nat) (s : State) : (wf k hi lo v s).lanes = s.lanes := rfl
@[simp] theorem wf_ring (k hi lo v : Nat) (s : State) : (wf k hi lo v s).ring = s.ring := rfl
@[simp] theorem wf_tx (k hi lo v : Nat) (s : State) : (wf k hi lo v s).tx = s.tx := rfl
@[simp] theorem wf_ink (k hi lo v : Nat) (s : State) : (wf k hi lo v s).ink = s.ink := rfl
@[simp] theorem wf_flt (k hi lo v : Nat) (s : State) : (wf k hi lo v s).flt = s.flt := rfl
@[simp] theorem wf_mons (k hi lo v : Nat) (s : State) : (wf k hi lo v s).mons = s.mons := rfl
@[simp] theorem wf_pins (k hi lo v : Nat) (s : State) : (wf k hi lo v s).pins = s.pins := rfl
@[simp] theorem wf_nibs (k hi lo v : Nat) (s : State) : (wf k hi lo v s).nibs = s.nibs := rfl
@[simp] theorem wf_stk (k hi lo v : Nat) (s : State) : (wf k hi lo v s).stk = s.stk := rfl
@[simp] theorem wf_quills (k hi lo v : Nat) (s : State) : (wf k hi lo v s).quills = s.quills := rfl
@[simp] theorem wf_time (k hi lo v : Nat) (s : State) : (wf k hi lo v s).time = s.time := rfl
@[simp] theorem wf_pbp (k hi lo v : Nat) (s : State) : (wf k hi lo v s).pbp = s.pbp := rfl
@[simp] theorem wf_cans (k hi lo v : Nat) (s : State) : (wf k hi lo v s).cans = s.cans := rfl
@[simp] theorem wf_kc (k hi lo v : Nat) (s : State) : (wf k hi lo v s).kc = s.kc := rfl
@[simp] theorem wf_roles (k hi lo v : Nat) (s : State) : (wf k hi lo v s).roles = s.roles := rfl
@[simp] theorem wf_cph (k hi lo v : Nat) (s : State) : (wf k hi lo v s).cph = s.cph := rfl
@[simp] theorem wf_pwr (k hi lo v : Nat) (s : State) : (wf k hi lo v s).pwr = s.pwr := rfl
@[simp] theorem wf_boot (k hi lo v : Nat) (s : State) : (wf k hi lo v s).boot = s.boot := rfl

@[simp] theorem wb_pending (k i : Nat) (b : Bool) (s : State) : (wb k i b s).pending = s.pending := rfl
@[simp] theorem wb_free (k i : Nat) (b : Bool) (s : State) : (wb k i b s).free = s.free := rfl
@[simp] theorem wb_post (k i : Nat) (b : Bool) (s : State) : (wb k i b s).post = s.post := rfl
@[simp] theorem wb_hub (k i : Nat) (b : Bool) (s : State) : (wb k i b s).hub = s.hub := rfl
@[simp] theorem wb_lanes (k i : Nat) (b : Bool) (s : State) : (wb k i b s).lanes = s.lanes := rfl
@[simp] theorem wb_ring (k i : Nat) (b : Bool) (s : State) : (wb k i b s).ring = s.ring := rfl
@[simp] theorem wb_tx (k i : Nat) (b : Bool) (s : State) : (wb k i b s).tx = s.tx := rfl
@[simp] theorem wb_ink (k i : Nat) (b : Bool) (s : State) : (wb k i b s).ink = s.ink := rfl
@[simp] theorem wb_flt (k i : Nat) (b : Bool) (s : State) : (wb k i b s).flt = s.flt := rfl
@[simp] theorem wb_mons (k i : Nat) (b : Bool) (s : State) : (wb k i b s).mons = s.mons := rfl
@[simp] theorem wb_pins (k i : Nat) (b : Bool) (s : State) : (wb k i b s).pins = s.pins := rfl
@[simp] theorem wb_nibs (k i : Nat) (b : Bool) (s : State) : (wb k i b s).nibs = s.nibs := rfl
@[simp] theorem wb_stk (k i : Nat) (b : Bool) (s : State) : (wb k i b s).stk = s.stk := rfl
@[simp] theorem wb_quills (k i : Nat) (b : Bool) (s : State) : (wb k i b s).quills = s.quills := rfl
@[simp] theorem wb_time (k i : Nat) (b : Bool) (s : State) : (wb k i b s).time = s.time := rfl
@[simp] theorem wb_pbp (k i : Nat) (b : Bool) (s : State) : (wb k i b s).pbp = s.pbp := rfl
@[simp] theorem wb_cans (k i : Nat) (b : Bool) (s : State) : (wb k i b s).cans = s.cans := rfl
@[simp] theorem wb_kc (k i : Nat) (b : Bool) (s : State) : (wb k i b s).kc = s.kc := rfl
@[simp] theorem wb_roles (k i : Nat) (b : Bool) (s : State) : (wb k i b s).roles = s.roles := rfl
@[simp] theorem wb_cph (k i : Nat) (b : Bool) (s : State) : (wb k i b s).cph = s.cph := rfl
@[simp] theorem wb_pwr (k i : Nat) (b : Bool) (s : State) : (wb k i b s).pwr = s.pwr := rfl
@[simp] theorem wb_boot (k i : Nat) (b : Bool) (s : State) : (wb k i b s).boot = s.boot := rfl

@[simp] theorem bump_pending (k n : Nat) (s : State) : (bump k n s).pending = s.pending := rfl
@[simp] theorem bump_free (k n : Nat) (s : State) : (bump k n s).free = s.free := rfl
@[simp] theorem bump_post (k n : Nat) (s : State) : (bump k n s).post = s.post := rfl
@[simp] theorem bump_hub (k n : Nat) (s : State) : (bump k n s).hub = s.hub := rfl
@[simp] theorem bump_lanes (k n : Nat) (s : State) : (bump k n s).lanes = s.lanes := rfl
@[simp] theorem bump_ring (k n : Nat) (s : State) : (bump k n s).ring = s.ring := rfl
@[simp] theorem bump_tx (k n : Nat) (s : State) : (bump k n s).tx = s.tx := rfl
@[simp] theorem bump_ink (k n : Nat) (s : State) : (bump k n s).ink = s.ink := rfl
@[simp] theorem bump_flt (k n : Nat) (s : State) : (bump k n s).flt = s.flt := rfl
@[simp] theorem bump_mons (k n : Nat) (s : State) : (bump k n s).mons = s.mons := rfl
@[simp] theorem bump_pins (k n : Nat) (s : State) : (bump k n s).pins = s.pins := rfl
@[simp] theorem bump_nibs (k n : Nat) (s : State) : (bump k n s).nibs = s.nibs := rfl
@[simp] theorem bump_stk (k n : Nat) (s : State) : (bump k n s).stk = s.stk := rfl
@[simp] theorem bump_quills (k n : Nat) (s : State) : (bump k n s).quills = s.quills := rfl
@[simp] theorem bump_time (k n : Nat) (s : State) : (bump k n s).time = s.time := rfl
@[simp] theorem bump_pbp (k n : Nat) (s : State) : (bump k n s).pbp = s.pbp := rfl
@[simp] theorem bump_cans (k n : Nat) (s : State) : (bump k n s).cans = s.cans := rfl
@[simp] theorem bump_kc (k n : Nat) (s : State) : (bump k n s).kc = s.kc := rfl
@[simp] theorem bump_roles (k n : Nat) (s : State) : (bump k n s).roles = s.roles := rfl
@[simp] theorem bump_cph (k n : Nat) (s : State) : (bump k n s).cph = s.cph := rfl
@[simp] theorem bump_pwr (k n : Nat) (s : State) : (bump k n s).pwr = s.pwr := rfl
@[simp] theorem bump_boot (k n : Nat) (s : State) : (bump k n s).boot = s.boot := rfl

@[simp] theorem stm_pending (k : Nat) (m v : Word) (s : State) : (stm k m v s).pending = s.pending := rfl
@[simp] theorem stm_free (k : Nat) (m v : Word) (s : State) : (stm k m v s).free = s.free := rfl
@[simp] theorem stm_post (k : Nat) (m v : Word) (s : State) : (stm k m v s).post = s.post := rfl
@[simp] theorem stm_hub (k : Nat) (m v : Word) (s : State) : (stm k m v s).hub = s.hub := rfl
@[simp] theorem stm_lanes (k : Nat) (m v : Word) (s : State) : (stm k m v s).lanes = s.lanes := rfl
@[simp] theorem stm_ring (k : Nat) (m v : Word) (s : State) : (stm k m v s).ring = s.ring := rfl
@[simp] theorem stm_tx (k : Nat) (m v : Word) (s : State) : (stm k m v s).tx = s.tx := rfl
@[simp] theorem stm_ink (k : Nat) (m v : Word) (s : State) : (stm k m v s).ink = s.ink := rfl
@[simp] theorem stm_flt (k : Nat) (m v : Word) (s : State) : (stm k m v s).flt = s.flt := rfl
@[simp] theorem stm_mons (k : Nat) (m v : Word) (s : State) : (stm k m v s).mons = s.mons := rfl
@[simp] theorem stm_pins (k : Nat) (m v : Word) (s : State) : (stm k m v s).pins = s.pins := rfl
@[simp] theorem stm_nibs (k : Nat) (m v : Word) (s : State) : (stm k m v s).nibs = s.nibs := rfl
@[simp] theorem stm_stk (k : Nat) (m v : Word) (s : State) : (stm k m v s).stk = s.stk := rfl
@[simp] theorem stm_quills (k : Nat) (m v : Word) (s : State) : (stm k m v s).quills = s.quills := rfl
@[simp] theorem stm_time (k : Nat) (m v : Word) (s : State) : (stm k m v s).time = s.time := rfl
@[simp] theorem stm_pbp (k : Nat) (m v : Word) (s : State) : (stm k m v s).pbp = s.pbp := rfl
@[simp] theorem stm_cans (k : Nat) (m v : Word) (s : State) : (stm k m v s).cans = s.cans := rfl
@[simp] theorem stm_kc (k : Nat) (m v : Word) (s : State) : (stm k m v s).kc = s.kc := rfl
@[simp] theorem stm_roles (k : Nat) (m v : Word) (s : State) : (stm k m v s).roles = s.roles := rfl
@[simp] theorem stm_cph (k : Nat) (m v : Word) (s : State) : (stm k m v s).cph = s.cph := rfl
@[simp] theorem stm_pwr (k : Nat) (m v : Word) (s : State) : (stm k m v s).pwr = s.pwr := rfl
@[simp] theorem stm_boot (k : Nat) (m v : Word) (s : State) : (stm k m v s).boot = s.boot := rfl

@[simp] theorem setHub_pending (v : HubSt) (s : State) : (setHub v s).pending = s.pending := rfl
@[simp] theorem setHub_regs (v : HubSt) (s : State) : (setHub v s).regs = s.regs := rfl
@[simp] theorem setHub_free (v : HubSt) (s : State) : (setHub v s).free = s.free := rfl
@[simp] theorem setHub_post (v : HubSt) (s : State) : (setHub v s).post = s.post := rfl
@[simp] theorem setHub_hub (v : HubSt) (s : State) : (setHub v s).hub = v := rfl
@[simp] theorem setHub_lanes (v : HubSt) (s : State) : (setHub v s).lanes = s.lanes := rfl
@[simp] theorem setHub_ring (v : HubSt) (s : State) : (setHub v s).ring = s.ring := rfl
@[simp] theorem setHub_tx (v : HubSt) (s : State) : (setHub v s).tx = s.tx := rfl
@[simp] theorem setHub_ink (v : HubSt) (s : State) : (setHub v s).ink = s.ink := rfl
@[simp] theorem setHub_flt (v : HubSt) (s : State) : (setHub v s).flt = s.flt := rfl
@[simp] theorem setHub_mons (v : HubSt) (s : State) : (setHub v s).mons = s.mons := rfl
@[simp] theorem setHub_pins (v : HubSt) (s : State) : (setHub v s).pins = s.pins := rfl
@[simp] theorem setHub_nibs (v : HubSt) (s : State) : (setHub v s).nibs = s.nibs := rfl
@[simp] theorem setHub_stk (v : HubSt) (s : State) : (setHub v s).stk = s.stk := rfl
@[simp] theorem setHub_quills (v : HubSt) (s : State) : (setHub v s).quills = s.quills := rfl
@[simp] theorem setHub_time (v : HubSt) (s : State) : (setHub v s).time = s.time := rfl
@[simp] theorem setHub_pbp (v : HubSt) (s : State) : (setHub v s).pbp = s.pbp := rfl
@[simp] theorem setHub_cans (v : HubSt) (s : State) : (setHub v s).cans = s.cans := rfl
@[simp] theorem setHub_kc (v : HubSt) (s : State) : (setHub v s).kc = s.kc := rfl
@[simp] theorem setHub_roles (v : HubSt) (s : State) : (setHub v s).roles = s.roles := rfl
@[simp] theorem setHub_cph (v : HubSt) (s : State) : (setHub v s).cph = s.cph := rfl
@[simp] theorem setHub_pwr (v : HubSt) (s : State) : (setHub v s).pwr = s.pwr := rfl
@[simp] theorem setHub_boot (v : HubSt) (s : State) : (setHub v s).boot = s.boot := rfl
@[simp] theorem rd_setHub (v : HubSt) (s : State) (j : Nat) : rd (setHub v s) j = rd s j := rfl

@[simp] theorem setRing_pending (v : RingSt) (s : State) : (setRing v s).pending = s.pending := rfl
@[simp] theorem setRing_regs (v : RingSt) (s : State) : (setRing v s).regs = s.regs := rfl
@[simp] theorem setRing_free (v : RingSt) (s : State) : (setRing v s).free = s.free := rfl
@[simp] theorem setRing_post (v : RingSt) (s : State) : (setRing v s).post = s.post := rfl
@[simp] theorem setRing_hub (v : RingSt) (s : State) : (setRing v s).hub = s.hub := rfl
@[simp] theorem setRing_lanes (v : RingSt) (s : State) : (setRing v s).lanes = s.lanes := rfl
@[simp] theorem setRing_ring (v : RingSt) (s : State) : (setRing v s).ring = v := rfl
@[simp] theorem setRing_tx (v : RingSt) (s : State) : (setRing v s).tx = s.tx := rfl
@[simp] theorem setRing_ink (v : RingSt) (s : State) : (setRing v s).ink = s.ink := rfl
@[simp] theorem setRing_flt (v : RingSt) (s : State) : (setRing v s).flt = s.flt := rfl
@[simp] theorem setRing_mons (v : RingSt) (s : State) : (setRing v s).mons = s.mons := rfl
@[simp] theorem setRing_pins (v : RingSt) (s : State) : (setRing v s).pins = s.pins := rfl
@[simp] theorem setRing_nibs (v : RingSt) (s : State) : (setRing v s).nibs = s.nibs := rfl
@[simp] theorem setRing_stk (v : RingSt) (s : State) : (setRing v s).stk = s.stk := rfl
@[simp] theorem setRing_quills (v : RingSt) (s : State) : (setRing v s).quills = s.quills := rfl
@[simp] theorem setRing_time (v : RingSt) (s : State) : (setRing v s).time = s.time := rfl
@[simp] theorem setRing_pbp (v : RingSt) (s : State) : (setRing v s).pbp = s.pbp := rfl
@[simp] theorem setRing_cans (v : RingSt) (s : State) : (setRing v s).cans = s.cans := rfl
@[simp] theorem setRing_kc (v : RingSt) (s : State) : (setRing v s).kc = s.kc := rfl
@[simp] theorem setRing_roles (v : RingSt) (s : State) : (setRing v s).roles = s.roles := rfl
@[simp] theorem setRing_cph (v : RingSt) (s : State) : (setRing v s).cph = s.cph := rfl
@[simp] theorem setRing_pwr (v : RingSt) (s : State) : (setRing v s).pwr = s.pwr := rfl
@[simp] theorem setRing_boot (v : RingSt) (s : State) : (setRing v s).boot = s.boot := rfl
@[simp] theorem rd_setRing (v : RingSt) (s : State) (j : Nat) : rd (setRing v s) j = rd s j := rfl

@[simp] theorem setTx_pending (v : TxSt) (s : State) : (setTx v s).pending = s.pending := rfl
@[simp] theorem setTx_regs (v : TxSt) (s : State) : (setTx v s).regs = s.regs := rfl
@[simp] theorem setTx_free (v : TxSt) (s : State) : (setTx v s).free = s.free := rfl
@[simp] theorem setTx_post (v : TxSt) (s : State) : (setTx v s).post = s.post := rfl
@[simp] theorem setTx_hub (v : TxSt) (s : State) : (setTx v s).hub = s.hub := rfl
@[simp] theorem setTx_lanes (v : TxSt) (s : State) : (setTx v s).lanes = s.lanes := rfl
@[simp] theorem setTx_ring (v : TxSt) (s : State) : (setTx v s).ring = s.ring := rfl
@[simp] theorem setTx_tx (v : TxSt) (s : State) : (setTx v s).tx = v := rfl
@[simp] theorem setTx_ink (v : TxSt) (s : State) : (setTx v s).ink = s.ink := rfl
@[simp] theorem setTx_flt (v : TxSt) (s : State) : (setTx v s).flt = s.flt := rfl
@[simp] theorem setTx_mons (v : TxSt) (s : State) : (setTx v s).mons = s.mons := rfl
@[simp] theorem setTx_pins (v : TxSt) (s : State) : (setTx v s).pins = s.pins := rfl
@[simp] theorem setTx_nibs (v : TxSt) (s : State) : (setTx v s).nibs = s.nibs := rfl
@[simp] theorem setTx_stk (v : TxSt) (s : State) : (setTx v s).stk = s.stk := rfl
@[simp] theorem setTx_quills (v : TxSt) (s : State) : (setTx v s).quills = s.quills := rfl
@[simp] theorem setTx_time (v : TxSt) (s : State) : (setTx v s).time = s.time := rfl
@[simp] theorem setTx_pbp (v : TxSt) (s : State) : (setTx v s).pbp = s.pbp := rfl
@[simp] theorem setTx_cans (v : TxSt) (s : State) : (setTx v s).cans = s.cans := rfl
@[simp] theorem setTx_kc (v : TxSt) (s : State) : (setTx v s).kc = s.kc := rfl
@[simp] theorem setTx_roles (v : TxSt) (s : State) : (setTx v s).roles = s.roles := rfl
@[simp] theorem setTx_cph (v : TxSt) (s : State) : (setTx v s).cph = s.cph := rfl
@[simp] theorem setTx_pwr (v : TxSt) (s : State) : (setTx v s).pwr = s.pwr := rfl
@[simp] theorem setTx_boot (v : TxSt) (s : State) : (setTx v s).boot = s.boot := rfl
@[simp] theorem rd_setTx (v : TxSt) (s : State) (j : Nat) : rd (setTx v s) j = rd s j := rfl

@[simp] theorem setFlt_pending (v : FltSt) (s : State) : (setFlt v s).pending = s.pending := rfl
@[simp] theorem setFlt_regs (v : FltSt) (s : State) : (setFlt v s).regs = s.regs := rfl
@[simp] theorem setFlt_free (v : FltSt) (s : State) : (setFlt v s).free = s.free := rfl
@[simp] theorem setFlt_post (v : FltSt) (s : State) : (setFlt v s).post = s.post := rfl
@[simp] theorem setFlt_hub (v : FltSt) (s : State) : (setFlt v s).hub = s.hub := rfl
@[simp] theorem setFlt_lanes (v : FltSt) (s : State) : (setFlt v s).lanes = s.lanes := rfl
@[simp] theorem setFlt_ring (v : FltSt) (s : State) : (setFlt v s).ring = s.ring := rfl
@[simp] theorem setFlt_tx (v : FltSt) (s : State) : (setFlt v s).tx = s.tx := rfl
@[simp] theorem setFlt_ink (v : FltSt) (s : State) : (setFlt v s).ink = s.ink := rfl
@[simp] theorem setFlt_flt (v : FltSt) (s : State) : (setFlt v s).flt = v := rfl
@[simp] theorem setFlt_mons (v : FltSt) (s : State) : (setFlt v s).mons = s.mons := rfl
@[simp] theorem setFlt_pins (v : FltSt) (s : State) : (setFlt v s).pins = s.pins := rfl
@[simp] theorem setFlt_nibs (v : FltSt) (s : State) : (setFlt v s).nibs = s.nibs := rfl
@[simp] theorem setFlt_stk (v : FltSt) (s : State) : (setFlt v s).stk = s.stk := rfl
@[simp] theorem setFlt_quills (v : FltSt) (s : State) : (setFlt v s).quills = s.quills := rfl
@[simp] theorem setFlt_time (v : FltSt) (s : State) : (setFlt v s).time = s.time := rfl
@[simp] theorem setFlt_pbp (v : FltSt) (s : State) : (setFlt v s).pbp = s.pbp := rfl
@[simp] theorem setFlt_cans (v : FltSt) (s : State) : (setFlt v s).cans = s.cans := rfl
@[simp] theorem setFlt_kc (v : FltSt) (s : State) : (setFlt v s).kc = s.kc := rfl
@[simp] theorem setFlt_roles (v : FltSt) (s : State) : (setFlt v s).roles = s.roles := rfl
@[simp] theorem setFlt_cph (v : FltSt) (s : State) : (setFlt v s).cph = s.cph := rfl
@[simp] theorem setFlt_pwr (v : FltSt) (s : State) : (setFlt v s).pwr = s.pwr := rfl
@[simp] theorem setFlt_boot (v : FltSt) (s : State) : (setFlt v s).boot = s.boot := rfl
@[simp] theorem rd_setFlt (v : FltSt) (s : State) (j : Nat) : rd (setFlt v s) j = rd s j := rfl

@[simp] theorem setStk_pending (v : StkSt) (s : State) : (setStk v s).pending = s.pending := rfl
@[simp] theorem setStk_regs (v : StkSt) (s : State) : (setStk v s).regs = s.regs := rfl
@[simp] theorem setStk_free (v : StkSt) (s : State) : (setStk v s).free = s.free := rfl
@[simp] theorem setStk_post (v : StkSt) (s : State) : (setStk v s).post = s.post := rfl
@[simp] theorem setStk_hub (v : StkSt) (s : State) : (setStk v s).hub = s.hub := rfl
@[simp] theorem setStk_lanes (v : StkSt) (s : State) : (setStk v s).lanes = s.lanes := rfl
@[simp] theorem setStk_ring (v : StkSt) (s : State) : (setStk v s).ring = s.ring := rfl
@[simp] theorem setStk_tx (v : StkSt) (s : State) : (setStk v s).tx = s.tx := rfl
@[simp] theorem setStk_ink (v : StkSt) (s : State) : (setStk v s).ink = s.ink := rfl
@[simp] theorem setStk_flt (v : StkSt) (s : State) : (setStk v s).flt = s.flt := rfl
@[simp] theorem setStk_mons (v : StkSt) (s : State) : (setStk v s).mons = s.mons := rfl
@[simp] theorem setStk_pins (v : StkSt) (s : State) : (setStk v s).pins = s.pins := rfl
@[simp] theorem setStk_nibs (v : StkSt) (s : State) : (setStk v s).nibs = s.nibs := rfl
@[simp] theorem setStk_stk (v : StkSt) (s : State) : (setStk v s).stk = v := rfl
@[simp] theorem setStk_quills (v : StkSt) (s : State) : (setStk v s).quills = s.quills := rfl
@[simp] theorem setStk_time (v : StkSt) (s : State) : (setStk v s).time = s.time := rfl
@[simp] theorem setStk_pbp (v : StkSt) (s : State) : (setStk v s).pbp = s.pbp := rfl
@[simp] theorem setStk_cans (v : StkSt) (s : State) : (setStk v s).cans = s.cans := rfl
@[simp] theorem setStk_kc (v : StkSt) (s : State) : (setStk v s).kc = s.kc := rfl
@[simp] theorem setStk_roles (v : StkSt) (s : State) : (setStk v s).roles = s.roles := rfl
@[simp] theorem setStk_cph (v : StkSt) (s : State) : (setStk v s).cph = s.cph := rfl
@[simp] theorem setStk_pwr (v : StkSt) (s : State) : (setStk v s).pwr = s.pwr := rfl
@[simp] theorem setStk_boot (v : StkSt) (s : State) : (setStk v s).boot = s.boot := rfl
@[simp] theorem rd_setStk (v : StkSt) (s : State) (j : Nat) : rd (setStk v s) j = rd s j := rfl

@[simp] theorem setTime_pending (v : TimeSt) (s : State) : (setTime v s).pending = s.pending := rfl
@[simp] theorem setTime_regs (v : TimeSt) (s : State) : (setTime v s).regs = s.regs := rfl
@[simp] theorem setTime_free (v : TimeSt) (s : State) : (setTime v s).free = s.free := rfl
@[simp] theorem setTime_post (v : TimeSt) (s : State) : (setTime v s).post = s.post := rfl
@[simp] theorem setTime_hub (v : TimeSt) (s : State) : (setTime v s).hub = s.hub := rfl
@[simp] theorem setTime_lanes (v : TimeSt) (s : State) : (setTime v s).lanes = s.lanes := rfl
@[simp] theorem setTime_ring (v : TimeSt) (s : State) : (setTime v s).ring = s.ring := rfl
@[simp] theorem setTime_tx (v : TimeSt) (s : State) : (setTime v s).tx = s.tx := rfl
@[simp] theorem setTime_ink (v : TimeSt) (s : State) : (setTime v s).ink = s.ink := rfl
@[simp] theorem setTime_flt (v : TimeSt) (s : State) : (setTime v s).flt = s.flt := rfl
@[simp] theorem setTime_mons (v : TimeSt) (s : State) : (setTime v s).mons = s.mons := rfl
@[simp] theorem setTime_pins (v : TimeSt) (s : State) : (setTime v s).pins = s.pins := rfl
@[simp] theorem setTime_nibs (v : TimeSt) (s : State) : (setTime v s).nibs = s.nibs := rfl
@[simp] theorem setTime_stk (v : TimeSt) (s : State) : (setTime v s).stk = s.stk := rfl
@[simp] theorem setTime_quills (v : TimeSt) (s : State) : (setTime v s).quills = s.quills := rfl
@[simp] theorem setTime_time (v : TimeSt) (s : State) : (setTime v s).time = v := rfl
@[simp] theorem setTime_pbp (v : TimeSt) (s : State) : (setTime v s).pbp = s.pbp := rfl
@[simp] theorem setTime_cans (v : TimeSt) (s : State) : (setTime v s).cans = s.cans := rfl
@[simp] theorem setTime_kc (v : TimeSt) (s : State) : (setTime v s).kc = s.kc := rfl
@[simp] theorem setTime_roles (v : TimeSt) (s : State) : (setTime v s).roles = s.roles := rfl
@[simp] theorem setTime_cph (v : TimeSt) (s : State) : (setTime v s).cph = s.cph := rfl
@[simp] theorem setTime_pwr (v : TimeSt) (s : State) : (setTime v s).pwr = s.pwr := rfl
@[simp] theorem setTime_boot (v : TimeSt) (s : State) : (setTime v s).boot = s.boot := rfl
@[simp] theorem rd_setTime (v : TimeSt) (s : State) (j : Nat) : rd (setTime v s) j = rd s j := rfl

@[simp] theorem setPbp_pending (v : PbpSt) (s : State) : (setPbp v s).pending = s.pending := rfl
@[simp] theorem setPbp_regs (v : PbpSt) (s : State) : (setPbp v s).regs = s.regs := rfl
@[simp] theorem setPbp_free (v : PbpSt) (s : State) : (setPbp v s).free = s.free := rfl
@[simp] theorem setPbp_post (v : PbpSt) (s : State) : (setPbp v s).post = s.post := rfl
@[simp] theorem setPbp_hub (v : PbpSt) (s : State) : (setPbp v s).hub = s.hub := rfl
@[simp] theorem setPbp_lanes (v : PbpSt) (s : State) : (setPbp v s).lanes = s.lanes := rfl
@[simp] theorem setPbp_ring (v : PbpSt) (s : State) : (setPbp v s).ring = s.ring := rfl
@[simp] theorem setPbp_tx (v : PbpSt) (s : State) : (setPbp v s).tx = s.tx := rfl
@[simp] theorem setPbp_ink (v : PbpSt) (s : State) : (setPbp v s).ink = s.ink := rfl
@[simp] theorem setPbp_flt (v : PbpSt) (s : State) : (setPbp v s).flt = s.flt := rfl
@[simp] theorem setPbp_mons (v : PbpSt) (s : State) : (setPbp v s).mons = s.mons := rfl
@[simp] theorem setPbp_pins (v : PbpSt) (s : State) : (setPbp v s).pins = s.pins := rfl
@[simp] theorem setPbp_nibs (v : PbpSt) (s : State) : (setPbp v s).nibs = s.nibs := rfl
@[simp] theorem setPbp_stk (v : PbpSt) (s : State) : (setPbp v s).stk = s.stk := rfl
@[simp] theorem setPbp_quills (v : PbpSt) (s : State) : (setPbp v s).quills = s.quills := rfl
@[simp] theorem setPbp_time (v : PbpSt) (s : State) : (setPbp v s).time = s.time := rfl
@[simp] theorem setPbp_pbp (v : PbpSt) (s : State) : (setPbp v s).pbp = v := rfl
@[simp] theorem setPbp_cans (v : PbpSt) (s : State) : (setPbp v s).cans = s.cans := rfl
@[simp] theorem setPbp_kc (v : PbpSt) (s : State) : (setPbp v s).kc = s.kc := rfl
@[simp] theorem setPbp_roles (v : PbpSt) (s : State) : (setPbp v s).roles = s.roles := rfl
@[simp] theorem setPbp_cph (v : PbpSt) (s : State) : (setPbp v s).cph = s.cph := rfl
@[simp] theorem setPbp_pwr (v : PbpSt) (s : State) : (setPbp v s).pwr = s.pwr := rfl
@[simp] theorem setPbp_boot (v : PbpSt) (s : State) : (setPbp v s).boot = s.boot := rfl
@[simp] theorem rd_setPbp (v : PbpSt) (s : State) (j : Nat) : rd (setPbp v s) j = rd s j := rfl

@[simp] theorem setKc_pending (v : KcSt) (s : State) : (setKc v s).pending = s.pending := rfl
@[simp] theorem setKc_regs (v : KcSt) (s : State) : (setKc v s).regs = s.regs := rfl
@[simp] theorem setKc_free (v : KcSt) (s : State) : (setKc v s).free = s.free := rfl
@[simp] theorem setKc_post (v : KcSt) (s : State) : (setKc v s).post = s.post := rfl
@[simp] theorem setKc_hub (v : KcSt) (s : State) : (setKc v s).hub = s.hub := rfl
@[simp] theorem setKc_lanes (v : KcSt) (s : State) : (setKc v s).lanes = s.lanes := rfl
@[simp] theorem setKc_ring (v : KcSt) (s : State) : (setKc v s).ring = s.ring := rfl
@[simp] theorem setKc_tx (v : KcSt) (s : State) : (setKc v s).tx = s.tx := rfl
@[simp] theorem setKc_ink (v : KcSt) (s : State) : (setKc v s).ink = s.ink := rfl
@[simp] theorem setKc_flt (v : KcSt) (s : State) : (setKc v s).flt = s.flt := rfl
@[simp] theorem setKc_mons (v : KcSt) (s : State) : (setKc v s).mons = s.mons := rfl
@[simp] theorem setKc_pins (v : KcSt) (s : State) : (setKc v s).pins = s.pins := rfl
@[simp] theorem setKc_nibs (v : KcSt) (s : State) : (setKc v s).nibs = s.nibs := rfl
@[simp] theorem setKc_stk (v : KcSt) (s : State) : (setKc v s).stk = s.stk := rfl
@[simp] theorem setKc_quills (v : KcSt) (s : State) : (setKc v s).quills = s.quills := rfl
@[simp] theorem setKc_time (v : KcSt) (s : State) : (setKc v s).time = s.time := rfl
@[simp] theorem setKc_pbp (v : KcSt) (s : State) : (setKc v s).pbp = s.pbp := rfl
@[simp] theorem setKc_cans (v : KcSt) (s : State) : (setKc v s).cans = s.cans := rfl
@[simp] theorem setKc_kc (v : KcSt) (s : State) : (setKc v s).kc = v := rfl
@[simp] theorem setKc_roles (v : KcSt) (s : State) : (setKc v s).roles = s.roles := rfl
@[simp] theorem setKc_cph (v : KcSt) (s : State) : (setKc v s).cph = s.cph := rfl
@[simp] theorem setKc_pwr (v : KcSt) (s : State) : (setKc v s).pwr = s.pwr := rfl
@[simp] theorem setKc_boot (v : KcSt) (s : State) : (setKc v s).boot = s.boot := rfl
@[simp] theorem rd_setKc (v : KcSt) (s : State) (j : Nat) : rd (setKc v s) j = rd s j := rfl

@[simp] theorem setRoles_pending (v : RolesSt) (s : State) : (setRoles v s).pending = s.pending := rfl
@[simp] theorem setRoles_regs (v : RolesSt) (s : State) : (setRoles v s).regs = s.regs := rfl
@[simp] theorem setRoles_free (v : RolesSt) (s : State) : (setRoles v s).free = s.free := rfl
@[simp] theorem setRoles_post (v : RolesSt) (s : State) : (setRoles v s).post = s.post := rfl
@[simp] theorem setRoles_hub (v : RolesSt) (s : State) : (setRoles v s).hub = s.hub := rfl
@[simp] theorem setRoles_lanes (v : RolesSt) (s : State) : (setRoles v s).lanes = s.lanes := rfl
@[simp] theorem setRoles_ring (v : RolesSt) (s : State) : (setRoles v s).ring = s.ring := rfl
@[simp] theorem setRoles_tx (v : RolesSt) (s : State) : (setRoles v s).tx = s.tx := rfl
@[simp] theorem setRoles_ink (v : RolesSt) (s : State) : (setRoles v s).ink = s.ink := rfl
@[simp] theorem setRoles_flt (v : RolesSt) (s : State) : (setRoles v s).flt = s.flt := rfl
@[simp] theorem setRoles_mons (v : RolesSt) (s : State) : (setRoles v s).mons = s.mons := rfl
@[simp] theorem setRoles_pins (v : RolesSt) (s : State) : (setRoles v s).pins = s.pins := rfl
@[simp] theorem setRoles_nibs (v : RolesSt) (s : State) : (setRoles v s).nibs = s.nibs := rfl
@[simp] theorem setRoles_stk (v : RolesSt) (s : State) : (setRoles v s).stk = s.stk := rfl
@[simp] theorem setRoles_quills (v : RolesSt) (s : State) : (setRoles v s).quills = s.quills := rfl
@[simp] theorem setRoles_time (v : RolesSt) (s : State) : (setRoles v s).time = s.time := rfl
@[simp] theorem setRoles_pbp (v : RolesSt) (s : State) : (setRoles v s).pbp = s.pbp := rfl
@[simp] theorem setRoles_cans (v : RolesSt) (s : State) : (setRoles v s).cans = s.cans := rfl
@[simp] theorem setRoles_kc (v : RolesSt) (s : State) : (setRoles v s).kc = s.kc := rfl
@[simp] theorem setRoles_roles (v : RolesSt) (s : State) : (setRoles v s).roles = v := rfl
@[simp] theorem setRoles_cph (v : RolesSt) (s : State) : (setRoles v s).cph = s.cph := rfl
@[simp] theorem setRoles_pwr (v : RolesSt) (s : State) : (setRoles v s).pwr = s.pwr := rfl
@[simp] theorem setRoles_boot (v : RolesSt) (s : State) : (setRoles v s).boot = s.boot := rfl
@[simp] theorem rd_setRoles (v : RolesSt) (s : State) (j : Nat) : rd (setRoles v s) j = rd s j := rfl

@[simp] theorem setCph_pending (v : CphSt) (s : State) : (setCph v s).pending = s.pending := rfl
@[simp] theorem setCph_regs (v : CphSt) (s : State) : (setCph v s).regs = s.regs := rfl
@[simp] theorem setCph_free (v : CphSt) (s : State) : (setCph v s).free = s.free := rfl
@[simp] theorem setCph_post (v : CphSt) (s : State) : (setCph v s).post = s.post := rfl
@[simp] theorem setCph_hub (v : CphSt) (s : State) : (setCph v s).hub = s.hub := rfl
@[simp] theorem setCph_lanes (v : CphSt) (s : State) : (setCph v s).lanes = s.lanes := rfl
@[simp] theorem setCph_ring (v : CphSt) (s : State) : (setCph v s).ring = s.ring := rfl
@[simp] theorem setCph_tx (v : CphSt) (s : State) : (setCph v s).tx = s.tx := rfl
@[simp] theorem setCph_ink (v : CphSt) (s : State) : (setCph v s).ink = s.ink := rfl
@[simp] theorem setCph_flt (v : CphSt) (s : State) : (setCph v s).flt = s.flt := rfl
@[simp] theorem setCph_mons (v : CphSt) (s : State) : (setCph v s).mons = s.mons := rfl
@[simp] theorem setCph_pins (v : CphSt) (s : State) : (setCph v s).pins = s.pins := rfl
@[simp] theorem setCph_nibs (v : CphSt) (s : State) : (setCph v s).nibs = s.nibs := rfl
@[simp] theorem setCph_stk (v : CphSt) (s : State) : (setCph v s).stk = s.stk := rfl
@[simp] theorem setCph_quills (v : CphSt) (s : State) : (setCph v s).quills = s.quills := rfl
@[simp] theorem setCph_time (v : CphSt) (s : State) : (setCph v s).time = s.time := rfl
@[simp] theorem setCph_pbp (v : CphSt) (s : State) : (setCph v s).pbp = s.pbp := rfl
@[simp] theorem setCph_cans (v : CphSt) (s : State) : (setCph v s).cans = s.cans := rfl
@[simp] theorem setCph_kc (v : CphSt) (s : State) : (setCph v s).kc = s.kc := rfl
@[simp] theorem setCph_roles (v : CphSt) (s : State) : (setCph v s).roles = s.roles := rfl
@[simp] theorem setCph_cph (v : CphSt) (s : State) : (setCph v s).cph = v := rfl
@[simp] theorem setCph_pwr (v : CphSt) (s : State) : (setCph v s).pwr = s.pwr := rfl
@[simp] theorem setCph_boot (v : CphSt) (s : State) : (setCph v s).boot = s.boot := rfl
@[simp] theorem rd_setCph (v : CphSt) (s : State) (j : Nat) : rd (setCph v s) j = rd s j := rfl

@[simp] theorem setPwr_pending (v : PwrSt) (s : State) : (setPwr v s).pending = s.pending := rfl
@[simp] theorem setPwr_regs (v : PwrSt) (s : State) : (setPwr v s).regs = s.regs := rfl
@[simp] theorem setPwr_free (v : PwrSt) (s : State) : (setPwr v s).free = s.free := rfl
@[simp] theorem setPwr_post (v : PwrSt) (s : State) : (setPwr v s).post = s.post := rfl
@[simp] theorem setPwr_hub (v : PwrSt) (s : State) : (setPwr v s).hub = s.hub := rfl
@[simp] theorem setPwr_lanes (v : PwrSt) (s : State) : (setPwr v s).lanes = s.lanes := rfl
@[simp] theorem setPwr_ring (v : PwrSt) (s : State) : (setPwr v s).ring = s.ring := rfl
@[simp] theorem setPwr_tx (v : PwrSt) (s : State) : (setPwr v s).tx = s.tx := rfl
@[simp] theorem setPwr_ink (v : PwrSt) (s : State) : (setPwr v s).ink = s.ink := rfl
@[simp] theorem setPwr_flt (v : PwrSt) (s : State) : (setPwr v s).flt = s.flt := rfl
@[simp] theorem setPwr_mons (v : PwrSt) (s : State) : (setPwr v s).mons = s.mons := rfl
@[simp] theorem setPwr_pins (v : PwrSt) (s : State) : (setPwr v s).pins = s.pins := rfl
@[simp] theorem setPwr_nibs (v : PwrSt) (s : State) : (setPwr v s).nibs = s.nibs := rfl
@[simp] theorem setPwr_stk (v : PwrSt) (s : State) : (setPwr v s).stk = s.stk := rfl
@[simp] theorem setPwr_quills (v : PwrSt) (s : State) : (setPwr v s).quills = s.quills := rfl
@[simp] theorem setPwr_time (v : PwrSt) (s : State) : (setPwr v s).time = s.time := rfl
@[simp] theorem setPwr_pbp (v : PwrSt) (s : State) : (setPwr v s).pbp = s.pbp := rfl
@[simp] theorem setPwr_cans (v : PwrSt) (s : State) : (setPwr v s).cans = s.cans := rfl
@[simp] theorem setPwr_kc (v : PwrSt) (s : State) : (setPwr v s).kc = s.kc := rfl
@[simp] theorem setPwr_roles (v : PwrSt) (s : State) : (setPwr v s).roles = s.roles := rfl
@[simp] theorem setPwr_cph (v : PwrSt) (s : State) : (setPwr v s).cph = s.cph := rfl
@[simp] theorem setPwr_pwr (v : PwrSt) (s : State) : (setPwr v s).pwr = v := rfl
@[simp] theorem setPwr_boot (v : PwrSt) (s : State) : (setPwr v s).boot = s.boot := rfl
@[simp] theorem rd_setPwr (v : PwrSt) (s : State) (j : Nat) : rd (setPwr v s) j = rd s j := rfl

@[simp] theorem setBoot_pending (v : BootSt) (s : State) : (setBoot v s).pending = s.pending := rfl
@[simp] theorem setBoot_regs (v : BootSt) (s : State) : (setBoot v s).regs = s.regs := rfl
@[simp] theorem setBoot_free (v : BootSt) (s : State) : (setBoot v s).free = s.free := rfl
@[simp] theorem setBoot_post (v : BootSt) (s : State) : (setBoot v s).post = s.post := rfl
@[simp] theorem setBoot_hub (v : BootSt) (s : State) : (setBoot v s).hub = s.hub := rfl
@[simp] theorem setBoot_lanes (v : BootSt) (s : State) : (setBoot v s).lanes = s.lanes := rfl
@[simp] theorem setBoot_ring (v : BootSt) (s : State) : (setBoot v s).ring = s.ring := rfl
@[simp] theorem setBoot_tx (v : BootSt) (s : State) : (setBoot v s).tx = s.tx := rfl
@[simp] theorem setBoot_ink (v : BootSt) (s : State) : (setBoot v s).ink = s.ink := rfl
@[simp] theorem setBoot_flt (v : BootSt) (s : State) : (setBoot v s).flt = s.flt := rfl
@[simp] theorem setBoot_mons (v : BootSt) (s : State) : (setBoot v s).mons = s.mons := rfl
@[simp] theorem setBoot_pins (v : BootSt) (s : State) : (setBoot v s).pins = s.pins := rfl
@[simp] theorem setBoot_nibs (v : BootSt) (s : State) : (setBoot v s).nibs = s.nibs := rfl
@[simp] theorem setBoot_stk (v : BootSt) (s : State) : (setBoot v s).stk = s.stk := rfl
@[simp] theorem setBoot_quills (v : BootSt) (s : State) : (setBoot v s).quills = s.quills := rfl
@[simp] theorem setBoot_time (v : BootSt) (s : State) : (setBoot v s).time = s.time := rfl
@[simp] theorem setBoot_pbp (v : BootSt) (s : State) : (setBoot v s).pbp = s.pbp := rfl
@[simp] theorem setBoot_cans (v : BootSt) (s : State) : (setBoot v s).cans = s.cans := rfl
@[simp] theorem setBoot_kc (v : BootSt) (s : State) : (setBoot v s).kc = s.kc := rfl
@[simp] theorem setBoot_roles (v : BootSt) (s : State) : (setBoot v s).roles = s.roles := rfl
@[simp] theorem setBoot_cph (v : BootSt) (s : State) : (setBoot v s).cph = s.cph := rfl
@[simp] theorem setBoot_pwr (v : BootSt) (s : State) : (setBoot v s).pwr = s.pwr := rfl
@[simp] theorem setBoot_boot (v : BootSt) (s : State) : (setBoot v s).boot = v := rfl
@[simp] theorem rd_setBoot (v : BootSt) (s : State) (j : Nat) : rd (setBoot v s) j = rd s j := rfl

@[simp] theorem setLane_pending (i : Nat) (v : LaneSt) (s : State) : (setLane i v s).pending = s.pending := rfl
@[simp] theorem setLane_regs (i : Nat) (v : LaneSt) (s : State) : (setLane i v s).regs = s.regs := rfl
@[simp] theorem setLane_free (i : Nat) (v : LaneSt) (s : State) : (setLane i v s).free = s.free := rfl
@[simp] theorem setLane_post (i : Nat) (v : LaneSt) (s : State) : (setLane i v s).post = s.post := rfl
@[simp] theorem setLane_hub (i : Nat) (v : LaneSt) (s : State) : (setLane i v s).hub = s.hub := rfl
@[simp] theorem setLane_ring (i : Nat) (v : LaneSt) (s : State) : (setLane i v s).ring = s.ring := rfl
@[simp] theorem setLane_tx (i : Nat) (v : LaneSt) (s : State) : (setLane i v s).tx = s.tx := rfl
@[simp] theorem setLane_ink (i : Nat) (v : LaneSt) (s : State) : (setLane i v s).ink = s.ink := rfl
@[simp] theorem setLane_flt (i : Nat) (v : LaneSt) (s : State) : (setLane i v s).flt = s.flt := rfl
@[simp] theorem setLane_mons (i : Nat) (v : LaneSt) (s : State) : (setLane i v s).mons = s.mons := rfl
@[simp] theorem setLane_pins (i : Nat) (v : LaneSt) (s : State) : (setLane i v s).pins = s.pins := rfl
@[simp] theorem setLane_nibs (i : Nat) (v : LaneSt) (s : State) : (setLane i v s).nibs = s.nibs := rfl
@[simp] theorem setLane_stk (i : Nat) (v : LaneSt) (s : State) : (setLane i v s).stk = s.stk := rfl
@[simp] theorem setLane_quills (i : Nat) (v : LaneSt) (s : State) : (setLane i v s).quills = s.quills := rfl
@[simp] theorem setLane_time (i : Nat) (v : LaneSt) (s : State) : (setLane i v s).time = s.time := rfl
@[simp] theorem setLane_pbp (i : Nat) (v : LaneSt) (s : State) : (setLane i v s).pbp = s.pbp := rfl
@[simp] theorem setLane_cans (i : Nat) (v : LaneSt) (s : State) : (setLane i v s).cans = s.cans := rfl
@[simp] theorem setLane_kc (i : Nat) (v : LaneSt) (s : State) : (setLane i v s).kc = s.kc := rfl
@[simp] theorem setLane_roles (i : Nat) (v : LaneSt) (s : State) : (setLane i v s).roles = s.roles := rfl
@[simp] theorem setLane_cph (i : Nat) (v : LaneSt) (s : State) : (setLane i v s).cph = s.cph := rfl
@[simp] theorem setLane_pwr (i : Nat) (v : LaneSt) (s : State) : (setLane i v s).pwr = s.pwr := rfl
@[simp] theorem setLane_boot (i : Nat) (v : LaneSt) (s : State) : (setLane i v s).boot = s.boot := rfl
@[simp] theorem rd_setLane (i : Nat) (v : LaneSt) (s : State) (j : Nat) : rd (setLane i v s) j = rd s j := rfl

@[simp] theorem setMon_pending (i : Nat) (v : MonSt) (s : State) : (setMon i v s).pending = s.pending := rfl
@[simp] theorem setMon_regs (i : Nat) (v : MonSt) (s : State) : (setMon i v s).regs = s.regs := rfl
@[simp] theorem setMon_free (i : Nat) (v : MonSt) (s : State) : (setMon i v s).free = s.free := rfl
@[simp] theorem setMon_post (i : Nat) (v : MonSt) (s : State) : (setMon i v s).post = s.post := rfl
@[simp] theorem setMon_hub (i : Nat) (v : MonSt) (s : State) : (setMon i v s).hub = s.hub := rfl
@[simp] theorem setMon_lanes (i : Nat) (v : MonSt) (s : State) : (setMon i v s).lanes = s.lanes := rfl
@[simp] theorem setMon_ring (i : Nat) (v : MonSt) (s : State) : (setMon i v s).ring = s.ring := rfl
@[simp] theorem setMon_tx (i : Nat) (v : MonSt) (s : State) : (setMon i v s).tx = s.tx := rfl
@[simp] theorem setMon_ink (i : Nat) (v : MonSt) (s : State) : (setMon i v s).ink = s.ink := rfl
@[simp] theorem setMon_flt (i : Nat) (v : MonSt) (s : State) : (setMon i v s).flt = s.flt := rfl
@[simp] theorem setMon_pins (i : Nat) (v : MonSt) (s : State) : (setMon i v s).pins = s.pins := rfl
@[simp] theorem setMon_nibs (i : Nat) (v : MonSt) (s : State) : (setMon i v s).nibs = s.nibs := rfl
@[simp] theorem setMon_stk (i : Nat) (v : MonSt) (s : State) : (setMon i v s).stk = s.stk := rfl
@[simp] theorem setMon_quills (i : Nat) (v : MonSt) (s : State) : (setMon i v s).quills = s.quills := rfl
@[simp] theorem setMon_time (i : Nat) (v : MonSt) (s : State) : (setMon i v s).time = s.time := rfl
@[simp] theorem setMon_pbp (i : Nat) (v : MonSt) (s : State) : (setMon i v s).pbp = s.pbp := rfl
@[simp] theorem setMon_cans (i : Nat) (v : MonSt) (s : State) : (setMon i v s).cans = s.cans := rfl
@[simp] theorem setMon_kc (i : Nat) (v : MonSt) (s : State) : (setMon i v s).kc = s.kc := rfl
@[simp] theorem setMon_roles (i : Nat) (v : MonSt) (s : State) : (setMon i v s).roles = s.roles := rfl
@[simp] theorem setMon_cph (i : Nat) (v : MonSt) (s : State) : (setMon i v s).cph = s.cph := rfl
@[simp] theorem setMon_pwr (i : Nat) (v : MonSt) (s : State) : (setMon i v s).pwr = s.pwr := rfl
@[simp] theorem setMon_boot (i : Nat) (v : MonSt) (s : State) : (setMon i v s).boot = s.boot := rfl
@[simp] theorem rd_setMon (i : Nat) (v : MonSt) (s : State) (j : Nat) : rd (setMon i v s) j = rd s j := rfl

@[simp] theorem setPin_pending (i : Nat) (v : PinSt) (s : State) : (setPin i v s).pending = s.pending := rfl
@[simp] theorem setPin_regs (i : Nat) (v : PinSt) (s : State) : (setPin i v s).regs = s.regs := rfl
@[simp] theorem setPin_free (i : Nat) (v : PinSt) (s : State) : (setPin i v s).free = s.free := rfl
@[simp] theorem setPin_post (i : Nat) (v : PinSt) (s : State) : (setPin i v s).post = s.post := rfl
@[simp] theorem setPin_hub (i : Nat) (v : PinSt) (s : State) : (setPin i v s).hub = s.hub := rfl
@[simp] theorem setPin_lanes (i : Nat) (v : PinSt) (s : State) : (setPin i v s).lanes = s.lanes := rfl
@[simp] theorem setPin_ring (i : Nat) (v : PinSt) (s : State) : (setPin i v s).ring = s.ring := rfl
@[simp] theorem setPin_tx (i : Nat) (v : PinSt) (s : State) : (setPin i v s).tx = s.tx := rfl
@[simp] theorem setPin_ink (i : Nat) (v : PinSt) (s : State) : (setPin i v s).ink = s.ink := rfl
@[simp] theorem setPin_flt (i : Nat) (v : PinSt) (s : State) : (setPin i v s).flt = s.flt := rfl
@[simp] theorem setPin_mons (i : Nat) (v : PinSt) (s : State) : (setPin i v s).mons = s.mons := rfl
@[simp] theorem setPin_nibs (i : Nat) (v : PinSt) (s : State) : (setPin i v s).nibs = s.nibs := rfl
@[simp] theorem setPin_stk (i : Nat) (v : PinSt) (s : State) : (setPin i v s).stk = s.stk := rfl
@[simp] theorem setPin_quills (i : Nat) (v : PinSt) (s : State) : (setPin i v s).quills = s.quills := rfl
@[simp] theorem setPin_time (i : Nat) (v : PinSt) (s : State) : (setPin i v s).time = s.time := rfl
@[simp] theorem setPin_pbp (i : Nat) (v : PinSt) (s : State) : (setPin i v s).pbp = s.pbp := rfl
@[simp] theorem setPin_cans (i : Nat) (v : PinSt) (s : State) : (setPin i v s).cans = s.cans := rfl
@[simp] theorem setPin_kc (i : Nat) (v : PinSt) (s : State) : (setPin i v s).kc = s.kc := rfl
@[simp] theorem setPin_roles (i : Nat) (v : PinSt) (s : State) : (setPin i v s).roles = s.roles := rfl
@[simp] theorem setPin_cph (i : Nat) (v : PinSt) (s : State) : (setPin i v s).cph = s.cph := rfl
@[simp] theorem setPin_pwr (i : Nat) (v : PinSt) (s : State) : (setPin i v s).pwr = s.pwr := rfl
@[simp] theorem setPin_boot (i : Nat) (v : PinSt) (s : State) : (setPin i v s).boot = s.boot := rfl
@[simp] theorem rd_setPin (i : Nat) (v : PinSt) (s : State) (j : Nat) : rd (setPin i v s) j = rd s j := rfl

@[simp] theorem setNib_pending (i : Nat) (v : NibSt) (s : State) : (setNib i v s).pending = s.pending := rfl
@[simp] theorem setNib_regs (i : Nat) (v : NibSt) (s : State) : (setNib i v s).regs = s.regs := rfl
@[simp] theorem setNib_free (i : Nat) (v : NibSt) (s : State) : (setNib i v s).free = s.free := rfl
@[simp] theorem setNib_post (i : Nat) (v : NibSt) (s : State) : (setNib i v s).post = s.post := rfl
@[simp] theorem setNib_hub (i : Nat) (v : NibSt) (s : State) : (setNib i v s).hub = s.hub := rfl
@[simp] theorem setNib_lanes (i : Nat) (v : NibSt) (s : State) : (setNib i v s).lanes = s.lanes := rfl
@[simp] theorem setNib_ring (i : Nat) (v : NibSt) (s : State) : (setNib i v s).ring = s.ring := rfl
@[simp] theorem setNib_tx (i : Nat) (v : NibSt) (s : State) : (setNib i v s).tx = s.tx := rfl
@[simp] theorem setNib_ink (i : Nat) (v : NibSt) (s : State) : (setNib i v s).ink = s.ink := rfl
@[simp] theorem setNib_flt (i : Nat) (v : NibSt) (s : State) : (setNib i v s).flt = s.flt := rfl
@[simp] theorem setNib_mons (i : Nat) (v : NibSt) (s : State) : (setNib i v s).mons = s.mons := rfl
@[simp] theorem setNib_pins (i : Nat) (v : NibSt) (s : State) : (setNib i v s).pins = s.pins := rfl
@[simp] theorem setNib_stk (i : Nat) (v : NibSt) (s : State) : (setNib i v s).stk = s.stk := rfl
@[simp] theorem setNib_quills (i : Nat) (v : NibSt) (s : State) : (setNib i v s).quills = s.quills := rfl
@[simp] theorem setNib_time (i : Nat) (v : NibSt) (s : State) : (setNib i v s).time = s.time := rfl
@[simp] theorem setNib_pbp (i : Nat) (v : NibSt) (s : State) : (setNib i v s).pbp = s.pbp := rfl
@[simp] theorem setNib_cans (i : Nat) (v : NibSt) (s : State) : (setNib i v s).cans = s.cans := rfl
@[simp] theorem setNib_kc (i : Nat) (v : NibSt) (s : State) : (setNib i v s).kc = s.kc := rfl
@[simp] theorem setNib_roles (i : Nat) (v : NibSt) (s : State) : (setNib i v s).roles = s.roles := rfl
@[simp] theorem setNib_cph (i : Nat) (v : NibSt) (s : State) : (setNib i v s).cph = s.cph := rfl
@[simp] theorem setNib_pwr (i : Nat) (v : NibSt) (s : State) : (setNib i v s).pwr = s.pwr := rfl
@[simp] theorem setNib_boot (i : Nat) (v : NibSt) (s : State) : (setNib i v s).boot = s.boot := rfl
@[simp] theorem rd_setNib (i : Nat) (v : NibSt) (s : State) (j : Nat) : rd (setNib i v s) j = rd s j := rfl

@[simp] theorem setQuill_pending (i : Nat) (v : QuillSt) (s : State) : (setQuill i v s).pending = s.pending := rfl
@[simp] theorem setQuill_regs (i : Nat) (v : QuillSt) (s : State) : (setQuill i v s).regs = s.regs := rfl
@[simp] theorem setQuill_free (i : Nat) (v : QuillSt) (s : State) : (setQuill i v s).free = s.free := rfl
@[simp] theorem setQuill_post (i : Nat) (v : QuillSt) (s : State) : (setQuill i v s).post = s.post := rfl
@[simp] theorem setQuill_hub (i : Nat) (v : QuillSt) (s : State) : (setQuill i v s).hub = s.hub := rfl
@[simp] theorem setQuill_lanes (i : Nat) (v : QuillSt) (s : State) : (setQuill i v s).lanes = s.lanes := rfl
@[simp] theorem setQuill_ring (i : Nat) (v : QuillSt) (s : State) : (setQuill i v s).ring = s.ring := rfl
@[simp] theorem setQuill_tx (i : Nat) (v : QuillSt) (s : State) : (setQuill i v s).tx = s.tx := rfl
@[simp] theorem setQuill_ink (i : Nat) (v : QuillSt) (s : State) : (setQuill i v s).ink = s.ink := rfl
@[simp] theorem setQuill_flt (i : Nat) (v : QuillSt) (s : State) : (setQuill i v s).flt = s.flt := rfl
@[simp] theorem setQuill_mons (i : Nat) (v : QuillSt) (s : State) : (setQuill i v s).mons = s.mons := rfl
@[simp] theorem setQuill_pins (i : Nat) (v : QuillSt) (s : State) : (setQuill i v s).pins = s.pins := rfl
@[simp] theorem setQuill_nibs (i : Nat) (v : QuillSt) (s : State) : (setQuill i v s).nibs = s.nibs := rfl
@[simp] theorem setQuill_stk (i : Nat) (v : QuillSt) (s : State) : (setQuill i v s).stk = s.stk := rfl
@[simp] theorem setQuill_time (i : Nat) (v : QuillSt) (s : State) : (setQuill i v s).time = s.time := rfl
@[simp] theorem setQuill_pbp (i : Nat) (v : QuillSt) (s : State) : (setQuill i v s).pbp = s.pbp := rfl
@[simp] theorem setQuill_cans (i : Nat) (v : QuillSt) (s : State) : (setQuill i v s).cans = s.cans := rfl
@[simp] theorem setQuill_kc (i : Nat) (v : QuillSt) (s : State) : (setQuill i v s).kc = s.kc := rfl
@[simp] theorem setQuill_roles (i : Nat) (v : QuillSt) (s : State) : (setQuill i v s).roles = s.roles := rfl
@[simp] theorem setQuill_cph (i : Nat) (v : QuillSt) (s : State) : (setQuill i v s).cph = s.cph := rfl
@[simp] theorem setQuill_pwr (i : Nat) (v : QuillSt) (s : State) : (setQuill i v s).pwr = s.pwr := rfl
@[simp] theorem setQuill_boot (i : Nat) (v : QuillSt) (s : State) : (setQuill i v s).boot = s.boot := rfl
@[simp] theorem rd_setQuill (i : Nat) (v : QuillSt) (s : State) (j : Nat) : rd (setQuill i v s) j = rd s j := rfl

@[simp] theorem setCan_pending (i : Nat) (v : CanSt) (s : State) : (setCan i v s).pending = s.pending := rfl
@[simp] theorem setCan_regs (i : Nat) (v : CanSt) (s : State) : (setCan i v s).regs = s.regs := rfl
@[simp] theorem setCan_free (i : Nat) (v : CanSt) (s : State) : (setCan i v s).free = s.free := rfl
@[simp] theorem setCan_post (i : Nat) (v : CanSt) (s : State) : (setCan i v s).post = s.post := rfl
@[simp] theorem setCan_hub (i : Nat) (v : CanSt) (s : State) : (setCan i v s).hub = s.hub := rfl
@[simp] theorem setCan_lanes (i : Nat) (v : CanSt) (s : State) : (setCan i v s).lanes = s.lanes := rfl
@[simp] theorem setCan_ring (i : Nat) (v : CanSt) (s : State) : (setCan i v s).ring = s.ring := rfl
@[simp] theorem setCan_tx (i : Nat) (v : CanSt) (s : State) : (setCan i v s).tx = s.tx := rfl
@[simp] theorem setCan_ink (i : Nat) (v : CanSt) (s : State) : (setCan i v s).ink = s.ink := rfl
@[simp] theorem setCan_flt (i : Nat) (v : CanSt) (s : State) : (setCan i v s).flt = s.flt := rfl
@[simp] theorem setCan_mons (i : Nat) (v : CanSt) (s : State) : (setCan i v s).mons = s.mons := rfl
@[simp] theorem setCan_pins (i : Nat) (v : CanSt) (s : State) : (setCan i v s).pins = s.pins := rfl
@[simp] theorem setCan_nibs (i : Nat) (v : CanSt) (s : State) : (setCan i v s).nibs = s.nibs := rfl
@[simp] theorem setCan_stk (i : Nat) (v : CanSt) (s : State) : (setCan i v s).stk = s.stk := rfl
@[simp] theorem setCan_quills (i : Nat) (v : CanSt) (s : State) : (setCan i v s).quills = s.quills := rfl
@[simp] theorem setCan_time (i : Nat) (v : CanSt) (s : State) : (setCan i v s).time = s.time := rfl
@[simp] theorem setCan_pbp (i : Nat) (v : CanSt) (s : State) : (setCan i v s).pbp = s.pbp := rfl
@[simp] theorem setCan_kc (i : Nat) (v : CanSt) (s : State) : (setCan i v s).kc = s.kc := rfl
@[simp] theorem setCan_roles (i : Nat) (v : CanSt) (s : State) : (setCan i v s).roles = s.roles := rfl
@[simp] theorem setCan_cph (i : Nat) (v : CanSt) (s : State) : (setCan i v s).cph = s.cph := rfl
@[simp] theorem setCan_pwr (i : Nat) (v : CanSt) (s : State) : (setCan i v s).pwr = s.pwr := rfl
@[simp] theorem setCan_boot (i : Nat) (v : CanSt) (s : State) : (setCan i v s).boot = s.boot := rfl
@[simp] theorem rd_setCan (i : Nat) (v : CanSt) (s : State) (j : Nat) : rd (setCan i v s) j = rd s j := rfl

@[simp] theorem setBase_pending (i : Nat) (v : BaseSt) (s : State) : (setBase i v s).pending = s.pending := rfl
@[simp] theorem setBase_regs (i : Nat) (v : BaseSt) (s : State) : (setBase i v s).regs = s.regs := rfl
@[simp] theorem setBase_free (i : Nat) (v : BaseSt) (s : State) : (setBase i v s).free = s.free := rfl
@[simp] theorem setBase_post (i : Nat) (v : BaseSt) (s : State) : (setBase i v s).post = s.post := rfl
@[simp] theorem setBase_hub (i : Nat) (v : BaseSt) (s : State) : (setBase i v s).hub = s.hub := rfl
@[simp] theorem setBase_lanes (i : Nat) (v : BaseSt) (s : State) : (setBase i v s).lanes = s.lanes := rfl
@[simp] theorem setBase_ring (i : Nat) (v : BaseSt) (s : State) : (setBase i v s).ring = s.ring := rfl
@[simp] theorem setBase_tx (i : Nat) (v : BaseSt) (s : State) : (setBase i v s).tx = s.tx := rfl
@[simp] theorem setBase_ink (i : Nat) (v : BaseSt) (s : State) : (setBase i v s).ink = s.ink := rfl
@[simp] theorem setBase_flt (i : Nat) (v : BaseSt) (s : State) : (setBase i v s).flt = s.flt := rfl
@[simp] theorem setBase_mons (i : Nat) (v : BaseSt) (s : State) : (setBase i v s).mons = s.mons := rfl
@[simp] theorem setBase_pins (i : Nat) (v : BaseSt) (s : State) : (setBase i v s).pins = s.pins := rfl
@[simp] theorem setBase_nibs (i : Nat) (v : BaseSt) (s : State) : (setBase i v s).nibs = s.nibs := rfl
@[simp] theorem setBase_stk (i : Nat) (v : BaseSt) (s : State) : (setBase i v s).stk = s.stk := rfl
@[simp] theorem setBase_quills (i : Nat) (v : BaseSt) (s : State) : (setBase i v s).quills = s.quills := rfl
@[simp] theorem setBase_pbp (i : Nat) (v : BaseSt) (s : State) : (setBase i v s).pbp = s.pbp := rfl
@[simp] theorem setBase_cans (i : Nat) (v : BaseSt) (s : State) : (setBase i v s).cans = s.cans := rfl
@[simp] theorem setBase_kc (i : Nat) (v : BaseSt) (s : State) : (setBase i v s).kc = s.kc := rfl
@[simp] theorem setBase_roles (i : Nat) (v : BaseSt) (s : State) : (setBase i v s).roles = s.roles := rfl
@[simp] theorem setBase_cph (i : Nat) (v : BaseSt) (s : State) : (setBase i v s).cph = s.cph := rfl
@[simp] theorem setBase_pwr (i : Nat) (v : BaseSt) (s : State) : (setBase i v s).pwr = s.pwr := rfl
@[simp] theorem setBase_boot (i : Nat) (v : BaseSt) (s : State) : (setBase i v s).boot = s.boot := rfl
@[simp] theorem rd_setBase (i : Nat) (v : BaseSt) (s : State) (j : Nat) : rd (setBase i v s) j = rd s j := rfl

@[simp] theorem setLink_pending (i : Nat) (v : LinkSt) (s : State) : (setLink i v s).pending = s.pending := rfl
@[simp] theorem setLink_regs (i : Nat) (v : LinkSt) (s : State) : (setLink i v s).regs = s.regs := rfl
@[simp] theorem setLink_free (i : Nat) (v : LinkSt) (s : State) : (setLink i v s).free = s.free := rfl
@[simp] theorem setLink_post (i : Nat) (v : LinkSt) (s : State) : (setLink i v s).post = s.post := rfl
@[simp] theorem setLink_hub (i : Nat) (v : LinkSt) (s : State) : (setLink i v s).hub = s.hub := rfl
@[simp] theorem setLink_lanes (i : Nat) (v : LinkSt) (s : State) : (setLink i v s).lanes = s.lanes := rfl
@[simp] theorem setLink_tx (i : Nat) (v : LinkSt) (s : State) : (setLink i v s).tx = s.tx := rfl
@[simp] theorem setLink_ink (i : Nat) (v : LinkSt) (s : State) : (setLink i v s).ink = s.ink := rfl
@[simp] theorem setLink_flt (i : Nat) (v : LinkSt) (s : State) : (setLink i v s).flt = s.flt := rfl
@[simp] theorem setLink_mons (i : Nat) (v : LinkSt) (s : State) : (setLink i v s).mons = s.mons := rfl
@[simp] theorem setLink_pins (i : Nat) (v : LinkSt) (s : State) : (setLink i v s).pins = s.pins := rfl
@[simp] theorem setLink_nibs (i : Nat) (v : LinkSt) (s : State) : (setLink i v s).nibs = s.nibs := rfl
@[simp] theorem setLink_stk (i : Nat) (v : LinkSt) (s : State) : (setLink i v s).stk = s.stk := rfl
@[simp] theorem setLink_quills (i : Nat) (v : LinkSt) (s : State) : (setLink i v s).quills = s.quills := rfl
@[simp] theorem setLink_time (i : Nat) (v : LinkSt) (s : State) : (setLink i v s).time = s.time := rfl
@[simp] theorem setLink_pbp (i : Nat) (v : LinkSt) (s : State) : (setLink i v s).pbp = s.pbp := rfl
@[simp] theorem setLink_cans (i : Nat) (v : LinkSt) (s : State) : (setLink i v s).cans = s.cans := rfl
@[simp] theorem setLink_kc (i : Nat) (v : LinkSt) (s : State) : (setLink i v s).kc = s.kc := rfl
@[simp] theorem setLink_roles (i : Nat) (v : LinkSt) (s : State) : (setLink i v s).roles = s.roles := rfl
@[simp] theorem setLink_cph (i : Nat) (v : LinkSt) (s : State) : (setLink i v s).cph = s.cph := rfl
@[simp] theorem setLink_pwr (i : Nat) (v : LinkSt) (s : State) : (setLink i v s).pwr = s.pwr := rfl
@[simp] theorem setLink_boot (i : Nat) (v : LinkSt) (s : State) : (setLink i v s).boot = s.boot := rfl
@[simp] theorem rd_setLink (i : Nat) (v : LinkSt) (s : State) (j : Nat) : rd (setLink i v s) j = rd s j := rfl

@[simp] theorem setTag_pending (i : Nat) (v : Tag) (s : State) : (setTag i v s).pending = s.pending := rfl
@[simp] theorem setTag_regs (i : Nat) (v : Tag) (s : State) : (setTag i v s).regs = s.regs := rfl
@[simp] theorem setTag_free (i : Nat) (v : Tag) (s : State) : (setTag i v s).free = s.free := rfl
@[simp] theorem setTag_post (i : Nat) (v : Tag) (s : State) : (setTag i v s).post = s.post := rfl
@[simp] theorem setTag_hub (i : Nat) (v : Tag) (s : State) : (setTag i v s).hub = s.hub := rfl
@[simp] theorem setTag_lanes (i : Nat) (v : Tag) (s : State) : (setTag i v s).lanes = s.lanes := rfl
@[simp] theorem setTag_ring (i : Nat) (v : Tag) (s : State) : (setTag i v s).ring = s.ring := rfl
@[simp] theorem setTag_ink (i : Nat) (v : Tag) (s : State) : (setTag i v s).ink = s.ink := rfl
@[simp] theorem setTag_flt (i : Nat) (v : Tag) (s : State) : (setTag i v s).flt = s.flt := rfl
@[simp] theorem setTag_mons (i : Nat) (v : Tag) (s : State) : (setTag i v s).mons = s.mons := rfl
@[simp] theorem setTag_pins (i : Nat) (v : Tag) (s : State) : (setTag i v s).pins = s.pins := rfl
@[simp] theorem setTag_nibs (i : Nat) (v : Tag) (s : State) : (setTag i v s).nibs = s.nibs := rfl
@[simp] theorem setTag_stk (i : Nat) (v : Tag) (s : State) : (setTag i v s).stk = s.stk := rfl
@[simp] theorem setTag_quills (i : Nat) (v : Tag) (s : State) : (setTag i v s).quills = s.quills := rfl
@[simp] theorem setTag_time (i : Nat) (v : Tag) (s : State) : (setTag i v s).time = s.time := rfl
@[simp] theorem setTag_pbp (i : Nat) (v : Tag) (s : State) : (setTag i v s).pbp = s.pbp := rfl
@[simp] theorem setTag_cans (i : Nat) (v : Tag) (s : State) : (setTag i v s).cans = s.cans := rfl
@[simp] theorem setTag_kc (i : Nat) (v : Tag) (s : State) : (setTag i v s).kc = s.kc := rfl
@[simp] theorem setTag_roles (i : Nat) (v : Tag) (s : State) : (setTag i v s).roles = s.roles := rfl
@[simp] theorem setTag_cph (i : Nat) (v : Tag) (s : State) : (setTag i v s).cph = s.cph := rfl
@[simp] theorem setTag_pwr (i : Nat) (v : Tag) (s : State) : (setTag i v s).pwr = s.pwr := rfl
@[simp] theorem setTag_boot (i : Nat) (v : Tag) (s : State) : (setTag i v s).boot = s.boot := rfl
@[simp] theorem rd_setTag (i : Nat) (v : Tag) (s : State) (j : Nat) : rd (setTag i v s) j = rd s j := rfl

@[simp] theorem setBox_pending (i : Nat) (v : Mbox) (s : State) : (setBox i v s).pending = s.pending := rfl
@[simp] theorem setBox_regs (i : Nat) (v : Mbox) (s : State) : (setBox i v s).regs = s.regs := rfl
@[simp] theorem setBox_free (i : Nat) (v : Mbox) (s : State) : (setBox i v s).free = s.free := rfl
@[simp] theorem setBox_post (i : Nat) (v : Mbox) (s : State) : (setBox i v s).post = s.post := rfl
@[simp] theorem setBox_hub (i : Nat) (v : Mbox) (s : State) : (setBox i v s).hub = s.hub := rfl
@[simp] theorem setBox_lanes (i : Nat) (v : Mbox) (s : State) : (setBox i v s).lanes = s.lanes := rfl
@[simp] theorem setBox_ring (i : Nat) (v : Mbox) (s : State) : (setBox i v s).ring = s.ring := rfl
@[simp] theorem setBox_tx (i : Nat) (v : Mbox) (s : State) : (setBox i v s).tx = s.tx := rfl
@[simp] theorem setBox_ink (i : Nat) (v : Mbox) (s : State) : (setBox i v s).ink = s.ink := rfl
@[simp] theorem setBox_flt (i : Nat) (v : Mbox) (s : State) : (setBox i v s).flt = s.flt := rfl
@[simp] theorem setBox_mons (i : Nat) (v : Mbox) (s : State) : (setBox i v s).mons = s.mons := rfl
@[simp] theorem setBox_pins (i : Nat) (v : Mbox) (s : State) : (setBox i v s).pins = s.pins := rfl
@[simp] theorem setBox_nibs (i : Nat) (v : Mbox) (s : State) : (setBox i v s).nibs = s.nibs := rfl
@[simp] theorem setBox_stk (i : Nat) (v : Mbox) (s : State) : (setBox i v s).stk = s.stk := rfl
@[simp] theorem setBox_quills (i : Nat) (v : Mbox) (s : State) : (setBox i v s).quills = s.quills := rfl
@[simp] theorem setBox_time (i : Nat) (v : Mbox) (s : State) : (setBox i v s).time = s.time := rfl
@[simp] theorem setBox_pbp (i : Nat) (v : Mbox) (s : State) : (setBox i v s).pbp = s.pbp := rfl
@[simp] theorem setBox_cans (i : Nat) (v : Mbox) (s : State) : (setBox i v s).cans = s.cans := rfl
@[simp] theorem setBox_roles (i : Nat) (v : Mbox) (s : State) : (setBox i v s).roles = s.roles := rfl
@[simp] theorem setBox_cph (i : Nat) (v : Mbox) (s : State) : (setBox i v s).cph = s.cph := rfl
@[simp] theorem setBox_pwr (i : Nat) (v : Mbox) (s : State) : (setBox i v s).pwr = s.pwr := rfl
@[simp] theorem setBox_boot (i : Nat) (v : Mbox) (s : State) : (setBox i v s).boot = s.boot := rfl
@[simp] theorem rd_setBox (i : Nat) (v : Mbox) (s : State) (j : Nat) : rd (setBox i v s) j = rd s j := rfl

@[simp] theorem setPage_pending (i : Nat) (v : CphPage) (s : State) : (setPage i v s).pending = s.pending := rfl
@[simp] theorem setPage_regs (i : Nat) (v : CphPage) (s : State) : (setPage i v s).regs = s.regs := rfl
@[simp] theorem setPage_free (i : Nat) (v : CphPage) (s : State) : (setPage i v s).free = s.free := rfl
@[simp] theorem setPage_post (i : Nat) (v : CphPage) (s : State) : (setPage i v s).post = s.post := rfl
@[simp] theorem setPage_hub (i : Nat) (v : CphPage) (s : State) : (setPage i v s).hub = s.hub := rfl
@[simp] theorem setPage_lanes (i : Nat) (v : CphPage) (s : State) : (setPage i v s).lanes = s.lanes := rfl
@[simp] theorem setPage_ring (i : Nat) (v : CphPage) (s : State) : (setPage i v s).ring = s.ring := rfl
@[simp] theorem setPage_tx (i : Nat) (v : CphPage) (s : State) : (setPage i v s).tx = s.tx := rfl
@[simp] theorem setPage_ink (i : Nat) (v : CphPage) (s : State) : (setPage i v s).ink = s.ink := rfl
@[simp] theorem setPage_flt (i : Nat) (v : CphPage) (s : State) : (setPage i v s).flt = s.flt := rfl
@[simp] theorem setPage_mons (i : Nat) (v : CphPage) (s : State) : (setPage i v s).mons = s.mons := rfl
@[simp] theorem setPage_pins (i : Nat) (v : CphPage) (s : State) : (setPage i v s).pins = s.pins := rfl
@[simp] theorem setPage_nibs (i : Nat) (v : CphPage) (s : State) : (setPage i v s).nibs = s.nibs := rfl
@[simp] theorem setPage_stk (i : Nat) (v : CphPage) (s : State) : (setPage i v s).stk = s.stk := rfl
@[simp] theorem setPage_quills (i : Nat) (v : CphPage) (s : State) : (setPage i v s).quills = s.quills := rfl
@[simp] theorem setPage_time (i : Nat) (v : CphPage) (s : State) : (setPage i v s).time = s.time := rfl
@[simp] theorem setPage_pbp (i : Nat) (v : CphPage) (s : State) : (setPage i v s).pbp = s.pbp := rfl
@[simp] theorem setPage_cans (i : Nat) (v : CphPage) (s : State) : (setPage i v s).cans = s.cans := rfl
@[simp] theorem setPage_kc (i : Nat) (v : CphPage) (s : State) : (setPage i v s).kc = s.kc := rfl
@[simp] theorem setPage_roles (i : Nat) (v : CphPage) (s : State) : (setPage i v s).roles = s.roles := rfl
@[simp] theorem setPage_pwr (i : Nat) (v : CphPage) (s : State) : (setPage i v s).pwr = s.pwr := rfl
@[simp] theorem setPage_boot (i : Nat) (v : CphPage) (s : State) : (setPage i v s).boot = s.boot := rfl
@[simp] theorem rd_setPage (i : Nat) (v : CphPage) (s : State) (j : Nat) : rd (setPage i v s) j = rd s j := rfl

@[simp] theorem setKeySlot_pending (i : Nat) (v : KeySlot) (s : State) : (setKeySlot i v s).pending = s.pending := rfl
@[simp] theorem setKeySlot_regs (i : Nat) (v : KeySlot) (s : State) : (setKeySlot i v s).regs = s.regs := rfl
@[simp] theorem setKeySlot_free (i : Nat) (v : KeySlot) (s : State) : (setKeySlot i v s).free = s.free := rfl
@[simp] theorem setKeySlot_post (i : Nat) (v : KeySlot) (s : State) : (setKeySlot i v s).post = s.post := rfl
@[simp] theorem setKeySlot_hub (i : Nat) (v : KeySlot) (s : State) : (setKeySlot i v s).hub = s.hub := rfl
@[simp] theorem setKeySlot_lanes (i : Nat) (v : KeySlot) (s : State) : (setKeySlot i v s).lanes = s.lanes := rfl
@[simp] theorem setKeySlot_ring (i : Nat) (v : KeySlot) (s : State) : (setKeySlot i v s).ring = s.ring := rfl
@[simp] theorem setKeySlot_tx (i : Nat) (v : KeySlot) (s : State) : (setKeySlot i v s).tx = s.tx := rfl
@[simp] theorem setKeySlot_ink (i : Nat) (v : KeySlot) (s : State) : (setKeySlot i v s).ink = s.ink := rfl
@[simp] theorem setKeySlot_flt (i : Nat) (v : KeySlot) (s : State) : (setKeySlot i v s).flt = s.flt := rfl
@[simp] theorem setKeySlot_mons (i : Nat) (v : KeySlot) (s : State) : (setKeySlot i v s).mons = s.mons := rfl
@[simp] theorem setKeySlot_pins (i : Nat) (v : KeySlot) (s : State) : (setKeySlot i v s).pins = s.pins := rfl
@[simp] theorem setKeySlot_nibs (i : Nat) (v : KeySlot) (s : State) : (setKeySlot i v s).nibs = s.nibs := rfl
@[simp] theorem setKeySlot_stk (i : Nat) (v : KeySlot) (s : State) : (setKeySlot i v s).stk = s.stk := rfl
@[simp] theorem setKeySlot_quills (i : Nat) (v : KeySlot) (s : State) : (setKeySlot i v s).quills = s.quills := rfl
@[simp] theorem setKeySlot_time (i : Nat) (v : KeySlot) (s : State) : (setKeySlot i v s).time = s.time := rfl
@[simp] theorem setKeySlot_pbp (i : Nat) (v : KeySlot) (s : State) : (setKeySlot i v s).pbp = s.pbp := rfl
@[simp] theorem setKeySlot_cans (i : Nat) (v : KeySlot) (s : State) : (setKeySlot i v s).cans = s.cans := rfl
@[simp] theorem setKeySlot_kc (i : Nat) (v : KeySlot) (s : State) : (setKeySlot i v s).kc = s.kc := rfl
@[simp] theorem setKeySlot_roles (i : Nat) (v : KeySlot) (s : State) : (setKeySlot i v s).roles = s.roles := rfl
@[simp] theorem setKeySlot_pwr (i : Nat) (v : KeySlot) (s : State) : (setKeySlot i v s).pwr = s.pwr := rfl
@[simp] theorem setKeySlot_boot (i : Nat) (v : KeySlot) (s : State) : (setKeySlot i v s).boot = s.boot := rfl
@[simp] theorem rd_setKeySlot (i : Nat) (v : KeySlot) (s : State) (j : Nat) : rd (setKeySlot i v s) j = rd s j := rfl

@[simp] theorem setFeed_pending (i : Nat) (v : FeedSt) (s : State) : (setFeed i v s).pending = s.pending := rfl
@[simp] theorem setFeed_regs (i : Nat) (v : FeedSt) (s : State) : (setFeed i v s).regs = s.regs := rfl
@[simp] theorem setFeed_free (i : Nat) (v : FeedSt) (s : State) : (setFeed i v s).free = s.free := rfl
@[simp] theorem setFeed_post (i : Nat) (v : FeedSt) (s : State) : (setFeed i v s).post = s.post := rfl
@[simp] theorem setFeed_hub (i : Nat) (v : FeedSt) (s : State) : (setFeed i v s).hub = s.hub := rfl
@[simp] theorem setFeed_lanes (i : Nat) (v : FeedSt) (s : State) : (setFeed i v s).lanes = s.lanes := rfl
@[simp] theorem setFeed_ring (i : Nat) (v : FeedSt) (s : State) : (setFeed i v s).ring = s.ring := rfl
@[simp] theorem setFeed_tx (i : Nat) (v : FeedSt) (s : State) : (setFeed i v s).tx = s.tx := rfl
@[simp] theorem setFeed_ink (i : Nat) (v : FeedSt) (s : State) : (setFeed i v s).ink = s.ink := rfl
@[simp] theorem setFeed_flt (i : Nat) (v : FeedSt) (s : State) : (setFeed i v s).flt = s.flt := rfl
@[simp] theorem setFeed_mons (i : Nat) (v : FeedSt) (s : State) : (setFeed i v s).mons = s.mons := rfl
@[simp] theorem setFeed_pins (i : Nat) (v : FeedSt) (s : State) : (setFeed i v s).pins = s.pins := rfl
@[simp] theorem setFeed_nibs (i : Nat) (v : FeedSt) (s : State) : (setFeed i v s).nibs = s.nibs := rfl
@[simp] theorem setFeed_stk (i : Nat) (v : FeedSt) (s : State) : (setFeed i v s).stk = s.stk := rfl
@[simp] theorem setFeed_quills (i : Nat) (v : FeedSt) (s : State) : (setFeed i v s).quills = s.quills := rfl
@[simp] theorem setFeed_time (i : Nat) (v : FeedSt) (s : State) : (setFeed i v s).time = s.time := rfl
@[simp] theorem setFeed_pbp (i : Nat) (v : FeedSt) (s : State) : (setFeed i v s).pbp = s.pbp := rfl
@[simp] theorem setFeed_cans (i : Nat) (v : FeedSt) (s : State) : (setFeed i v s).cans = s.cans := rfl
@[simp] theorem setFeed_kc (i : Nat) (v : FeedSt) (s : State) : (setFeed i v s).kc = s.kc := rfl
@[simp] theorem setFeed_roles (i : Nat) (v : FeedSt) (s : State) : (setFeed i v s).roles = s.roles := rfl
@[simp] theorem setFeed_cph (i : Nat) (v : FeedSt) (s : State) : (setFeed i v s).cph = s.cph := rfl
@[simp] theorem setFeed_boot (i : Nat) (v : FeedSt) (s : State) : (setFeed i v s).boot = s.boot := rfl
@[simp] theorem rd_setFeed (i : Nat) (v : FeedSt) (s : State) (j : Nat) : rd (setFeed i v s) j = rd s j := rfl

@[simp] theorem setSlot_pending (i : Nat) (v : SlotSt) (s : State) : (setSlot i v s).pending = s.pending := rfl
@[simp] theorem setSlot_regs (i : Nat) (v : SlotSt) (s : State) : (setSlot i v s).regs = s.regs := rfl
@[simp] theorem setSlot_free (i : Nat) (v : SlotSt) (s : State) : (setSlot i v s).free = s.free := rfl
@[simp] theorem setSlot_post (i : Nat) (v : SlotSt) (s : State) : (setSlot i v s).post = s.post := rfl
@[simp] theorem setSlot_hub (i : Nat) (v : SlotSt) (s : State) : (setSlot i v s).hub = s.hub := rfl
@[simp] theorem setSlot_lanes (i : Nat) (v : SlotSt) (s : State) : (setSlot i v s).lanes = s.lanes := rfl
@[simp] theorem setSlot_ring (i : Nat) (v : SlotSt) (s : State) : (setSlot i v s).ring = s.ring := rfl
@[simp] theorem setSlot_tx (i : Nat) (v : SlotSt) (s : State) : (setSlot i v s).tx = s.tx := rfl
@[simp] theorem setSlot_ink (i : Nat) (v : SlotSt) (s : State) : (setSlot i v s).ink = s.ink := rfl
@[simp] theorem setSlot_flt (i : Nat) (v : SlotSt) (s : State) : (setSlot i v s).flt = s.flt := rfl
@[simp] theorem setSlot_mons (i : Nat) (v : SlotSt) (s : State) : (setSlot i v s).mons = s.mons := rfl
@[simp] theorem setSlot_pins (i : Nat) (v : SlotSt) (s : State) : (setSlot i v s).pins = s.pins := rfl
@[simp] theorem setSlot_nibs (i : Nat) (v : SlotSt) (s : State) : (setSlot i v s).nibs = s.nibs := rfl
@[simp] theorem setSlot_stk (i : Nat) (v : SlotSt) (s : State) : (setSlot i v s).stk = s.stk := rfl
@[simp] theorem setSlot_quills (i : Nat) (v : SlotSt) (s : State) : (setSlot i v s).quills = s.quills := rfl
@[simp] theorem setSlot_time (i : Nat) (v : SlotSt) (s : State) : (setSlot i v s).time = s.time := rfl
@[simp] theorem setSlot_pbp (i : Nat) (v : SlotSt) (s : State) : (setSlot i v s).pbp = s.pbp := rfl
@[simp] theorem setSlot_cans (i : Nat) (v : SlotSt) (s : State) : (setSlot i v s).cans = s.cans := rfl
@[simp] theorem setSlot_kc (i : Nat) (v : SlotSt) (s : State) : (setSlot i v s).kc = s.kc := rfl
@[simp] theorem setSlot_roles (i : Nat) (v : SlotSt) (s : State) : (setSlot i v s).roles = s.roles := rfl
@[simp] theorem setSlot_cph (i : Nat) (v : SlotSt) (s : State) : (setSlot i v s).cph = s.cph := rfl
@[simp] theorem setSlot_boot (i : Nat) (v : SlotSt) (s : State) : (setSlot i v s).boot = s.boot := rfl
@[simp] theorem rd_setSlot (i : Nat) (v : SlotSt) (s : State) (j : Nat) : rd (setSlot i v s) j = rd s j := rfl

@[simp] theorem cwr_pending (k : Nat) (v : Word) (s : State) : (cwr k v s).pending = s.pending := rfl
@[simp] theorem cwr_regs (k : Nat) (v : Word) (s : State) : (cwr k v s).regs = s.regs := rfl
@[simp] theorem cwr_free (k : Nat) (v : Word) (s : State) : (cwr k v s).free = s.free := rfl
@[simp] theorem cwr_post (k : Nat) (v : Word) (s : State) : (cwr k v s).post = s.post := rfl
@[simp] theorem cwr_hub (k : Nat) (v : Word) (s : State) : (cwr k v s).hub = s.hub := rfl
@[simp] theorem cwr_lanes (k : Nat) (v : Word) (s : State) : (cwr k v s).lanes = s.lanes := rfl
@[simp] theorem cwr_ring (k : Nat) (v : Word) (s : State) : (cwr k v s).ring = s.ring := rfl
@[simp] theorem cwr_tx (k : Nat) (v : Word) (s : State) : (cwr k v s).tx = s.tx := rfl
@[simp] theorem cwr_ink (k : Nat) (v : Word) (s : State) : (cwr k v s).ink = s.ink := rfl
@[simp] theorem cwr_flt (k : Nat) (v : Word) (s : State) : (cwr k v s).flt = s.flt := rfl
@[simp] theorem cwr_mons (k : Nat) (v : Word) (s : State) : (cwr k v s).mons = s.mons := rfl
@[simp] theorem cwr_pins (k : Nat) (v : Word) (s : State) : (cwr k v s).pins = s.pins := rfl
@[simp] theorem cwr_nibs (k : Nat) (v : Word) (s : State) : (cwr k v s).nibs = s.nibs := rfl
@[simp] theorem cwr_stk (k : Nat) (v : Word) (s : State) : (cwr k v s).stk = s.stk := rfl
@[simp] theorem cwr_quills (k : Nat) (v : Word) (s : State) : (cwr k v s).quills = s.quills := rfl
@[simp] theorem cwr_time (k : Nat) (v : Word) (s : State) : (cwr k v s).time = s.time := rfl
@[simp] theorem cwr_pbp (k : Nat) (v : Word) (s : State) : (cwr k v s).pbp = s.pbp := rfl
@[simp] theorem cwr_cans (k : Nat) (v : Word) (s : State) : (cwr k v s).cans = s.cans := rfl
@[simp] theorem cwr_kc (k : Nat) (v : Word) (s : State) : (cwr k v s).kc = s.kc := rfl
@[simp] theorem cwr_roles (k : Nat) (v : Word) (s : State) : (cwr k v s).roles = s.roles := rfl
@[simp] theorem cwr_cph (k : Nat) (v : Word) (s : State) : (cwr k v s).cph = s.cph := rfl
@[simp] theorem cwr_boot (k : Nat) (v : Word) (s : State) : (cwr k v s).boot = s.boot := rfl
@[simp] theorem rd_cwr (k : Nat) (v : Word) (s : State) (j : Nat) : rd (cwr k v s) j = rd s j := rfl

@[simp] theorem cwf_pending (k hi lo v : Nat) (s : State) : (cwf k hi lo v s).pending = s.pending := rfl
@[simp] theorem cwf_regs (k hi lo v : Nat) (s : State) : (cwf k hi lo v s).regs = s.regs := rfl
@[simp] theorem cwf_free (k hi lo v : Nat) (s : State) : (cwf k hi lo v s).free = s.free := rfl
@[simp] theorem cwf_post (k hi lo v : Nat) (s : State) : (cwf k hi lo v s).post = s.post := rfl
@[simp] theorem cwf_hub (k hi lo v : Nat) (s : State) : (cwf k hi lo v s).hub = s.hub := rfl
@[simp] theorem cwf_lanes (k hi lo v : Nat) (s : State) : (cwf k hi lo v s).lanes = s.lanes := rfl
@[simp] theorem cwf_ring (k hi lo v : Nat) (s : State) : (cwf k hi lo v s).ring = s.ring := rfl
@[simp] theorem cwf_tx (k hi lo v : Nat) (s : State) : (cwf k hi lo v s).tx = s.tx := rfl
@[simp] theorem cwf_ink (k hi lo v : Nat) (s : State) : (cwf k hi lo v s).ink = s.ink := rfl
@[simp] theorem cwf_flt (k hi lo v : Nat) (s : State) : (cwf k hi lo v s).flt = s.flt := rfl
@[simp] theorem cwf_mons (k hi lo v : Nat) (s : State) : (cwf k hi lo v s).mons = s.mons := rfl
@[simp] theorem cwf_pins (k hi lo v : Nat) (s : State) : (cwf k hi lo v s).pins = s.pins := rfl
@[simp] theorem cwf_nibs (k hi lo v : Nat) (s : State) : (cwf k hi lo v s).nibs = s.nibs := rfl
@[simp] theorem cwf_stk (k hi lo v : Nat) (s : State) : (cwf k hi lo v s).stk = s.stk := rfl
@[simp] theorem cwf_quills (k hi lo v : Nat) (s : State) : (cwf k hi lo v s).quills = s.quills := rfl
@[simp] theorem cwf_time (k hi lo v : Nat) (s : State) : (cwf k hi lo v s).time = s.time := rfl
@[simp] theorem cwf_pbp (k hi lo v : Nat) (s : State) : (cwf k hi lo v s).pbp = s.pbp := rfl
@[simp] theorem cwf_cans (k hi lo v : Nat) (s : State) : (cwf k hi lo v s).cans = s.cans := rfl
@[simp] theorem cwf_kc (k hi lo v : Nat) (s : State) : (cwf k hi lo v s).kc = s.kc := rfl
@[simp] theorem cwf_roles (k hi lo v : Nat) (s : State) : (cwf k hi lo v s).roles = s.roles := rfl
@[simp] theorem cwf_cph (k hi lo v : Nat) (s : State) : (cwf k hi lo v s).cph = s.cph := rfl
@[simp] theorem cwf_boot (k hi lo v : Nat) (s : State) : (cwf k hi lo v s).boot = s.boot := rfl
@[simp] theorem rd_cwf (k hi lo v : Nat) (s : State) (j : Nat) : rd (cwf k hi lo v s) j = rd s j := rfl

@[simp] theorem cwb_pending (k i : Nat) (b : Bool) (s : State) : (cwb k i b s).pending = s.pending := rfl
@[simp] theorem cwb_regs (k i : Nat) (b : Bool) (s : State) : (cwb k i b s).regs = s.regs := rfl
@[simp] theorem cwb_free (k i : Nat) (b : Bool) (s : State) : (cwb k i b s).free = s.free := rfl
@[simp] theorem cwb_post (k i : Nat) (b : Bool) (s : State) : (cwb k i b s).post = s.post := rfl
@[simp] theorem cwb_hub (k i : Nat) (b : Bool) (s : State) : (cwb k i b s).hub = s.hub := rfl
@[simp] theorem cwb_lanes (k i : Nat) (b : Bool) (s : State) : (cwb k i b s).lanes = s.lanes := rfl
@[simp] theorem cwb_ring (k i : Nat) (b : Bool) (s : State) : (cwb k i b s).ring = s.ring := rfl
@[simp] theorem cwb_tx (k i : Nat) (b : Bool) (s : State) : (cwb k i b s).tx = s.tx := rfl
@[simp] theorem cwb_ink (k i : Nat) (b : Bool) (s : State) : (cwb k i b s).ink = s.ink := rfl
@[simp] theorem cwb_flt (k i : Nat) (b : Bool) (s : State) : (cwb k i b s).flt = s.flt := rfl
@[simp] theorem cwb_mons (k i : Nat) (b : Bool) (s : State) : (cwb k i b s).mons = s.mons := rfl
@[simp] theorem cwb_pins (k i : Nat) (b : Bool) (s : State) : (cwb k i b s).pins = s.pins := rfl
@[simp] theorem cwb_nibs (k i : Nat) (b : Bool) (s : State) : (cwb k i b s).nibs = s.nibs := rfl
@[simp] theorem cwb_stk (k i : Nat) (b : Bool) (s : State) : (cwb k i b s).stk = s.stk := rfl
@[simp] theorem cwb_quills (k i : Nat) (b : Bool) (s : State) : (cwb k i b s).quills = s.quills := rfl
@[simp] theorem cwb_time (k i : Nat) (b : Bool) (s : State) : (cwb k i b s).time = s.time := rfl
@[simp] theorem cwb_pbp (k i : Nat) (b : Bool) (s : State) : (cwb k i b s).pbp = s.pbp := rfl
@[simp] theorem cwb_cans (k i : Nat) (b : Bool) (s : State) : (cwb k i b s).cans = s.cans := rfl
@[simp] theorem cwb_kc (k i : Nat) (b : Bool) (s : State) : (cwb k i b s).kc = s.kc := rfl
@[simp] theorem cwb_roles (k i : Nat) (b : Bool) (s : State) : (cwb k i b s).roles = s.roles := rfl
@[simp] theorem cwb_cph (k i : Nat) (b : Bool) (s : State) : (cwb k i b s).cph = s.cph := rfl
@[simp] theorem cwb_boot (k i : Nat) (b : Bool) (s : State) : (cwb k i b s).boot = s.boot := rfl
@[simp] theorem rd_cwb (k i : Nat) (b : Bool) (s : State) (j : Nat) : rd (cwb k i b s) j = rd s j := rfl

@[simp] theorem cbump_pending (k n : Nat) (s : State) : (cbump k n s).pending = s.pending := rfl
@[simp] theorem cbump_regs (k n : Nat) (s : State) : (cbump k n s).regs = s.regs := rfl
@[simp] theorem cbump_free (k n : Nat) (s : State) : (cbump k n s).free = s.free := rfl
@[simp] theorem cbump_post (k n : Nat) (s : State) : (cbump k n s).post = s.post := rfl
@[simp] theorem cbump_hub (k n : Nat) (s : State) : (cbump k n s).hub = s.hub := rfl
@[simp] theorem cbump_lanes (k n : Nat) (s : State) : (cbump k n s).lanes = s.lanes := rfl
@[simp] theorem cbump_ring (k n : Nat) (s : State) : (cbump k n s).ring = s.ring := rfl
@[simp] theorem cbump_tx (k n : Nat) (s : State) : (cbump k n s).tx = s.tx := rfl
@[simp] theorem cbump_ink (k n : Nat) (s : State) : (cbump k n s).ink = s.ink := rfl
@[simp] theorem cbump_flt (k n : Nat) (s : State) : (cbump k n s).flt = s.flt := rfl
@[simp] theorem cbump_mons (k n : Nat) (s : State) : (cbump k n s).mons = s.mons := rfl
@[simp] theorem cbump_pins (k n : Nat) (s : State) : (cbump k n s).pins = s.pins := rfl
@[simp] theorem cbump_nibs (k n : Nat) (s : State) : (cbump k n s).nibs = s.nibs := rfl
@[simp] theorem cbump_stk (k n : Nat) (s : State) : (cbump k n s).stk = s.stk := rfl
@[simp] theorem cbump_quills (k n : Nat) (s : State) : (cbump k n s).quills = s.quills := rfl
@[simp] theorem cbump_time (k n : Nat) (s : State) : (cbump k n s).time = s.time := rfl
@[simp] theorem cbump_pbp (k n : Nat) (s : State) : (cbump k n s).pbp = s.pbp := rfl
@[simp] theorem cbump_cans (k n : Nat) (s : State) : (cbump k n s).cans = s.cans := rfl
@[simp] theorem cbump_kc (k n : Nat) (s : State) : (cbump k n s).kc = s.kc := rfl
@[simp] theorem cbump_roles (k n : Nat) (s : State) : (cbump k n s).roles = s.roles := rfl
@[simp] theorem cbump_cph (k n : Nat) (s : State) : (cbump k n s).cph = s.cph := rfl
@[simp] theorem cbump_boot (k n : Nat) (s : State) : (cbump k n s).boot = s.boot := rfl
@[simp] theorem rd_cbump (k n : Nat) (s : State) (j : Nat) : rd (cbump k n s) j = rd s j := rfl

@[simp] theorem notify_pending (g e u : Nat) (w : Word) (s : State) : (notify g e u w s).pending = s.pending := rfl
@[simp] theorem notify_regs (g e u : Nat) (w : Word) (s : State) : (notify g e u w s).regs = s.regs := rfl
@[simp] theorem notify_free (g e u : Nat) (w : Word) (s : State) : (notify g e u w s).free = s.free := rfl
@[simp] theorem notify_hub (g e u : Nat) (w : Word) (s : State) : (notify g e u w s).hub = s.hub := rfl
@[simp] theorem notify_lanes (g e u : Nat) (w : Word) (s : State) : (notify g e u w s).lanes = s.lanes := rfl
@[simp] theorem notify_ring (g e u : Nat) (w : Word) (s : State) : (notify g e u w s).ring = s.ring := rfl
@[simp] theorem notify_tx (g e u : Nat) (w : Word) (s : State) : (notify g e u w s).tx = s.tx := rfl
@[simp] theorem notify_ink (g e u : Nat) (w : Word) (s : State) : (notify g e u w s).ink = s.ink := rfl
@[simp] theorem notify_flt (g e u : Nat) (w : Word) (s : State) : (notify g e u w s).flt = s.flt := rfl
@[simp] theorem notify_mons (g e u : Nat) (w : Word) (s : State) : (notify g e u w s).mons = s.mons := rfl
@[simp] theorem notify_pins (g e u : Nat) (w : Word) (s : State) : (notify g e u w s).pins = s.pins := rfl
@[simp] theorem notify_nibs (g e u : Nat) (w : Word) (s : State) : (notify g e u w s).nibs = s.nibs := rfl
@[simp] theorem notify_stk (g e u : Nat) (w : Word) (s : State) : (notify g e u w s).stk = s.stk := rfl
@[simp] theorem notify_quills (g e u : Nat) (w : Word) (s : State) : (notify g e u w s).quills = s.quills := rfl
@[simp] theorem notify_time (g e u : Nat) (w : Word) (s : State) : (notify g e u w s).time = s.time := rfl
@[simp] theorem notify_pbp (g e u : Nat) (w : Word) (s : State) : (notify g e u w s).pbp = s.pbp := rfl
@[simp] theorem notify_cans (g e u : Nat) (w : Word) (s : State) : (notify g e u w s).cans = s.cans := rfl
@[simp] theorem notify_kc (g e u : Nat) (w : Word) (s : State) : (notify g e u w s).kc = s.kc := rfl
@[simp] theorem notify_roles (g e u : Nat) (w : Word) (s : State) : (notify g e u w s).roles = s.roles := rfl
@[simp] theorem notify_cph (g e u : Nat) (w : Word) (s : State) : (notify g e u w s).cph = s.cph := rfl
@[simp] theorem notify_pwr (g e u : Nat) (w : Word) (s : State) : (notify g e u w s).pwr = s.pwr := rfl
@[simp] theorem notify_boot (g e u : Nat) (w : Word) (s : State) : (notify g e u w s).boot = s.boot := rfl
@[simp] theorem rd_notify (g e u : Nat) (w : Word) (s : State) (j : Nat) : rd (notify g e u w s) j = rd s j := rfl

end Sys2Proof.Laws
end

