-- ==== Sys2Proof/Laws/Table.lean ====
section
/-! SUPPORT. Laws of the sparse tables: what a key reads after a write, and that every table operation keeps the canonical form. -/
namespace Sys2Proof.Laws
open Sys2Proof Sys2Proof.Machine

variable {α : Type}

theorem tget_tdel_other (d : Nat → α) (t : Tbl α) {j k : Nat} (h : j ≠ k) : tget d (tdel t k) j = tget d t j := by
  induction t with
  | nil => rfl
  | cons e t ih =>
    obtain ⟨i, v⟩ := e
    by_cases hi : i = k
    · subst hi; simp [tdel, tget, ih, Ne.symm h]
    · simp [tdel, hi, tget, ih]

theorem tget_tdel_same (d : Nat → α) (t : Tbl α) (k : Nat) : tget d (tdel t k) k = d k := by
  induction t with
  | nil => rfl
  | cons e t ih =>
    obtain ⟨i, v⟩ := e
    by_cases hi : i = k
    · simp [tdel, hi, ih]
    · simp [tdel, hi, tget, ih]

/-- No entry of key `k` is left in `t`. -/
theorem tget_tins_same (d : Nat → α) (t : Tbl α) (k : Nat) (v : α) (h : ∀ e ∈ t, e.1 ≠ k) : tget d (tins t k v) k = v := by
  induction t with
  | nil => simp [tins, tget]
  | cons e t ih =>
    obtain ⟨i, x⟩ := e
    have hi : i ≠ k := h (i, x) (by simp)
    have ht : ∀ e ∈ t, e.1 ≠ k := fun e he => h e (by simp [he])
    by_cases hk : k < i
    · simp [tins, hk, tget]
    · simp [tins, hk, tget, hi, ih ht]

theorem tget_tins_other (d : Nat → α) (t : Tbl α) {j k : Nat} (v : α) (h : j ≠ k) : tget d (tins t k v) j = tget d t j := by
  induction t with
  | nil => simp [tins, tget, Ne.symm h]
  | cons e t ih =>
    obtain ⟨i, x⟩ := e
    by_cases hk : k < i
    · simp [tins, hk, tget, Ne.symm h]
    · simp [tins, hk, tget, ih]

theorem tdel_no_key (t : Tbl α) (k : Nat) : ∀ e ∈ tdel t k, e.1 ≠ k := by
  induction t with
  | nil => simp [tdel]
  | cons e t ih =>
    obtain ⟨i, v⟩ := e
    by_cases hi : i = k
    · simpa [tdel, hi] using ih
    · intro e he
      simp only [tdel, hi, if_false, List.mem_cons] at he
      rcases he with rfl | he
      · exact hi
      · exact ih e he

section
variable [DecidableEq α]

/-- A key reads what was written to it. -/
theorem tget_tset_same (d : Nat → α) (t : Tbl α) (k : Nat) (v : α) : tget d (tset d t k v) k = v := by
  by_cases h : v = d k
  · simp [tset, h, tget_tdel_same]
  · simp [tset, h, tget_tins_same d _ k v (tdel_no_key t k)]

/-- A write leaves every other key alone. -/
theorem tget_tset_other (d : Nat → α) (t : Tbl α) {j k : Nat} (v : α) (h : j ≠ k) : tget d (tset d t k v) j = tget d t j := by
  by_cases hv : v = d k
  · simp [tset, hv, tget_tdel_other d t h]
  · simp [tset, hv, tget_tins_other d _ v h, tget_tdel_other d t h]

theorem twf_weaken (d : Nat → α) {lo lo' : Nat} (h : lo' ≤ lo) (t : Tbl α) (w : twf d lo t = true) : twf d lo' t = true := by
  cases t with
  | nil => rfl
  | cons e t =>
    obtain ⟨k, v⟩ := e
    simp only [twf, Bool.and_eq_true, decide_eq_true_eq] at w ⊢
    exact ⟨⟨Nat.le_trans h w.1.1, w.1.2⟩, w.2⟩

/-- Dropping a key keeps the canonical form. -/
theorem twf_tdel (d : Nat → α) (t : Tbl α) (k lo : Nat) (w : twf d lo t = true) : twf d lo (tdel t k) = true := by
  induction t generalizing lo with
  | nil => rfl
  | cons e t ih =>
    obtain ⟨i, v⟩ := e
    simp only [twf, Bool.and_eq_true, decide_eq_true_eq] at w
    by_cases hi : i = k
    · simp only [tdel, hi, if_true]
      exact twf_weaken d (by omega) _ (ih (i + 1) w.2)
    · simp only [tdel, hi, if_false, twf, Bool.and_eq_true, decide_eq_true_eq]
      exact ⟨w.1, ih (i + 1) w.2⟩

theorem twf_tins (d : Nat → α) (t : Tbl α) (k lo : Nat) (v : α) (hl : lo ≤ k) (hv : v ≠ d k) (hk : ∀ e ∈ t, e.1 ≠ k)
    (w : twf d lo t = true) : twf d lo (tins t k v) = true := by
  induction t generalizing lo with
  | nil => simp [tins, twf, hl, hv]
  | cons e t ih =>
    obtain ⟨i, x⟩ := e
    have hi : i ≠ k := hk (i, x) (by simp)
    have ht : ∀ e ∈ t, e.1 ≠ k := fun e he => hk e (by simp [he])
    simp only [twf, Bool.and_eq_true, decide_eq_true_eq] at w
    by_cases h : k < i
    · simp only [tins, h, if_true, twf, Bool.and_eq_true, decide_eq_true_eq]
      exact ⟨⟨hl, hv⟩, ⟨by omega, w.1.2⟩, w.2⟩
    · simp only [tins, h, if_false, twf, Bool.and_eq_true, decide_eq_true_eq]
      exact ⟨w.1, ih (i + 1) (by omega) ht w.2⟩

/-- A write keeps the canonical form. -/
theorem twf_tset (d : Nat → α) (t : Tbl α) (k : Nat) (v : α) (w : twf d 0 t = true) : twf d 0 (tset d t k v) = true := by
  by_cases hv : v = d k
  · simp [tset, hv, twf_tdel d t k 0 w]
  · simp [tset, hv, twf_tins d _ k 0 v (by omega) hv (tdel_no_key t k) (twf_tdel d t k 0 w)]

/-- Keeping the entries that satisfy a test keeps the canonical form. -/
theorem twf_filter (d : Nat → α) (p : Nat × α → Bool) (t : Tbl α) (lo : Nat) (w : twf d lo t = true) :
    twf d lo (t.filter p) = true := by
  induction t generalizing lo with
  | nil => rfl
  | cons e t ih =>
    obtain ⟨i, v⟩ := e
    simp only [twf, Bool.and_eq_true, decide_eq_true_eq] at w
    by_cases hp : p (i, v)
    · simp only [List.filter, hp, twf, Bool.and_eq_true, decide_eq_true_eq]
      exact ⟨w.1, ih (i + 1) w.2⟩
    · simp only [List.filter, hp]
      exact twf_weaken d (by omega) _ (ih (i + 1) w.2)

theorem twf_tkeep (d : Nat → α) (p : Nat → Bool) (t : Tbl α) (w : twf d 0 t = true) : twf d 0 (tkeep p t) = true :=
  twf_filter d _ t 0 w
end

end Sys2Proof.Laws
end

