-- ==== Sys2Proof/Laws/Ops.lean ====
section
/-! SUPPORT. Laws of the register file and of the bit fields of a register. -/
namespace Sys2Proof.Laws
open Sys2Proof Sys2Proof.Machine

/-! ## Fields of a word -/

theorem bitOf_testBit (n i : Nat) : bitOf n i = n.testBit i := by
  simp only [bitOf, Nat.testBit_eq_decide_div_mod_eq]
  by_cases h : n / 2 ^ i % 2 = 1 <;> simp [h]

theorem bit_getLsbD (w : Word) (i : Nat) : bit w i = w.getLsbD i := by
  rw [bit, bitOf_testBit]; rfl

theorem bitsOf_testBit (n hi lo i : Nat) : (bitsOf n hi lo).testBit i = (decide (i < hi + 1 - lo) && n.testBit (lo + i)) := by
  rw [bitsOf, Nat.testBit_mod_two_pow, Nat.testBit_div_two_pow, Nat.add_comm i lo]

theorem maskOf_getLsbD (hi lo i : Nat) (h : hi < 32) : (maskOf hi lo).getLsbD i = (decide (lo ≤ i) && decide (i ≤ hi)) := by
  rw [maskOf, w32, BitVec.getLsbD_ofNat, Nat.testBit_mul_two_pow, Nat.testBit_two_pow_sub_one]
  by_cases h1 : lo ≤ i <;> by_cases h2 : i ≤ hi <;> simp [h1, h2] <;> omega

/-- Bit `i` of a word whose field [hi:lo] has been written. -/
theorem setFld_getLsbD (w : Word) (hi lo v i : Nat) (h : hi < 32) :
    (setFld w hi lo v).getLsbD i = if lo ≤ i ∧ i ≤ hi then v.testBit (i - lo) else w.getLsbD i := by
  rw [setFld, BitVec.getLsbD_or, BitVec.getLsbD_and, BitVec.getLsbD_not, maskOf_getLsbD hi lo i h, w32, BitVec.getLsbD_ofNat,
    Nat.testBit_mul_two_pow, Nat.testBit_mod_two_pow]
  by_cases h1 : lo ≤ i
  · by_cases h2 : i ≤ hi
    · have : i < 32 := by omega
      have : i - lo < hi + 1 - lo := by omega
      simp [*]
    · have : ¬ i - lo < hi + 1 - lo := by omega
      by_cases h3 : i < 32
      · simp [*]
      · simp [*, BitVec.getLsbD_of_ge w i (by omega)]
  · by_cases h3 : i < 32
    · simp [*]
    · simp [*, BitVec.getLsbD_of_ge w i (by omega)]

theorem setBit_getLsbD (w : Word) (j i : Nat) (b : Bool) (h : j < 32) :
    (setBit w j b).getLsbD i = if i = j then b else w.getLsbD i := by
  rw [setBit, setFld_getLsbD w j j _ i h]
  by_cases h1 : i = j
  · subst h1; cases b <;> simp
  · have : ¬ (j ≤ i ∧ i ≤ j) := by omega
    simp [*]

/-- A bit reads what was written to it. -/
@[simp] theorem bit_setBit_same (w : Word) (i : Nat) (b : Bool) (h : i < 32) : bit (setBit w i b) i = b := by
  simp [bit_getLsbD, setBit_getLsbD w i i b h]

/-- Writing a bit leaves the others alone. -/
theorem bit_setBit_other (w : Word) {i j : Nat} (b : Bool) (h : i < 32) (hij : j ≠ i) : bit (setBit w i b) j = bit w j := by
  simp [bit_getLsbD, setBit_getLsbD w i j b h, hij]

/-- A field reads what was written to it. -/
theorem fld_setFld_same (w : Word) (hi lo v : Nat) (h : hi < 32) : fld (setFld w hi lo v) hi lo = v % 2 ^ (hi + 1 - lo) := by
  apply Nat.eq_of_testBit_eq
  intro i
  have e : (setFld w hi lo v).toNat.testBit (lo + i) = (setFld w hi lo v).getLsbD (lo + i) := rfl
  rw [fld, bitsOf_testBit, e, setFld_getLsbD w hi lo v _ h, Nat.testBit_mod_two_pow]
  by_cases h1 : i < hi + 1 - lo
  · have : lo ≤ lo + i ∧ lo + i ≤ hi := by omega
    simp [*]
  · simp [h1]

/-- Writing a field leaves a field apart from it alone. -/
theorem fld_setFld_other (w : Word) (hi lo v hi' lo' : Nat) (h : hi < 32) (apart : hi' < lo ∨ hi < lo') :
    fld (setFld w hi lo v) hi' lo' = fld w hi' lo' := by
  apply Nat.eq_of_testBit_eq
  intro i
  have e : (setFld w hi lo v).toNat.testBit (lo' + i) = (setFld w hi lo v).getLsbD (lo' + i) := rfl
  have e' : w.toNat.testBit (lo' + i) = w.getLsbD (lo' + i) := rfl
  rw [fld, bitsOf_testBit, e, setFld_getLsbD w hi lo v _ h, fld, bitsOf_testBit, e']
  by_cases h1 : i < hi' + 1 - lo'
  · have : ¬ (lo ≤ lo' + i ∧ lo' + i ≤ hi) := by omega
    simp [*]
  · simp [h1]

/-! ## The register file -/

/-- A register reads what was put into it. -/
@[simp] theorem rd_wr_same (k : Nat) (v : Word) (s : State) : rd (wr k v s) k = v := tget_tset_same _ _ _ _

/-- Putting a value into one register leaves the others alone. -/
theorem rd_wr_other {j k : Nat} (v : Word) (s : State) (h : j ≠ k) : rd (wr k v s) j = rd s j := tget_tset_other _ _ _ h

theorem rd_wr (j k : Nat) (v : Word) (s : State) : rd (wr k v s) j = if j = k then v else rd s j := by
  by_cases h : j = k
  · subst h; simp
  · simp [h, rd_wr_other v s h]

theorem rd_wb_other {j k : Nat} (i : Nat) (b : Bool) (s : State) (h : j ≠ k) : rd (wb k i b s) j = rd s j := rd_wr_other _ s h
theorem rd_wf_other {j k : Nat} (hi lo v : Nat) (s : State) (h : j ≠ k) : rd (wf k hi lo v s) j = rd s j := rd_wr_other _ s h
theorem rd_bump_other {j k : Nat} (n : Nat) (s : State) (h : j ≠ k) : rd (bump k n s) j = rd s j := rd_wr_other _ s h
theorem rd_stm_other {j k : Nat} (m v : Word) (s : State) (h : j ≠ k) : rd (stm k m v s) j = rd s j := rd_wr_other _ s h
@[simp] theorem rd_bump_same (k n : Nat) (s : State) : rd (bump k n s) k = satAdd (rd s k) n := rd_wr_same _ _ _

/-- A bit of a register reads what was written to it. -/
theorem rb_wb_same (k i : Nat) (b : Bool) (s : State) (h : i < 32) : rb (wb k i b s) k i = b := by simp [rb, wb, h]

theorem rb_wb_other (k i j : Nat) (b : Bool) (s : State) (h : i < 32) (hij : j ≠ i) : rb (wb k i b s) k j = rb s k j := by
  simp [rb, wb, bit_setBit_other _ b h hij]

theorem rf_wf_same (k hi lo v : Nat) (s : State) (h : hi < 32) : rf (wf k hi lo v s) k hi lo = v % 2 ^ (hi + 1 - lo) := by
  simp [rf, wf, fld_setFld_same _ hi lo v h]

/-- Writing a register keeps the register table canonical. -/
theorem wr_regs_canonical (k : Nat) (v : Word) (s : State) (w : twf resetOf 0 s.regs = true) : twf resetOf 0 (wr k v s).regs = true :=
  twf_tset _ _ _ _ w

/-- The companion's register reads what was put into it, and the others are left alone. -/
theorem crd_cwr (j k : Nat) (v : Word) (s : State) : crd (cwr k v s) j = if j = k then v else crd s j := by
  by_cases h : j = k
  · subst h; rw [if_pos rfl]; exact tget_tset_same resetOf s.pwr.comp j v
  · rw [if_neg h]; exact tget_tset_other resetOf s.pwr.comp v h

end Sys2Proof.Laws
end

