-- ==== Sys2Proof/Laws/Run.lean ====
section
/-! SUPPORT. Laws of running a command and of the reactions that many commands order: what a part out of reset runs, and what
raising a fault, creating a notice and writing a blotter record leave alone. -/
namespace Sys2Proof.Laws
open Sys2Proof Sys2Proof.Machine

/-! ## Commands -/

theorem coreCmd_up (f : State → State) (s : State) (h : s.coreUp) : coreCmd f s = .next (carryOn (f s.alone) s) := by
  have h' : s.hub.lporHeld = false := h
  simp [coreCmd, done, run, State.alone, h']

theorem hubCmd_up (f : State → State) (s : State) (h : s.hubUp) : hubCmd f s = .next (carryOn (f s.alone) s) := by
  obtain ⟨h1, h2⟩ := h
  simp [hubCmd, done, run, State.alone, h1, h2]

theorem compCmd_up (f : State → State) (s : State) (h : s.hub.cprst = false) : compCmd f s = .next (carryOn (f s.alone) s) := by
  simp [compCmd, done, run, State.alone, h]

theorem done_eq (f : State → State) (s : State) : done f s = .next (carryOn (f s.alone) s) := rfl

/-! ## At rest: each part of settling with nothing to do -/

theorem reactAll_rest (n : Nat) (s : State) (h : s.post = []) : reactAll n s = s := by
  cases n <;> simp [reactAll, h]

theorem inboundProceed_rest (n : Nat) (s : State) (h : s.pbp.result = none) (r : pbpRuns s = false) : inboundProceed n s = s := by
  induction n with
  | zero => rfl
  | succ n ih => simp [inboundProceed, inboundStep, h, r, ih]

theorem absentAll_rest (l : List (Nat × Tag)) (s : State) (h : ∀ e ∈ l, isAbsent e.2 = false) : absentAll l s = s := by
  induction l generalizing s with
  | nil => rfl
  | cons e t ih =>
    rw [absentAll, h e (by simp)]
    exact ih s (fun x m => h x (by simp [m]))

theorem orderProceed_rest (n : Nat) (s : State) (h : s.tx.order = []) : orderProceed n s = s := by
  cases n <;> simp [orderProceed, h, nextInOrder]

/-! ## Kilco commands, and commands in reset -/

/-- A Kilco command whose packet is rung and passes the tests runs. -/
theorem kcCmd_rung (m op : Nat) (f : List Byte → State → State) (s : State) (raw : List Byte) (h : s.hubUp)
    (r : s.alone.rung m op raw) : kcCmd m op f s = .next (carryOn (f raw (kcTaken m s.alone)) s) := by
  obtain ⟨r1, r2, r3, r4, r5, r6⟩ := r
  rw [kcCmd, hubCmd_up _ s h, kcServe, r1]
  simp [r2, r3, r4, r5, r6]

theorem coreCmd_held (f : State → State) (s : State) (h : s.hub.lporHeld = true) : coreCmd f s = .next (carryOn s.alone s) := by
  simp [coreCmd, done, run, State.alone, h]

theorem hubCmd_held (f : State → State) (s : State) (h : s.hub.lporHeld = true ∨ s.hub.rstHeld = true) :
    hubCmd f s = .next (carryOn s.alone s) := by
  rcases h with h | h <;> simp [hubCmd, done, run, State.alone, h]

@[simp] theorem carryOn_pending (u s : State) : (carryOn u s).pending = s.pending := rfl

/-- The registers of the state without its queue. -/
@[simp] theorem rd_alone (s : State) (k : Nat) : rd s.alone k = rd s k := rfl
@[simp] theorem rf_alone (s : State) (k hi lo : Nat) : rf s.alone k hi lo = rf s k hi lo := rfl
@[simp] theorem rb_alone (s : State) (k i : Nat) : rb s.alone k i = rb s k i := rfl

/-! ## Frames -/

theorem onlyRegs_refl (ks : List Nat) (s : State) : OnlyRegs ks s s.alone := ⟨rfl, fun _ _ => rfl⟩

/-- The queue plays no part in a frame. -/
theorem onlyRegs_alone {ks : List Nat} {s u : State} (h : OnlyRegs ks s.alone u) : OnlyRegs ks s u :=
  ⟨congrArg (fun t : State => { t with pending := s.pending }) h.1, h.2⟩
theorem onlyRaised_alone {ks : List Nat} {s u : State} (h : OnlyRaised ks s.alone u) : OnlyRaised ks s u :=
  ⟨congrArg (fun t : State => { t with pending := s.pending }) h.1, h.2⟩

/-- A chain of frames is the frame of both. -/
theorem onlyRegs_trans {ks js : List Nat} {s t u : State} (h : OnlyRegs ks s t) (g : OnlyRegs js t u) : OnlyRegs (ks ++ js) s u := by
  refine ⟨?_, fun j hj => ?_⟩
  · have a := h.1; have b := g.1
    rw [← a, ← b]
  · rw [List.mem_append, not_or] at hj
    rw [g.2 j hj.2, h.2 j hj.1]

theorem onlyRaised_trans {ks js : List Nat} {s t u : State} (h : OnlyRaised ks s t) (g : OnlyRaised js t u) :
    OnlyRaised (ks ++ js) s u := by
  refine ⟨?_, fun j hj => ?_⟩
  · have a := h.1; have b := g.1
    rw [← a, ← b]
  · rw [List.mem_append, not_or] at hj
    rw [g.2 j hj.2, h.2 j hj.1]

theorem onlyRegs_mono {ks js : List Nat} {s u : State} (h : OnlyRegs ks s u) (sub : ∀ j, j ∈ ks → j ∈ js) : OnlyRegs js s u :=
  ⟨h.1, fun j hj => h.2 j (fun hk => hj (sub j hk))⟩

theorem onlyRaised_mono {ks js : List Nat} {s u : State} (h : OnlyRaised ks s u) (sub : ∀ j, j ∈ ks → j ∈ js) : OnlyRaised js s u :=
  ⟨h.1, fun j hj => h.2 j (fun hk => hj (sub j hk))⟩

/-- A frame of registers is a frame of a raise. -/
theorem onlyRaised_of_onlyRegs {ks : List Nat} {s u : State} (h : OnlyRegs ks s u) : OnlyRaised ks s u := by
  refine ⟨?_, h.2⟩
  have a := h.1
  rw [← a]

theorem onlyRegs_wr (k : Nat) (v : Word) (s : State) : OnlyRegs [k] s (wr k v s) :=
  ⟨rfl, fun j hj => rd_wr_other v s (by simpa using hj)⟩
theorem onlyRegs_wb (k i : Nat) (b : Bool) (s : State) : OnlyRegs [k] s (wb k i b s) := onlyRegs_wr k _ s
theorem onlyRegs_wf (k hi lo v : Nat) (s : State) : OnlyRegs [k] s (wf k hi lo v s) := onlyRegs_wr k _ s
theorem onlyRegs_bump (k n : Nat) (s : State) : OnlyRegs [k] s (bump k n s) := onlyRegs_wr k _ s
theorem onlyRegs_stm (k : Nat) (m v : Word) (s : State) : OnlyRegs [k] s (stm k m v s) := onlyRegs_wr k _ s
theorem onlyRaised_notify (g ev unit : Nat) (info : Word) (s : State) : OnlyRaised [] s (notify g ev unit info s) := ⟨rfl, fun _ _ => rfl⟩

/-- A vector is sent or becomes pending, and nothing else changes (R48). -/
theorem onlyRaised_sendVec (v : Nat) (s : State) : OnlyRaised [] s (sendVec v s) := by
  unfold sendVec
  split <;> exact ⟨rfl, fun _ _ => rfl⟩

/-- A blotter record changes the blotter's registers and records alone. -/
theorem onlyRaised_blot (typ source : Nat) (a b c : Word) (s : State) :
    OnlyRaised [bltStatus, bltRefused, bltMissed, bltWritten] s (blot typ source a b c s) := by
  unfold blot
  split
  · exact ⟨rfl, fun _ _ => rfl⟩
  split
  · exact onlyRaised_mono (onlyRaised_of_onlyRegs (onlyRegs_bump _ _ _)) (by simp)
  split
  · exact onlyRaised_mono (onlyRaised_of_onlyRegs (onlyRegs_bump _ _ _)) (by simp)
  · have h1 : OnlyRaised [] s { s with flt := { s.flt with recs := s.flt.recs ++ [mkRec typ source a b c s] } } := ⟨rfl, fun _ _ => rfl⟩
    have h2 := onlyRaised_trans h1 (onlyRaised_trans (onlyRaised_of_onlyRegs (onlyRegs_wf bltStatus 12 0 (rf s bltStatus 12 0 + 1) _))
      (onlyRaised_of_onlyRegs (onlyRegs_bump bltWritten 1 _)))
    simp only
    split
    · exact onlyRaised_mono (onlyRaised_trans h2 (onlyRaised_trans (onlyRaised_of_onlyRegs (onlyRegs_wb bltStatus 31 true _))
        (onlyRaised_notify 1 0x06 0 0 _))) (by simp)
    · exact onlyRaised_mono h2 (by simp)

/-- A unit event changes its event register alone. -/
theorem onlyRaised_unitEvent (ev nmask i g unit : Nat) (info : Word) (s : State) :
    OnlyRaised [ev] s (unitEvent ev nmask i g unit info s) := by
  unfold unitEvent
  split
  · exact ⟨rfl, fun _ _ => rfl⟩
  · simp only
    split
    · exact onlyRaised_mono (onlyRaised_trans (onlyRaised_of_onlyRegs (onlyRegs_wb ev i true s)) (onlyRaised_notify _ _ _ _ _)) (by simp)
    · exact onlyRaised_of_onlyRegs (onlyRegs_wb ev i true s)

/-- After a unit event its bit is set. -/
theorem unitEvent_bit (ev nmask i g unit : Nat) (info : Word) (s : State) (h : i < 32) :
    rb (unitEvent ev nmask i g unit info s) ev i = true := by
  unfold unitEvent
  split
  · assumption
  · simp only
    split
    · exact rb_wb_same ev i true s h
    · exact rb_wb_same ev i true s h

/-! ## Raising a fault -/

theorem onlyRaised_latch (n sev : Nat) (info : Word) (s : State) :
    OnlyRaised [fltStatus, fltFirstSrc, fltFirstInfo, fltFirstTimeLo, fltFirstTimeHi, fltFirstCnt, fltLastSrc] s
      (latchFault n sev info s) := by
  have h1 := onlyRaised_of_onlyRegs (onlyRegs_wr fltLastSrc (w32 (sev * 256 + n)) s)
  unfold latchFault
  simp only
  generalize wr fltLastSrc (w32 (sev * 256 + n)) s = a at *
  have h2 : OnlyRaised [fltStatus] a (if rf a fltStatus 25 24 < sev then wf fltStatus 25 24 sev a else a) := by
    split
    · exact onlyRaised_of_onlyRegs (onlyRegs_wf _ _ _ _ _)
    · exact ⟨rfl, fun _ _ => rfl⟩
  have h := onlyRaised_trans h1 h2
  generalize (if rf a fltStatus 25 24 < sev then wf fltStatus 25 24 sev a else a) = b at *
  split
  · split
    · exact onlyRaised_mono (onlyRaised_trans h (onlyRaised_trans (onlyRaised_of_onlyRegs (onlyRegs_wb fltStatus 29 true b))
        (onlyRaised_of_onlyRegs (onlyRegs_bump fltFirstCnt 1 _)))) (by simp)
    · exact onlyRaised_mono (onlyRaised_trans h (onlyRaised_of_onlyRegs (onlyRegs_wb fltStatus 30 true b))) (by simp)
  · have g1 := onlyRegs_trans (onlyRegs_wb fltStatus 31 true b) (onlyRegs_wr fltFirstSrc (w32 (sev * 256 + n)) _)
    generalize wr fltFirstSrc (w32 (sev * 256 + n)) (wb fltStatus 31 true b) = c at *
    have g2 := onlyRegs_trans (onlyRegs_trans (onlyRegs_wr fltFirstInfo info c) (onlyRegs_wr fltFirstTimeLo (loW (tb0 c)) _))
      (onlyRegs_wr fltFirstTimeHi (hiW (tb0 c)) _)
    generalize wr fltFirstTimeHi (hiW (tb0 c)) (wr fltFirstTimeLo (loW (tb0 c)) (wr fltFirstInfo info c)) = d at *
    have g3 := onlyRegs_wr fltFirstCnt 1 d
    generalize wr fltFirstCnt 1 d = e at *
    have g4 : OnlyRaised [] e (notify 1 0x01 n info (sendVec 48 e)) :=
      onlyRaised_mono (onlyRaised_trans (onlyRaised_sendVec 48 e) (onlyRaised_notify 1 0x01 n info _)) (by simp)
    exact onlyRaised_mono (onlyRaised_trans h (onlyRaised_trans (onlyRaised_of_onlyRegs (onlyRegs_trans g1 (onlyRegs_trans g2 g3))) g4))
      (by simp)

theorem onlyRaised_enterSafe (n : Nat) (info : Word) (s : State) :
    OnlyRaised [fltStatus, hubStatus, bltStatus, bltRefused, bltMissed, bltWritten] s (enterSafe n info s) := by
  have h1 := onlyRaised_of_onlyRegs (onlyRegs_trans (onlyRegs_wb fltStatus 28 true s) (onlyRegs_wb hubStatus 4 true _))
  unfold enterSafe
  simp only
  generalize wb hubStatus 4 true (wb fltStatus 28 true s) = a at *
  have h2 : OnlyRaised [fltStatus] a (if locked n then wb fltStatus 27 true a else a) := by
    split
    · exact onlyRaised_of_onlyRegs (onlyRegs_wb _ _ _ _)
    · exact ⟨rfl, fun _ _ => rfl⟩
  have h := onlyRaised_trans h1 h2
  generalize (if locked n then wb fltStatus 27 true a else a) = b at *
  have g1 := onlyRaised_blot 0x04 n info 0 0 b
  generalize blot 0x04 n info 0 0 b = c at *
  have g2 : OnlyRaised [] c { notify 1 0x04 n info c with post := (notify 1 0x04 n info c).post ++ [.safe] } := ⟨rfl, fun _ _ => rfl⟩
  exact onlyRaised_mono (onlyRaised_trans h (onlyRaised_trans g1 g2)) (by simp)

/-- What raising a fault changes: the fault collector's and the blotter's registers, HUB_STATUS, the blotter's records, and what is
ordered; nothing else. -/
theorem onlyRaised_raise (n : Nat) (info : Word) (s : State) : OnlyRaised (faultRegs n) s (raise n info s) := by
  unfold raise
  split
  · exact ⟨rfl, fun _ _ => rfl⟩
  simp only
  have h1 := onlyRaised_of_onlyRegs (onlyRegs_trans (onlyRegs_bump (fltCnt n) 1 s) (onlyRegs_wb (fltActive (n / 32)) (n % 32) true _))
  generalize wb (fltActive (n / 32)) (n % 32) true (bump (fltCnt n) 1 s) = a at *
  generalize severityOf n s = sev at *
  have h2 : OnlyRaised (faultRegs n) a (if sev = 0 then a else latchFault n sev info a) := by
    split
    · exact ⟨rfl, fun _ _ => rfl⟩
    · exact onlyRaised_mono (onlyRaised_latch n sev info a) (by simp [faultRegs])
  have h3 := onlyRaised_trans h1 h2
  generalize (if sev = 0 then a else latchFault n sev info a) = b at *
  have sub : ∀ j, j ∈ ([fltCnt n] ++ [fltActive (n / 32)]) ++ faultRegs n → j ∈ faultRegs n := by simp [faultRegs]
  have h4 := onlyRaised_mono h3 sub
  have h5 : OnlyRaised (faultRegs n) b (if (decide (2 ≤ sev) || rb b (fltSev n) 4) = true then
      blot 0x01 n info (w32 (sev + 256 * b2n (sev ≠ 0 && !rb a fltStatus 31) +
        512 * b2n (sev ≠ 0 && rb a fltStatus 31 && rf a fltFirstSrc 7 0 == n))) (rd b (fltCnt n)) b else b) := by
    split
    · exact onlyRaised_mono (onlyRaised_blot _ _ _ _ _ _) (by simp [faultRegs])
    · exact ⟨rfl, fun _ _ => rfl⟩
  generalize (if (decide (2 ≤ sev) || rb b (fltSev n) 4) = true then
      blot 0x01 n info (w32 (sev + 256 * b2n (sev ≠ 0 && !rb a fltStatus 31) +
        512 * b2n (sev ≠ 0 && rb a fltStatus 31 && rf a fltFirstSrc 7 0 == n))) (rd b (fltCnt n)) b else b) = c at *
  have h6 := onlyRaised_trans h4 h5
  have sub2 : ∀ j, j ∈ faultRegs n ++ faultRegs n → j ∈ faultRegs n := by simp
  have h7 := onlyRaised_mono h6 sub2
  have done (d : State) (h : OnlyRaised (faultRegs n) c d) : OnlyRaised (faultRegs n) s d :=
    onlyRaised_mono (onlyRaised_trans h7 h) sub2
  split
  · split
    · exact h7
    · exact done _ (onlyRaised_mono (onlyRaised_notify _ _ _ _ _) (by simp))
  split
  · exact done _ ⟨rfl, fun _ _ => rfl⟩
  split
  · exact done _ (onlyRaised_mono (onlyRaised_enterSafe n info c) (by simp [faultRegs]))
  · exact h7

theorem fixedClass_lt (n : Nat) (h : fixedClass n ≠ none) : n < 256 := by
  by_contra ge
  apply h
  unfold fixedClass
  repeat rw [if_neg (by omega)]

/-- The registers after a raise's count and active bit. -/
theorem raise_after (n : Nat) (lt : n < 256) : ∀ k ∈ [fltStatus, fltFirstSrc, fltFirstInfo, fltFirstTimeLo, fltFirstTimeHi, fltFirstCnt,
    fltLastSrc, hubStatus, bltStatus, bltRefused, bltMissed, bltWritten], fltCnt n ≠ k ∧ fltActive (n / 32) ≠ k := by
  simp [fltCnt, fltActive, fltStatus, fltFirstSrc, fltFirstInfo, fltFirstTimeLo, fltFirstTimeHi, fltFirstCnt, fltLastSrc, hubStatus,
    bltStatus, bltRefused, bltMissed, bltWritten]
  omega

/-- The state of a raise past its count: what follows leaves FLT_CNT and FLT_ACTIVE alone. -/
theorem raise_shows (n : Nat) (info : Word) (s : State) (up : s.hubUp) (h : fixedClass n ≠ none) :
    rd (raise n info s) (fltCnt n) = satAdd (rd s (fltCnt n)) 1 ∧ rb (raise n info s) (fltActive (n / 32)) (n % 32) = true := by
  obtain ⟨u1, u2⟩ := up
  have lt := fixedClass_lt n h
  obtain ⟨c, hc⟩ := Option.ne_none_iff_exists'.mp h
  have after := raise_after n lt
  have aux : ∀ a d : State, OnlyRaised [fltStatus, fltFirstSrc, fltFirstInfo, fltFirstTimeLo, fltFirstTimeHi, fltFirstCnt, fltLastSrc,
      hubStatus, bltStatus, bltRefused, bltMissed, bltWritten] a d →
      rd d (fltCnt n) = rd a (fltCnt n) ∧ rd d (fltActive (n / 32)) = rd a (fltActive (n / 32)) := by
    intro a d k
    exact ⟨k.2 _ (fun m => (after _ m).1 rfl), k.2 _ (fun m => (after _ m).2 rfl)⟩
  have ne : fltCnt n ≠ fltActive (n / 32) := by simp [fltCnt, fltActive]; omega
  have base : rd (wb (fltActive (n / 32)) (n % 32) true (bump (fltCnt n) 1 s)) (fltCnt n) = satAdd (rd s (fltCnt n)) 1 ∧
      rb (wb (fltActive (n / 32)) (n % 32) true (bump (fltCnt n) 1 s)) (fltActive (n / 32)) (n % 32) = true :=
    ⟨by rw [rd_wb_other _ _ _ ne, rd_bump_same], rb_wb_same _ _ _ _ (by omega)⟩
  unfold raise
  rw [if_neg (by simp [u1, u2]), hc]
  simp only
  generalize wb (fltActive (n / 32)) (n % 32) true (bump (fltCnt n) 1 s) = a at *
  generalize severityOf n s = sev at *
  have h2 := onlyRaised_mono (onlyRaised_latch n sev info a) (js := [fltStatus, fltFirstSrc, fltFirstInfo, fltFirstTimeLo,
    fltFirstTimeHi, fltFirstCnt, fltLastSrc, hubStatus, bltStatus, bltRefused, bltMissed, bltWritten]) (by simp)
  have k2 : rd (if sev = 0 then a else latchFault n sev info a) (fltCnt n) = rd a (fltCnt n) ∧
      rd (if sev = 0 then a else latchFault n sev info a) (fltActive (n / 32)) = rd a (fltActive (n / 32)) := by
    split
    · exact ⟨rfl, rfl⟩
    · exact aux _ _ h2
  generalize (if sev = 0 then a else latchFault n sev info a) = b at *
  have h3 := onlyRaised_mono (onlyRaised_blot 0x01 n info (w32 (sev + 256 * b2n (sev ≠ 0 && !rb a fltStatus 31) +
        512 * b2n (sev ≠ 0 && rb a fltStatus 31 && rf a fltFirstSrc 7 0 == n))) (rd b (fltCnt n)) b) (js := [fltStatus, fltFirstSrc, fltFirstInfo, fltFirstTimeLo,
    fltFirstTimeHi, fltFirstCnt, fltLastSrc, hubStatus, bltStatus, bltRefused, bltMissed, bltWritten]) (by simp)
  have k3 : ∀ d, d = (if (decide (2 ≤ sev) || rb b (fltSev n) 4) = true then
      blot 0x01 n info (w32 (sev + 256 * b2n (sev ≠ 0 && !rb a fltStatus 31) +
        512 * b2n (sev ≠ 0 && rb a fltStatus 31 && rf a fltFirstSrc 7 0 == n))) (rd b (fltCnt n)) b else b) →
      rd d (fltCnt n) = rd b (fltCnt n) ∧ rd d (fltActive (n / 32)) = rd b (fltActive (n / 32)) := by
    intro d e
    subst e
    split
    · exact aux _ _ h3
    · exact ⟨rfl, rfl⟩
  generalize hd : (if (decide (2 ≤ sev) || rb b (fltSev n) 4) = true then
      blot 0x01 n info (w32 (sev + 256 * b2n (sev ≠ 0 && !rb a fltStatus 31) +
        512 * b2n (sev ≠ 0 && rb a fltStatus 31 && rf a fltFirstSrc 7 0 == n))) (rd b (fltCnt n)) b else b) = d at *
  have k := k3 d rfl
  have fin (e : State) (h : rd e (fltCnt n) = rd d (fltCnt n) ∧ rd e (fltActive (n / 32)) = rd d (fltActive (n / 32))) :
      rd e (fltCnt n) = satAdd (rd s (fltCnt n)) 1 ∧ rb e (fltActive (n / 32)) (n % 32) = true := by
    refine ⟨by rw [h.1, k.1, k2.1, base.1], ?_⟩
    rw [rb, h.2, k.2, k2.2]
    exact base.2
  split
  · split
    · exact fin d ⟨rfl, rfl⟩
    · exact fin _ ⟨rfl, rfl⟩
  split
  · exact fin _ ⟨rfl, rfl⟩
  split
  · exact fin _ (aux _ _ (onlyRaised_mono (onlyRaised_enterSafe n info d) (by simp)))
  · exact fin d ⟨rfl, rfl⟩

end Sys2Proof.Laws
end

