-- ==== Sys2Proof/WellFormed.lean ====
section
/-! DEFINITION. Which commands are well formed: field widths of frames, ranges of operands. -/
namespace Sys2Proof

/-- The fields of a frame fit their places in the header, and its payload has the length that LEN gives (R83, R84). -/
def Frame.wf (f : Frame) : Bool :=
  f.dst < 256 && f.src < 256 && f.typ < 16 && f.cls < 4 && f.seq < 65536 && f.tag < 1024 && f.len < 64 && f.hop < 256 &&
    f.addr < 2 ^ 56 && f.rsv < 16 && f.payload.length == 8 * f.len

/-- A requester on the ring is a node with a tag of 10 bits; the bridge has eight inbound windows (R25, R377). -/
def Origin.wf : Origin → Bool
  | .ring src tag => 1 ≤ src && src ≤ 254 && tag < 1024
  | .bridge w => w < 8
  | .pcie _ _ => true
  | .spi => true
  | .pairK => true
  | .pairM => true

/-- The five taps of the decision-feedback equaliser, each shown in 8 bits (R50, R80). -/
def dfeOk (d : List Int) : Bool := d.length == 5 && d.all (fun t => -128 ≤ t && t ≤ 127)

/-- A tick brings all eight slots, and four sequencing inputs (R549, R571). -/
def TickIn.wf (t : TickIn) : Bool := t.slots.length == 8 && t.pg < 16

/-- The operands of a command are in range. -/
def Instr.wf : Instr → Bool
  | .registerWrite o off _ => o.wf && off < 2 ^ 56
  | .commitOnDeliveryRead o off count => o.wf && off < 2 ^ 56 && (1 ≤ count && count ≤ 256)
  | .d2dStatusFrame => true
  | .companionWriteAck => true
  | .d2dLinkLost => true
  | .logicPowerOnReset => true
  | .lporRelease _ _ _ => true
  | .rstNAssert => true
  | .rstNRelease _ _ _ => true
  | .hubCtlSwrst => true
  | .hubCtlRun => true
  | .hubCtlRunClear => true
  | .hubCtlRcclr => true
  | .companionPowerOnReset => true
  | .stbyCounterInvalid _ => true
  | .perstNAssert => true
  | .noticeCoalesceFlush _ => true
  | .laneSignalDetect _ => true
  | .laneSignalLoss _ _ => true
  | .blockLockAcquire _ _ => true
  | .blockLockLoss _ _ => true
  | .invalidSyncHeader _ _ => true
  | .invalidBlock _ blocks _ => blocks ≤ 35
  | .superframeLockAcquire _ _ _ => true
  | .superframeLockLoss _ _ => true
  | .commaReceive _ _ _ blocks => blocks ≤ 35
  | .commaSend _ => true
  | .rateChangeTimeout _ => true
  | .trainAdaptEnd _ ctle dfe => ctle < 16 && dfeOk dfe
  | .laneStateTimeout _ => true
  | .elasticIdleDelete _ _ => true
  | .elasticIdleInsert _ _ => true
  | .elasticOverflow _ _ => true
  | .forcedIdleBlock _ => true
  | .adaptStep _ ctle dfe => ctle < 16 && dfeOk dfe
  | .laneTxeqApply _ => true
  | .laneCtlRetrain _ => true
  | .laneLinkEnable _ => true
  | .laneLinkDisable _ => true
  | .lanePrbsCtlWrite _ _ => true
  | .prbsCheckerLock _ _ => true
  | .prbsCheckerUnlock _ _ => true
  | .prbsBitsLoRead _ _ => true
  | .laneMarginUpdate _ _ _ => true
  | .lanePrbs _ => true
  | .lanePrbsEnd _ _ _ => true
  | .frameHeaderArrival _ f => f.wf
  | .frameEnd _ _ _ => true
  | .laneArbitrate _ _ => true
  | .staleRemoval _ _ => true
  | .creditUpdate _ f => f.wf && f.typ == 9
  | .creditUpdateSend _ => true
  | .creditAudit _ f => f.wf && f.typ == 9
  | .creditAuditSend _ => true
  | .windowEntryExpire _ => true
  | .windowMemoryError srcs => srcs.all (fun n => 1 ≤ n && n ≤ 254)
  | .windowDiscardEnd _ => true
  | .msgFrame _ f => f.wf && f.typ == 5
  | .incomingItemAbandon _ _ => true
  | .msgOffer _ => true
  | .msgReoffer _ => true
  | .presenceSend => true
  | .presenceFrame _ f => f.wf && f.typ == 9
  | .ringSeenTimeout _ _ => true
  | .ringClosureLoss _ => true
  | .pcieMemRead _ runs => (!runs.isEmpty && runs.all (fun r => 1 ≤ r.2))
  | .pcieMemWrite _ runs => (!runs.isEmpty && runs.all (fun r => !r.2.isEmpty))
  | .requestTagGrant _ => true
  | .pcieCompletionAck _ _ => true
  | .pcieLinkDown => true
  | .spiWrite off _ _ => off < 2 ^ 24
  | .spiRead off words => off < 2 ^ 24 && (1 ≤ words && words ≤ 64)
  | .spiFwrite _ off _ _ => off < 2 ^ 56
  | .spiFread _ off words => off < 2 ^ 56 && (1 ≤ words && words ≤ 64)
  | .spiStatus => true
  | .mspiCsRise _ _ => true
  | .rdRequest _ f => f.wf && f.typ == 2
  | .wrNRequest _ f => f.wf && f.typ == 1
  | .wrPRequest _ f => f.wf && f.typ == 0
  | .completion _ f => f.wf && (f.typ == 3 || f.typ == 4)
  | .ackFrame _ f => f.wf && f.typ == 10
  | .commitWindowExpire _ _ => true
  | .busyRetry _ _ => true
  | .completionTimeout _ _ => true
  | .tagQuarantineEnd _ => true
  | .inkApply => true
  | .portPeek o _ => o.wf
  | .portPop o _ count => o.wf && (16 ≤ count && count ≤ 256)
  | .portPush o _ _ data => o.wf && (!data.isEmpty && data.length ≤ 256)
  | .queueMoveRetry _ => true
  | .stallReadExpire _ o => o.wf
  | .tailTimerFire _ => true
  | .censusCheck => true
  | .nibEnable _ => true
  | .nibDisable _ _ _ => true
  | .nibTxItemStart _ => true
  | .nibTxItemComplete _ _ => true
  | .uartCharacterReceive _ samples _ _ _ => samples.length ≤ 12
  | .uartIdleClose _ => true
  | .uartBreakReceive _ _ _ _ => true
  | .uartCtsChange _ _ _ => true
  | .uartDeRelease _ => true
  | .nibHoldEnd _ => true
  | .hdlcFrameReceive _ _ _ => true
  | .spiTargetCsFall _ => true
  | .spiTargetCsRise _ _ => true
  | .i2cStart7 _ _ _ => true
  | .i2cStart10 _ _ _ _ => true
  | .i2cWrite _ _ _ => true
  | .i2cRead _ _ _ => true
  | .i2cStop _ => true
  | .i2cPause _ => true
  | .i2cStretchTimeout _ _ => true
  | .i2cTargetStart _ addr ten _ => addr < (if ten then 1024 else 128)
  | .i2cTargetStop _ _ _ _ _ => true
  | .i2cTargetFillTimeout _ _ => true
  | .i2cHoldTimeout _ _ => true
  | .counterEdge _ _ _ _ => true
  | .counterIndex _ _ => true
  | .pwmPeriodBoundary _ => true
  | .oneShotEnd _ => true
  | .freqWindowEnd _ => true
  | .bankClassChange _ _ => true
  | .outputFight _ _ => true
  | .debounceSettle _ _ _ => true
  | .stuckDetect _ => true
  | .discreteShortPulse _ => true
  | .chatterWindowEnd _ => true
  | .stormWindowEnd _ => true
  | .discreteFilterWrite _ _ _ => true
  | .discreteLimitWrite _ _ => true
  | .discreteOutClaim _ => true
  | .discreteOutRelease _ => true
  | .discreteOutValWrite _ _ => true
  | .discretePulseEnd _ => true
  | .discreteSafeWrite _ _ => true
  | .strokeEnable => true
  | .strokeDisable => true
  | .strokeCommit => true
  | .strokeCutoff => true
  | .strokeInstant _ => true
  | .strokeFrame _ f => f.wf && f.typ == 8
  | .strokeScheduleSwitch => true
  | .strokeConfig _ => true
  | .qlEnable _ => true
  | .qlDisable _ _ => true
  | .qlCtlSwap _ => true
  | .qlSwapTakeEffect _ => true
  | .qlCtlForce _ _ => true
  | .qlCtlSwcan _ => true
  | .qlCtlMark _ => true
  | .qlTxWrite o _ _ => o.wf
  | .qlRxdRead o _ => o.wf
  | .qlQueueTxFetch _ => true
  | .nop _ _ => true
  | .shout _ _ => true
  | .shin _ _ _ => true
  | .shxc _ _ _ => true
  | .const _ _ => true
  | .load _ _ => true
  | .store _ _ => true
  | .tally _ _ => true
  | .dir _ _ => true
  | .idle _ _ => true
  | .qlIllegalStep _ => true
  | .qlRestart _ => true
  | .qlLoad _ => true
  | .qlSwap _ _ => true
  | .canEnable _ => true
  | .canDisable _ => true
  | .canBusIntegrated _ => true
  | .canSubmissionTake _ => true
  | .canTxAttempt _ => true
  | .canTxSuccess _ _ _ => true
  | .canTxFail _ _ _ _ _ _ => true
  | .canTxcanWrite _ _ _ => true
  | .canFrameReceive _ _ _ data _ _ => data.length ≤ 64
  | .canStagingAdmit _ => true
  | .canHpwinRead o _ => o.wf
  | .canBusoffRecover _ => true
  | .canStuckDominant _ _ _ => true
  | .canCtlFallback _ => true
  | .canWatchdogExpire _ => true
  | .canWatchdogKick _ o => o.wf
  | .canCtlFbleave _ => true
  | .canFbSlotStart _ _ _ => true
  | .canFbSlotLate _ _ _ => true
  | .canclkLoss => true
  | .canclkRecover mhz => (mhz == 40 || mhz == 80)
  | .pbpEnable => true
  | .pbpDisable => true
  | .windowEnable inb w => (!inb || w.val < 8)
  | .windowDisable inb w => (!inb || w.val < 8)
  | .pbpOutboundCycleStart => true
  | .pbpBusGrant => true
  | .pbpArbTimeout _ => true
  | .pbpCycleAck _ => true
  | .pbpCycleError => true
  | .pbpBusTimeout => true
  | .pbpCycleRetry => true
  | .pbpRequestLimit _ => true
  | .pbpPrefetchAge _ => true
  | .pbpInboundDecode addr _ width _ _ => addr < 2 ^ 32 && (width == 1 || width == 2 || width == 4)
  | .pbpPostedAdmit => true
  | .pbpHoldLimitExpire => true
  | .wireLevelChange => true
  | .wireRefresh => true
  | .wireFrame _ f => f.wf && f.typ == 6
  | .wireLost => true
  | .tbStepApply _ _ => true
  | .tbRateWrite _ _ => true
  | .tbBctlWrite _ _ => true
  | .tbLoRead _ => true
  | .tbEnable => true
  | .tbDisable => true
  | .syncSend => true
  | .syncFrame _ f _ => f.wf && f.typ == 7
  | .syncPairTimeout no => no < 65536
  | .holdoverTimeout => true
  | .stbyCounterRefresh => true
  | .timeGet _ => true
  | .timeStep _ => true
  | .timeRestepAllow _ => true
  | .tbConfig _ => true
  | .kcDoorbell _ o => o.wf
  | .kcCtlClose _ o => o.wf
  | .kcSessionExpire _ => true
  | .jobStep _ j _ _ => j < 32
  | .jobOutcomeExpire _ j => j < 32
  | .jobLowSupplyResume _ j => j < 32
  | .hello _ => true
  | .goodbye _ => true
  | .getIdentity _ => true
  | .getCaps _ => true
  | .jobStatus _ => true
  | .jobCancel _ => true
  | .cfgRead _ => true
  | .cfgWrite _ => true
  | .cfgEnable _ => true
  | .cfgCheck _ => true
  | .cfgSave _ _ _ => true
  | .cfgRestore _ => true
  | .fwBegin _ => true
  | .fwChunk _ => true
  | .fwVerify _ _ => true
  | .fwActivate _ => true
  | .fwSlotInfo _ => true
  | .nvCounters _ => true
  | .bltFreeze _ => true
  | .bltRead _ => true
  | .bltThaw _ => true
  | .bltClear _ => true
  | .monArm _ => true
  | .monRead _ => true
  | .fltRead _ => true
  | .fltClear _ => true
  | .heartbeatSend _ => true
  | .heartbeat _ f => f.wf && f.typ == 9
  | .authAck _ f => f.wf && f.typ == 9
  | .authorityLeaseExpire _ => true
  | .lapsedEnd _ => true
  | .heartbeatSilence _ => true
  | .takeReq _ f => f.wf && f.typ == 9
  | .takeAns _ f => f.wf && f.typ == 9
  | .noHolderTimeout _ => true
  | .witnessHostTimeout _ => true
  | .appoint _ f => f.wf && f.typ == 9
  | .table _ f => f.wf && f.typ == 9
  | .standbyPassOver _ => true
  | .standbyAckTimeout => true
  | .swapReq _ f => f.wf && f.typ == 9
  | .roleSwapTimeout _ => true
  | .censusRptSend => true
  | .censusRpt _ f => f.wf && f.typ == 9
  | .nodeAbsent _ => true
  | .sizeSetSend => true
  | .sizeSet _ f => f.wf && f.typ == 9
  | .leaseOpAcquire _ f => f.wf && f.typ == 11
  | .leaseOpRenew _ f => f.wf && f.typ == 11
  | .leaseOpRelease _ f => f.wf && f.typ == 11
  | .leaseOpGrant _ f => f.wf && f.typ == 11
  | .leaseOpRefuse _ f => f.wf && f.typ == 11
  | .leaseExpire _ => true
  | .leaseRequestRepeat _ => true
  | .leaseAnswerTimeout _ => true
  | .roleSetConfig _ => true
  | .roleSetGrant _ => true
  | .roleSetDeny _ => true
  | .roleSwap _ => true
  | .leaseAcquire _ => true
  | .leaseRenew _ => true
  | .leaseRelease _ => true
  | .censusRead _ => true
  | .memoryUncorrectable _ _ _ _ _ _ => true
  | .fltStatusValidWrite => true
  | .fltCtlSafeExit => true
  | .fltUnquarWrite _ => true
  | .fltInjWrite _ => true
  | .lockstepMismatch _ _ => true
  | .coreWatchdogExpire _ => true
  | .pllLockLoss _ => true
  | .logicTempLimit _ => true
  | .bltCtlFreeze => true
  | .bltCtlThaw => true
  | .bltClrWrite => true
  | .monSample _ _ => true
  | .monCtlArm _ => true
  | .monCtlStop _ => true
  | .cphPageEnable o _ => o.wf
  | .cphPageDisable o _ => o.wf
  | .cphCmdLoad o _ _ _ _ _ => o.wf
  | .cphCmdErase o _ _ => o.wf
  | .cphJobStart => true
  | .cphJobEnd => true
  | .cphResultAdmit _ => true
  | .cphDinWrite o _ data => o.wf && (!data.isEmpty && data.length ≤ 256)
  | .cphCounterPersist _ _ => true
  | .keyLoad _ _ => true
  | .keyErase _ => true
  | .macGen _ => true
  | .macVerify _ => true
  | .companionTick t => t.wf
  | .feedGood _ => true
  | .feedLost _ => true
  | .feedOvervoltage _ _ => true
  | .feedReverseCurrent _ => true
  | .feedReverseRecover _ => true
  | .feedImbalance share => share ≤ 100
  | .infailEnter => true
  | .infailEnd => true
  | .feedEnable _ => true
  | .feedDisable _ => true
  | .slotEnable _ => true
  | .slotDisable _ => true
  | .slotOnWrite _ => true
  | .slotOffWrite _ => true
  | .slotCtlRetry _ => true
  | .slotInsertionDelayEnd _ => true
  | .slotFastTrip _ => true
  | .slotStartTimerExpire _ => true
  | .slotFaultTimerExpire _ => true
  | .slotCooldownEnd _ => true
  | .slotLeadEnd _ => true
  | .slotWarnRelease _ => true
  | .slotPgUndervoltage _ => true
  | .slotRetriesClear _ => true
  | .slotBusOvervoltage _ => true
  | .companionThermalShutdown _ => true
  | .companionThermalRecover => true
  | .companionTempWarning _ => true
  | .nvInhibitEnter _ => true
  | .nvInhibitEnd => true
  | .cseqOutputAssert => true
  | .cseqTimeout => true
  | .cseqRetry => true
  | .cseqShutdown => true
  | .cseqPgFall _ => true
  | .pwrStbySetHiWrite _ => true
  | .pwrStbyCntLoRead => true
  | .loadShed => true
  | .feedStatus _ => true
  | .slotOn _ => true
  | .slotOff _ => true
  | .slotRetry _ => true
  | .firmwareStart => true
  | .bootConfirm => true
  | .hoursPersist => true
  | .companionResetEnd => true
  | .badOpcode _ => true
  | .canReceiveError _ _ _ => true

end Sys2Proof
end

