-- ==== Sys2Proof/Tests/Slice0.lean ====
section
/-! SUPPORT. Own tests: ill-formed commands are refused, states that meet the hypotheses of the statements, and single steps on
small states whose outcome the spec states. -/
namespace Sys2Proof.Tests
open Sys2Proof Sys2Proof.Machine

/-! ## Small states -/

/-- The state after reset with these registers written. -/
def st (l : List (Nat × Nat)) : State := l.foldl (fun s e => wr e.1 (w32 e.2) s) State.reset

/-- The state after reset with these registers of the companion written. -/
def cst (l : List (Nat × Nat)) : State :=
  l.foldl (fun s e => { s with pwr := { s.pwr with comp := tset resetOf s.pwr.comp e.1 (w32 e.2) } }) (st [(hubStatus, 0x207)])

/-- A frame from node 3 to node 1, empty but for its type and class. -/
def fr (typ cls addr : Nat) : Frame :=
  { dst := 1, src := 3, typ := typ, cls := cls, ts := false, pri := false, last := false, single := false, ring := false, uw := false,
    seq := 9, tag := 4, len := 0, hop := 2, addr := addr, payload := [], crc := 0 }

/-- A Kilco packet of version 3.4 for mailbox 0 (1.0 for HELLO): opcode, parameter words of zeros, TAG 7. -/
def packet (op words flags : Nat) (first : List Nat) : List Byte :=
  ([w32 ((if op = 1 then 0x01000000 else 0x03040000) + op), w32 (7 * 65536 + 4 * words), w32 flags, 0] ++
    (first ++ List.replicate (words - first.length) 0).map w32).flatMap wordBytes

/-- Pairs K and M run, mailbox 0 is open at version 3.4, and `raw` is rung in it. -/
def ringing (raw : List Byte) : State :=
  setBox 0 { pkt := some raw } (st [(hubStatus, 0x207), (kcStat 0, 0x80340000)])

/-! ## Ill-formed commands -/

theorem test_wf_frame_fields : ∀ f ∈ [{ fr 2 3 0 with dst := 256 }, { fr 2 3 0 with src := 256 }, { fr 2 3 0 with typ := 16 },
    { fr 2 3 0 with cls := 4 }, { fr 2 3 0 with seq := 65536 }, { fr 2 3 0 with tag := 1024 }, { fr 2 3 0 with len := 64 },
    { fr 2 3 0 with hop := 256 }, { fr 2 3 0 with addr := 2 ^ 56 }, { fr 2 3 0 with len := 1 }, { fr 2 3 0 with rsv := 16 }],
    (Instr.frameHeaderArrival 0 f).wf = false := by decide

theorem test_wf_frame_types : ∀ i ∈ [Instr.rdRequest 0 (fr 1 3 0), .wrNRequest 0 (fr 2 3 0), .wrPRequest 0 (fr 2 3 0),
    .completion 0 (fr 5 3 0), .ackFrame 0 (fr 9 3 0), .msgFrame 0 (fr 6 3 0), .wireFrame 0 (fr 5 3 0), .syncFrame 0 (fr 8 0 0) 0,
    .strokeFrame 0 (fr 7 0 0), .heartbeat 0 (fr 11 0 0), .creditUpdate 0 (fr 8 0 0), .presenceFrame 0 (fr 8 0 0),
    .leaseOpAcquire 0 (fr 9 0 0)],
    i.wf = false := by decide

theorem test_wf_requesters : ∀ o ∈ [Origin.ring 0 0, .ring 255 0, .ring 3 1024, .bridge 8],
    (Instr.registerWrite o 0 0).wf = false ∧ (Instr.portPeek o 0).wf = false := by decide

theorem test_wf_ranges : ∀ i ∈ [Instr.registerWrite .spi (2 ^ 56) 0, .commitOnDeliveryRead .spi 0 0, .commitOnDeliveryRead .spi 0 257,
    .invalidBlock 0 36 ⟨0b10, 0⟩, .commaReceive 0 ⟨0b10, 0⟩ 0 36, .trainAdaptEnd 0 16 [0, 0, 0, 0, 0], .trainAdaptEnd 0 0 [0, 0, 0, 0],
    .adaptStep 0 0 [0, 0, 0, 0, 128], .windowMemoryError [0], .windowMemoryError [255],
    .pcieMemRead .bar0 [], .pcieMemRead .msix [(0, 0)], .pcieMemWrite .bar2 [(0, [])], .spiWrite (2 ^ 24) [] 0, .spiRead 0 0,
    .spiRead 0 65, .spiFwrite 1 (2 ^ 56) [] 0, .spiFread 1 0 65, .portPop .spi 0 15, .portPop .spi 0 257, .portPush .spi 0 false []],
    i.wf = false := by decide

theorem test_wf_unit_ranges : ∀ i ∈ [Instr.uartCharacterReceive 0 (List.replicate 13 0) true true 0,
    .i2cTargetStart 0 128 false true, .i2cTargetStart 0 1024 true true, .canFrameReceive 0 0 0 (List.replicate 65 0) 0 0,
    .canclkRecover 60, .windowEnable true 8, .windowDisable true 8, .pbpInboundDecode (2 ^ 32) 0 1 false 0,
    .pbpInboundDecode 0 0 3 false 0, .syncPairTimeout 65536, .jobStep 0 32 true true, .cphDinWrite .spi 0 [], .feedImbalance 101,
    .companionTick ⟨0, 0, 0, 0, 0, 0, 0, []⟩], i.wf = false := by decide

theorem test_wf_well_formed : ∀ i ∈ [Instr.rdRequest 0 (fr 2 3 0), .registerWrite (.ring 254 1023) (2 ^ 56 - 1) 0,
    .uartCharacterReceive 0 (List.replicate 12 0) true true 0, .i2cTargetStart 0 127 false true, .windowEnable true 7, .feedImbalance 100], i.wf = true := by decide

/-- The table gives no row any bits, so no word is a command. -/
theorem test_no_word_is_a_command : decodeTableWord 32 0 = none ∧ (State.reset.withFetchWord 32 0) = State.reset := by decide

/-! ## States that meet the hypotheses: the block as a whole and the families -/

theorem witness_out_of_reset : (st []).coreUp ∧ (st []).hubUp ∧ (st []).hub.cprst = false ∧ (st []).pending = [] :=
  ⟨rfl, ⟨rfl, rfl⟩, rfl, rfl⟩

theorem witness_settled : (st [(hubCtl, 1)]).Settled ∧ step (st [(hubCtl, 1)]) = .next (idleTick (st [(hubCtl, 1)])) :=
  ⟨⟨by decide, by decide, fun h => absurd h (by decide)⟩, rfl⟩

theorem witness_quiet : Does (.tagQuarantineEnd 0) (st []) (st []) ∧ (st []).Quiet :=
  ⟨rfl, rfl, rfl, (fun _ h => nomatch h), rfl, rfl, rfl, rfl, by decide, rfl, (fun _ h => nomatch h), (fun _ h => nomatch h),
    by decide, rfl, by decide, by decide⟩

theorem witness_held : ({ st [] with hub := { HubSt.reset with lporHeld := true } } : State).holds (.laneSignalDetect 0) ∧
    ({ st [] with hub := { HubSt.reset with lporHeld := true } } : State).holds (.spiStatus) ∧
    ({ st [] with hub := { HubSt.reset with rstHeld := true } } : State).holds (.spiStatus) ∧
    ({ st [] with hub := { HubSt.reset with cprst := true } } : State).holds (.feedGood 0) :=
  ⟨rfl, .inl rfl, .inr rfl, rfl⟩

/-- The opcodes and the number of their parameter words, as R457 lists them, but for those above 0x03FF. -/
def lowOps : List (Nat × Nat) := [(0x0001, 2), (0x0002, 0), (0x0003, 0), (0x0004, 0), (0x0005, 1), (0x0006, 1), (0x0101, 3), (0x0102, 3),
  (0x0103, 3), (0x0104, 0), (0x0105, 1), (0x0106, 3), (0x0201, 65), (0x0202, 3), (0x0203, 1), (0x0204, 1), (0x0205, 1), (0x0206, 0)]
def midOps : List (Nat × Nat) := [(0x0301, 0), (0x0302, 2), (0x0303, 0), (0x0304, 0), (0x0305, 6), (0x0306, 1), (0x0307, 0), (0x0308, 2),
  (0x0309, 4), (0x0401, 1), (0x0402, 3), (0x0403, 2), (0x0404, 6), (0x0405, 5)]
def highOps : List (Nat × Nat) := [(0x0501, 2), (0x0502, 1), (0x0503, 2), (0x0504, 2), (0x0505, 1), (0x0506, 1), (0x0601, 0), (0x0602, 1),
  (0x0603, 2), (0x0604, 1), (0x0701, 1), (0x0702, 1), (0x0703, 2), (0x0704, 9), (0x0801, 2), (0x0802, 1)]

/-- A packet of each opcode is rung, served and passes the tests, in a state out of reset. -/
def rungAll (l : List (Nat × Nat)) : Prop := ∀ e ∈ l, (box 0 (ringing (packet e.1 e.2 0 []))).pkt = some (packet e.1 e.2 0 []) ∧
  kServes (ringing (packet e.1 e.2 0 [])) = true ∧ pkOp (packet e.1 e.2 0 []) = e.1 ∧
  kcWaits 0 (ringing (packet e.1 e.2 0 [])) = false ∧ kcTurn 0 (ringing (packet e.1 e.2 0 [])) = true ∧ kcGate 0 (packet e.1 e.2 0 []) (ringing (packet e.1 e.2 0 [])) = none

set_option maxRecDepth 20000 in
theorem witness_rung_low : rungAll lowOps := by unfold rungAll; decide
set_option maxRecDepth 20000 in
theorem witness_rung_mid : rungAll midOps := by unfold rungAll; decide
set_option maxRecDepth 20000 in
theorem witness_rung_high : rungAll highOps := by unfold rungAll; decide

/-! ## States that meet the hypotheses: the results of single commands -/

theorem witness_access_types : pendOf .pairM (st []) = none ∧ owner 0 (st []) = 0 ∧ owner 511 (st []) = 0 ∧
    owner 511 (st [(xbPin 511, 0x10000000)]) ≠ 0 ∧ (st []).hub.icBad = false ∧
    ({ st [] with hub := { HubSt.reset with icBad := true } } : State).hub.icBad = true := by decide

theorem witness_counter_reads : readHeld [0x140] (st []) = false ∧ readHeld [0x168] (st []) = false ∧
    pendOf .spi (st []) = none ∧ pendOf .pairM (st []) = none ∧ (st []).hub.icBad = false ∧
    readHeld [0x168] { st [] with tx := { (st []).tx with pend := [⟨.spi, [.count 0x168 0]⟩] } } = true := by decide

theorem witness_lost_link : rb (st [(hubStatus, 4)]) hubStatus 2 = true ∧ rb (st []) hubStatus 2 = false ∧
    (let a : Access := ⟨.wrN, 0x40100, 4, [1, 2, 3, 4]⟩; a.kind ≠ .rd ∧ legalAccess a = true ∧ 4 ≤ a.count ∧ ∀ k ∈ accWords a, compSide k = true ∧ known k = true) := by decide

/-- A lane in state `n` with both locks, LINK_EN as given. -/
def laneSt (l n en : Nat) : State := st [(laneReg l 0x004, n + 96), (laneReg l 0, en)]

/-- The lane's own state besides. -/
def withLane (l : Nat) (k : LaneSt) (s : State) : State := { s with lanes := [(l, k)] }

theorem witness_rate_change : (let s := withLane 1 { stage := 1, agreed := 2, ackSent := true, winBad := 15 } (laneSt 1 3 1); laneState 1 s = 3 ∧ blockLock 1 s = true ∧ 15 ≤ (lane 1 s).winBad ∧ (lane 1 s).ackSent = true ∧ (lane 1 s).agreed = 2) ∧
    (let s := withLane 0 { winBad := 15 } (laneSt 0 3 1); laneState 0 s = 3 ∧ blockLock 0 s = true ∧ 15 ≤ (lane 0 s).winBad ∧ (lane 0 s).ackSent = false ∧ rb s (laneReg 0 0) 0 = true) ∧
    syncOk 0b00 = false ∧ syncOk 0b11 = false := by decide

/-- A comma of the lane's partner with this type byte. -/
def comma (typ : Nat) : Block := commaBlock typ

theorem witness_leaves_up : (∀ l : Fin 2, laneState l (laneSt l 6 1) = 6 ∧ rb (laneSt l 6 1) (laneReg l 0) 0 = true ∧
    blockLock l (laneSt l 6 1) = true ∧ sfLock l (laneSt l 6 1) = true) ∧
    15 ≤ (lane 1 (withLane 1 { winBad := 15 } (laneSt 1 6 1))).winBad ∧
    (let s := withLane 1 { pos := some 4095, missRun := 2 } (laneSt 1 6 1); (lane 1 s).pos = some 4095 ∧ 4096 ≤ 4095 + 1 ∧
      3 ≤ (lane 1 s).missRun + (4095 + 1) / 4096) ∧
    (let s := withLane 0 { elastic := List.replicate 31 ⟨0b01, 0⟩ } (laneSt 0 6 1); (lane 0 s).elastic.length = 31) ∧
    commaOf ⟨0b01, 0⟩ = none ∧
    (let s := setLink 0 { rx := some ⟨0, fr 2 3 0, true, false, false, false, 0⟩ } (withLane 0 { elastic := [⟨0b01, 0⟩] } (laneSt 0 6 1)); inFrame 0 s = true ∧ (lane 0 s).elastic.length = 1 ∧ laneState 0 s = 6) ∧
    fld 1 1 0 = 1 ∧ fld 2 1 0 = 2 ∧ 0 + 4095 = 4095 ∧ 4095 + 0 = 4095 ∧ commaOf (comma 8) = some 8 ∧ 8 / 2 % 4 ≠ 2 := by decide

theorem witness_lane_starts : laneState 0 (st [(laneReg 0 4, 0)]) = 0 ∧ rb (st [(laneReg 0 0, 0)]) (laneReg 0 0) 0 = false ∧
    rf (st [(laneReg 0 0, 0)]) (laneReg 0 0x040) 1 0 = 0 ∧
    rf (st [(laneReg 0 0, 0), (laneReg 0 0x040, 2)]) (laneReg 0 0x040) 1 0 ≠ 0 ∧
    (let s := st [(laneReg 1 4, 0x2007), (laneReg 1 0x040, 9)]; prbsChecks 1 s = true ∧ laneBit 1 13 s = true) := by decide

theorem witness_line_code : commaOf (comma 12) = some 12 ∧ 12 / 2 % 4 = 2 ∧
    (let s := withLane 1 { pos := some 4095 } (laneSt 1 6 1); laneState 1 s = 6 ∧ blockLock 1 s = true ∧ sfLock 1 s = true ∧
      (lane 1 s).pos = some 4095) ∧
    (∃ b : Block, b.hdr = 0b10#2 ∧ b.pay.toNat / 256 = 0x3CA5F05A0FC396 ∧ b.pay.toNat % 256 = 23 ∧ 23 / 8 % 4 = 2) :=
  ⟨by decide, by decide, by decide, ⟨0b10, 0x3CA5F05A0FC39617⟩, by decide⟩

theorem witness_duplicates : (fr 2 3 0).single = false ∧ (dupFilter 0 (fr 2 3 0) true (st [])).1 = true := by decide

theorem witness_unseen : (254 : Nat) ≠ ownNode (st []) ∧ seenOn 254 1 (st [(0x3013C, 0x20000000)]) = true ∧
    seenOn 2 0 (st [(0x30100, 0x10)]) = true := by decide

theorem witness_local_only : permitted 3 ⟨.rd, 0x7FC, 4, []⟩ (st []) = true ∧ known hubApSel = true ∧ known hubPrmCtl = true ∧
    known 0x400 = true := by decide

/-- Tag 1023 as given. -/
def tagged (t : Tag) : State := { st [] with tx := { (st []).tx with tags := [(1023, t)] } }

theorem witness_tags : (let t := tagSt 1023 (tagged { use := .out, kind := 1, org := .pairM })
    t.use = .out ∧ t.kind ≠ 2 ∧ t.org = .pairM ∧ t.gone = false ∧ t.waiting = false) ∧
    (tagSt 1023 (tagged { use := .out, kind := 1, org := .pairM, waiting := true })).waiting = true ∧ pendOf .pairM (tagged {}) = none ∧
    (tagSt 1023 (tagged { use := .quarantine })).use = .quarantine ∧ (tagSt 1023 (st [])).use ≠ .quarantine := by decide

theorem witness_census : (let s := st []; s.ink.free + s.ink.queued + s.ink.inflight = 32768) ∧
    (let s := { st [] with ink := { (st []).ink with free := 32767 } }; s.ink.free + s.ink.queued + s.ink.inflight ≠ 32768) := by decide

theorem witness_held_pops : (let s := { st [] with ink := { (st []).ink with queues := [(1023, { held := [⟨.pairM, 0x24000, 64⟩] })] } }; pendOf .pairM s = none ∧ (queue 1023 s).held.any (fun h => h.org == .pairM) = true) ∧
    (queue 0 (st [])).held.any (fun h => h.org == .pairM) = false := by decide

set_option maxRecDepth 20000 in
theorem witness_staged_set : liveNibs (st []) = [] ∧ (totalsCheck (st [])).1 = 0 ∧
    (totalsCheck (st [(inkCplRsv, 511)])).1 = 0x12 := by decide

/-- Nib 255 is a running UART whose CTS input is pin 0. -/
def uartSt (status : Nat) : State :=
  st [(hubCtl, 1), (nibReg 255 0, 0x11), (nibReg 255 0x2C, 0x80000000), (nibReg 255 0x04, status)]

theorem witness_clear_to_send : (nib 255 (uartSt 0)).tx = false ∧ uartHs 255 (uartSt 0) ≠ 1 ∧
    uartHs 255 (wr (nibReg 255 0x40) 0x1000 (uartSt 0)) = 1 ∧ nibIn 255 1 (uartSt 0) = true ∧ slotUse 255 3 (uartSt 0) = true ∧
    rb (uartSt 0x4000000) (nibReg 255 0x04) 26 = !((false && bankClass (slotPin 255 3 (uartSt 0x4000000) / 32) (uartSt 0x4000000) != 0) !=
      slotInv 255 3 (uartSt 0x4000000)) ∧
    rb (uartSt 0) (nibReg 255 0x04) 26 ≠ !((false && bankClass (slotPin 255 3 (uartSt 0) / 32) (uartSt 0) != 0) !=
      slotInv 255 3 (uartSt 0)) := by decide

theorem witness_pulses : rb (st [(dReg 511 0x10, 4)]) (dReg 511 0x10) 2 = true ∧ rb (st []) (dReg 0 0x10) 2 = false := by decide

theorem witness_cutoff : (st []).stk.cut = false ∧ ({ st [] with stk := { cut := true } } : State).stk.cut = true := ⟨rfl, rfl⟩

theorem witness_quill_fifo : qlTxen 63 (st []) = false ∧ (quill 63 (st [])).txf.length < 4 ∧
    (let s := { st [] with quills := [(63, { txf := [1, 2, 3, 4] })] }; qlTxen 63 s = false ∧ 4 ≤ (quill 63 s).txf.length) ∧
    qlTxen 63 (st [(qlReg 63 0x1C, 0x80000000)]) = true ∧
    denied (.ring 3 4) ⟨.wrN, qlReg 63 0x40, 4, wordBytes 5⟩ (st []) = false := by decide

theorem witness_quill_swap : (let s := st [(qlReg 63 0, 1)]
    rf s (qlReg 63 0) 7 4 = 0 ∧ qlEn 63 s = true ∧ rb s (qlStatus 63) 31 = false ∧ qlAtSwap 63 s = false) ∧
    qlAtSwap 63 (st [(qlReg 63 0, 1), (qlStatus 63, 0x40000000)]) = true ∧ rb (st [(qlStatus 63, 0x40000000)]) (qlStatus 63) 31 = false ∧
    qlEn 63 (st []) = false ∧ rb (st [(qlStatus 63, 0x80000000)]) (qlStatus 63) 31 = true := by decide

/-- Controller 15 enabled, in fall-back with this cause. -/
def fallSt (cause : Nat) (kicked : Bool) : State :=
  { st [(canReg 15 0, 1), (canStat 15, 0x40000000 + cause * 2 ^ 28)] with cans := [(15, { kicked := kicked })] }

theorem witness_kicks : rb (st [(hubStatus, 2)]) hubStatus 1 = true ∧ rb (st [(hubStatus, 2)]) (canReg 15 0x30) 30 = false ∧
    (let s := { st [(hubStatus, 2), (canReg 15 0x30, 0x40000000)] with roles := { (st []).roles with leases := [⟨0x0401000F, 2, 3, 4⟩] } }; rb s (canReg 15 0x30) 30 = true ∧ canLeased 15 s = true) ∧
    (let s := st [(hubStatus, 2), (canReg 15 0x30, 0x40000000)]; rb s (canReg 15 0x30) 30 = true ∧ canLeased 15 s = false) ∧
    (let s := fallSt 1 false; rf s (canReg 15 0) 6 5 = 0 ∧ canEn 15 s = true ∧ canFb 15 s = true ∧ rf s (canStat 15) 29 28 = 1) ∧
    (let s := fallSt 2 true; canFb 15 s = true ∧ rf s (canStat 15) 29 28 = 2 ∧ (can 15 s).kicked = true) ∧
    (let s := fallSt 2 false; ¬ (rf s (canStat 15) 29 28 = 1 ∨ (rf s (canStat 15) 29 28 = 2 ∧ (can 15 s).kicked = true))) ∧
    canFb 0 (st []) = false := by decide

theorem witness_wires : rb (st [(pbpReg 0x03C, 0x80000000)]) (pbpReg 0x03C) 31 = true ∧
    rb (st []) (pbpReg 0x03C) 31 = false := by decide

theorem witness_bases : slaved 3 (st [(tbBase 3 0, 0)]) = false ∧ rb (st [(tbBase 3 0, 0)]) (tbBase 3 0) 0 = false ∧
    slaved 3 (st [(tbBase 3 0, 1)]) = false ∧ rb (st [(tbBase 3 0, 1)]) (tbBase 3 0) 0 = true ∧
    slaved 3 (st [(tbBase 3 0, 2)]) = true := by decide

/-- Mailbox 15 with this status word; pairs K and M run, and the host holds it. -/
def boxSt (w : Nat) : State := st [(hubStatus, 0x207), (kcStat 15, w), (kcReg 15 0x10, 0x40000000)]

theorem witness_doorbell : (kcOpen 15 (boxSt 0x80340000) = true ∧ rd (boxSt 0x80340000) (kcReg 15 0x10) ≠ holderWord .spi (boxSt 0x80340000)) ∧
    rd (boxSt 0xC0340000) (kcReg 15 0x10) = holderWord (.pcie 0 0) (boxSt 0xC0340000) ∧ rb (boxSt 0xC0340000) (kcStat 15) 30 = true ∧
    kcOpen 15 (boxSt 0) = false ∧ rb (boxSt 0) (kcStat 15) 30 = false ∧ kServes (boxSt 0) = true ∧
    ¬ (kcOpen 15 (boxSt 0) = true) ∧ kServes (wr hubStatus 0 (boxSt 0)) = false ∧
    (let s := setBox 15 { copy := some (List.replicate 16 0) } (boxSt 0x80340000); kcOpen 15 s = true ∧ pkOp (List.replicate 16 0) ≠ 1 ∧ kcBytes 15 0x400 16 s = List.replicate 16 0 ∧
      fld (wordAt (kcBytes 15 0x404 4 s) 0) 15 0 = 0 ∧ (box 15 s).copy = some (List.replicate 16 0)) ∧
    (box 15 (boxSt 0)).copy ≠ some (kcBytes 15 0x400 (16 + min (fld (wordAt (kcBytes 15 0x404 4 (boxSt 0)) 0) 15 0) 2032) (boxSt 0)) := by
  decide

theorem witness_replies : (ringing (packet 4 0 0 [])).rung 0 4 (packet 4 0 0 []) ∧ bit (pkW (packet 4 0 0 []) 2) 1 = false ∧
    (ringing (packet 4 0 2 [])).rung 0 4 (packet 4 0 2 []) ∧ bit (pkW (packet 4 0 2 []) 2) 1 = true := by
  unfold State.rung; decide

theorem witness_vectors : vecMasked 16 (ringing (packet 4 0 0 [])) = true ∧
    vecMasked 16 { st [] with hub := { HubSt.reset with msixTab := [(16 * 16 + 12, 0)] } } = false ∧ vecMasked 48 (st []) = true := by decide

theorem witness_hours : inRom (st [(hubStatus, 0x100)]) = true ∧ rb (st [(hubStatus, 0x202)]) hubStatus 1 = true ∧ nvInhibited (st [(hubStatus, 0x202), (pwrStatus, 0)]) = false ∧
    nvInhibited (st [(hubStatus, 0x202), (pwrStatus, 0x80000000)]) = true ∧
    rb (st [(hubStatus, 0)]) hubStatus 1 = false ∧ inRom (st [(hubStatus, 0)]) = false := by decide

theorem witness_latch : (severityOf 11 (st []) ≠ 0 ∧ rb (st []) fltStatus 31 = false) ∧
    (let s := st [(fltStatus, 0x80000000), (fltFirstSrc, 0x20C)]; severityOf 11 s ≠ 0 ∧ rb s fltStatus 31 = true ∧ rf s fltFirstSrc 7 0 ≠ 11) ∧
    severityOf 11 (st [(fltCtl, 0), (0x142C, 0)]) = 0 := by decide

theorem witness_handling : fixedClass 0 ≠ none ∧ severityOf 0 (st []) ≠ 0 ∧ pendOf .pairM (st []) = none ∧
    (let raw := packet 0x0308 2 0 [5, 0x100000FF]; (box 0 (ringing raw)).pkt = some raw ∧ kServes (ringing raw) = true ∧ pkOp raw = 0x0308 ∧ kcWaits 0 (ringing raw) = false ∧
      kcTurn 0 (ringing raw) = true ∧ kcGate 0 raw (ringing raw) = none ∧ bit (par raw 0) 0 = true ∧ bit (par raw 0) 2 = true ∧
      fld (par raw 1) 15 0 < kindCount (fld (par raw 1) 31 28) ∧ bit (par raw 0) 1 = false) := by decide

theorem witness_blotter : rb (st []) bltStatus 31 = false := by decide

theorem witness_monitors : monOk (rd (st [(monReg 15 4, 0x200000FF)]) (monReg 15 4)) = true ∧
    monOk (rd (st [(monReg 15 4, 0x20000100)]) (monReg 15 4)) = false := by decide

theorem witness_roles : pairM (st [(hubStatus, 2)]) = true ∧ pairM (st [(hubStatus, 0)]) = false ∧ authOver 1 (st []) = false ∧
    authOver 1 (setBase 0 { ns := 2000000 } (st [])) = true ∧
    roleOwn 1 (st [(roleState 1, 4)]) = 4 ∧ roleOwn 1 (st [(roleState 1, 5)]) ≠ 4 ∧
    roleOwn 1 (st [(roleState 1, 5)]) = 5 ∧ roleOwn 1 (st [(roleState 1, 4)]) ≠ 5 ∧
    leaseOf 7 { st [] with roles := { (st []).roles with leases := [⟨7, 2, 3, 4⟩] } } ≠ none ∧ leaseOf 7 (st []) = none := by decide

/-- Slot 31 owned by page 0, which is pair M's; mailbox 0 is held through PCIe. -/
def keySt : State := wr (cphOwn 31) 0x80000000 (wr (kcReg 0 0x10) 0x40000000 (ringing (packet 0x0702 1 0 [0x1F0000])))

theorem witness_keys : owns 0 31 keySt = true ∧ cphDenied 0 (holderWord .pairM keySt) keySt = false ∧
    (box 0 keySt).pkt = some (packet 0x0702 1 0 [0x1F0000]) ∧ kServes keySt = true ∧ pkOp (packet 0x0702 1 0 [0x1F0000]) = 0x0702 ∧
    kcWaits 0 keySt = false ∧ kcTurn 0 keySt = true ∧ kcGate 0 (packet 0x0702 1 0 [0x1F0000]) keySt = none ∧
    cmdPage (packet 0x0702 1 0 [0x1F0000]) = 0 ∧ cmdSlot (packet 0x0702 1 0 [0x1F0000]) = 31 ∧ pageHolder 0 0 keySt = true := by decide

theorem witness_feeds : rb (cst []) hubStatus 2 = true ∧ (cst []).hub.cprst = false ∧
    (let s := cst [(feedReg 1 0, 1), (feedReg 0 0, 1), (feedReg 0 4, 0)]; crb s (feedReg 1 0) 0 = true ∧ feedGood 0 s = false) ∧
    (let s := cst [(feedReg 0 0, 1), (feedReg 1 0, 0)]; crb s (feedReg 0 0) 0 = true ∧ crb s (feedReg 1 0) 0 = false) ∧
    (let s := cst [(slotReg' 7 0, 2), (slotReg' 7 4, 0x06000000)]; slotState 7 s = 6 ∧ slotOn 7 s = true) ∧
    slotState 7 (cst [(slotReg' 7 4, 0x02000000)]) ≠ 6 := by decide

/-! ## Single steps -/

/-- The state after one step that runs `c`. -/
def after (c : Instr) (s : State) : State :=
  match step { s with pending := [c] } with
  | .next t => t
  | .fault _ => s
  | .refused _ => s

/-- A notice route takes five bits (R46); HUB_ID is read only (R18). -/
theorem test_register_write : rd (after (.registerWrite .pairM 0x80 0xFFFFFFFF) (st [])) 0x80 = 0x1F#32 ∧
    rd (after (.registerWrite .pairM 0 0xFFFFFFFF) (st [])) 0 = 0x92560210#32 := by decide

/-- A read where no register is completes UR (R129). -/
theorem test_unmapped_read : (after (.commitOnDeliveryRead .pairM 0x200 4) (st [])).tx.core = [(.pairM, .ur, [])] := by decide

/-- R403: a step adds the 64-bit value of TB_STEP_HI:LO. -/
theorem test_base_step : (after (.tbStepApply 1 1) { st [] with time := { (st []).time with bases := [(1, { ns := 5, stepLo := 7 })] } }).time.bases
    = [(1, { ns := 0x10000000C#64, stepLo := 7 })] := by decide

/-- One nanosecond on an empty queue. -/
theorem test_nanosecond : (match step (st []) with | .next t => tb0 t | .fault _ => 9 | .refused _ => 9) = 1#64 := by decide

/-- An answered packet leaves PEND 0 and RDY 1 (R435). -/
theorem test_reply : rd (after (.getCaps 0) (ringing (packet 4 0 0 []))) (kcStat 0) = 0xA0340000#32 := by decide

set_option maxRecDepth 20000 in
/-- FS11 is fatal: at reset its raise is handled as node-safe, and latched as the first error (R496, R500). -/
theorem test_first_error : rd (after (.pllLockLoss 2) (st [])) fltFirstSrc = 0x30B#32 := by decide

/-- A word written to QL_TX waits in the TX FIFO (R295). -/
theorem test_quill_write : (quill 0 (after (.qlTxWrite .pairM 0 0x55AA) (st []))).txf = [0x55AA#32] := by decide

/-- The bridge runs strobe-timed and arbitrated, with inbound window 0 on this node's own map, 32 bits wide. -/
def bridgeSt (attr : Nat) : State :=
  st [(hubCtl, 1), (pbpCtl, 1), (pbpReg 0x010, 0xAA), (winI 0 0, 1), (winI 0 0x18, attr)]

set_option maxRecDepth 20000 in
/-- R377, R378: a read of HUB_ID through an inbound window ends with its value, and a posted write is done when its cycle has ended. -/
theorem test_inbound : (after (.pbpInboundDecode 0 0 4 false 0) (bridgeSt 2)).pbp.bus = [.ended 0 0x92560210#32] ∧
    rd (after (.pbpInboundDecode 0x80 0 4 true 0x1F) (bridgeSt 0x22)) 0x80 = 0x1F#32 := by decide

set_option maxRecDepth 40000 in
/-- R535: the tag is AES-CMAC; the example of RFC 4493 with the empty message. -/
theorem test_cmac : cmac (leBytes 16 0x2b7e151628aed2a6abf7158809cf4f3c).reverse [] =
    (leBytes 16 0xbb1d6929e95937287fa37d129b756746).reverse := by decide

/-- The worked example after R167 with S − U = 2: Q700 has RSV 64, CAP 512 and 60 cells; 7 more are refused, 4 more admitted. -/
def crowded : State :=
  { st [] with ink := { (st []).ink with active := [(qReg 700 8, w32 (512 * 65536 + 64)), (qReg 701 8, w32 (32768 * 65536 + 22478))],
                                         queues := [(700, { items := List.replicate 60 { bytes := [0] } })] } }

set_option maxRecDepth 20000 in
theorem test_admission : sharedS crowded.ink.active - sharedU crowded.ink.active crowded = 2 ∧ admits 700 7 crowded = false ∧
    admits 700 4 crowded = true := by decide

/-- The example after R515: OFS 1000 and WIDTH 250 put 4470 into bin 13, 8750 and more into bin 31. -/
theorem test_histogram : monBin 4470 1000 250 = 13 ∧ monBin 8750 1000 250 = 31 ∧ monBin 999 1000 250 = 0 := by decide

set_option maxRecDepth 20000 in
/-- The CRCs of R86 and R506 over the digits 1 to 9: their published check values. -/
theorem test_crc : crc32 ([49, 50, 51, 52, 53, 54, 55, 56, 57].map (BitVec.ofNat 8)) = 0xCBF43926#32 ∧
    crc16 ([49, 50, 51, 52, 53, 54, 55, 56, 57].map (BitVec.ofNat 8)) = 0x29B1 := by decide

end Sys2Proof.Tests
end

section
/-! SUPPORT. How one word of the map is read or written at this node by a requester of this hub, and how the answer reaches pair M: what
the statements about single registers have in common. -/
namespace Sys2Proof.Proofs
open Sys2Proof Sys2Proof.Machine Sys2Proof.Laws

/-! ## Accesses of one word -/

theorem wordAt_wordBytes (v : Word) : wordAt (wordBytes v) 0 = v := by
  have h : leNat (wordBytes v) = v.toNat := by
    have := v.isLt
    simp only [wordBytes, leNat, BitVec.toNat_ofNat]
    omega
  have e : ((wordBytes v).drop 0).take 4 = wordBytes v := rfl
  rw [wordAt, e, h, w32, BitVec.ofNat_toNat, BitVec.setWidth_eq]

theorem bytesWords_wordBytes (v : Word) : bytesWords 1 (wordBytes v) = [v] := by
  rw [bytesWords, bytesWords, wordAt_wordBytes]

/-- A register word with no port window, mailbox area, companion, key page, CAN controller, nib or quill at its place. -/
structure PlainWord (k : Nat) : Prop where
  aligned : k % 4 = 0
  row     : (regRow k).isSome = true
  place   : k < 0x10000 ∨ (0x28000 ≤ k ∧ k < 0x40000) ∨ (0x300000 ≤ k ∧ k < 0x400000)

section
variable {k : Nat} (kind : AccKind) (d : List Byte) (hk : PlainWord k)
include hk

theorem accWords_word : accWords ⟨kind, k, 4, d⟩ = [k] := by
  have := hk.aligned
  have h : ceilDiv (k % 4 + 4) 4 = 1 := by simp [ceilDiv, this]
  have e : k / 4 * 4 = k := by omega
  simp [accWords, h, e]

theorem legalAccess_word : legalAccess ⟨kind, k, 4, d⟩ = true := by
  have := hk.aligned
  simp [legalAccess, this]
  omega

/-- None of the special places of the map holds a plain word. -/
theorem plain_place : isPort k = false ∧ isKcArea k = false ∧ isDin k = false ∧ isHp k = false ∧ compSide k = false := by
  have := hk.place
  simp [isPort, isKcArea, isDin, isHp, compSide, compReg, pwrReg, pwrEvtR]
  omega

theorem plain_refuses (who v : Word) (s : State) : refuses who k v s = none := by
  have := hk.place
  simp (disch := omega) only [refuses, Bool.and_eq_true, decide_eq_true_eq, if_neg]

/-- A plain word is served as a register. -/
theorem regServe_word (o : Origin) (who : Word) (s : State) :
    regServe o who ⟨kind, k, 4, d⟩ s =
      if kind = .rd then regRead ⟨kind, k, 4, d⟩ s else regWrite o who ⟨kind, k, 4, d⟩ s := by
  obtain ⟨port, -, -, -, -⟩ := plain_place hk
  have mapped : known k = true := by rw [known, hk.row, Bool.or_true]
  simp [regServe, port, accWords_word kind d hk, mapped]

theorem regWrite_word (o : Origin) (who v : Word) (s : State) :
    regWrite o who ⟨.wrN, k, 4, wordBytes v⟩ s = .now .ok [] [] (writeReg o who k v s) := by
  obtain ⟨-, kc, din, -, comp⟩ := plain_place hk
  simp [regWrite, accWords_word .wrN _ hk, bytesWords_wordBytes, burstRefuses, plain_refuses hk, kc, din, comp, writeRegs]

/-- A requester of this hub has a plain word served by the register, while no interconnect error is pending. -/
theorem serve_word (o : Origin) (s : State) (up : s.hubUp) (ic : s.hub.icBad = false) (near : ringSide o = false) :
    serve o ⟨kind, k, 4, d⟩ s = finish o ⟨kind, k, 4, d⟩ (regServe o (holderWord o s) ⟨kind, k, 4, d⟩ s) s := by
  obtain ⟨u1, u2⟩ := up
  have := hk.place
  unfold serve
  rw [u1, u2, ic, denied, near, legalAccess_word kind d hk, if_neg (by decide), if_neg (by decide), if_neg (by simp),
    if_neg (by decide), if_neg (show ¬ 2 ^ 41 ≤ k by omega), if_neg (show ¬ 2 ^ 40 ≤ k by omega)]
end

/-! ## Reads of one word -/

theorem winRecords_word {k : Nat} (hk : PlainWord k) (s : State) : winRecords [k] s = [] := by
  have := hk.place
  have e : (decide (0x51000 ≤ k) && decide (k < 0x52000)) = false := by simp; omega
  simp only [winRecords, List.filter, e, List.map, List.dedup_nil]

/-- A read of a word of which a read is pending is held (R147). -/
theorem regRead_held {k : Nat} (hk : PlainWord k) (s : State) (h : readHeld [k] s = true) : regRead ⟨.rd, k, 4, []⟩ s = .held := by
  simp [regRead, accWords_word .rd [] hk, h]

/-- A read of a counter register that captures nothing returns the count and holds it pending (R145). -/
theorem regRead_counter {k : Nat} (hk : PlainWord k) (s : State) (free : readHeld [k] s = false) (cap : readCapture k s = s)
    (val : readVal k s = rd s k) (com : commitsOf k (rd s k) s = [.count k (rd s k).toNat]) :
    regRead ⟨.rd, k, 4, []⟩ s = .now .ok (wordBytes (rd s k)) [.count k (rd s k).toNat] s := by
  obtain ⟨-, -, -, hp, -⟩ := plain_place hk
  simp [regRead, accWords_word .rd [] hk, free, hp, readRegs, readReg, cap, val, com, winRecords_word hk, bltTouchAll]

/-! ## Answers to pair M -/

/-- Pair M's request is served, and its completion is delivered (R148). -/
def delivered (st : Status) (d : List Byte) (s : State) : State :=
  { unserve .pairM s with tx := { (unserve .pairM s).tx with core := s.tx.core ++ [(.pairM, st, d)] } }

@[simp] theorem delivered_core (st : Status) (d : List Byte) (s : State) :
    (delivered st d s).tx.core = s.tx.core ++ [(.pairM, st, d)] := rfl
@[simp] theorem delivered_hub (st : Status) (d : List Byte) (s : State) : (delivered st d s).hub = s.hub := rfl
@[simp] theorem rd_delivered (st : Status) (d : List Byte) (s : State) (k : Nat) : rd (delivered st d s) k = rd s k := rfl
@[simp] theorem pendOf_delivered (o : Origin) (st : Status) (d : List Byte) (s : State) :
    pendOf o (delivered st d s) = pendOf o s := rfl

theorem commitOrg_none {o : Origin} {s : State} (h : pendOf o s = none) : commitOrg o s = s := by simp [commitOrg, h]

/-- An outcome that counts nothing is delivered to pair M, and what pair M had read is committed (R148). -/
theorem answer_pairM {a : Access} {st : Status} (d : List Byte) (s : State) (hst : st = .ok ∨ st = .poison)
    (na : a.kind ≠ .wrP) : answer .pairM a st d s = commitOrg .pairM (delivered st d s) := by
  obtain ⟨kind, addr, count, data⟩ := a
  cases kind with
  | wrP => exact absurd rfl na
  | rd => rcases hst with rfl | rfl <;> rfl
  | wrN => rcases hst with rfl | rfl <;> rfl

/-- Requester `o` holds pending what a read returned it (R145). -/
def pendRead (o : Origin) (cs : List Commit) (s : State) : State := setTx { s.tx with pend := s.tx.pend ++ [⟨o, cs⟩] } s

theorem pendOf_pendRead {o : Origin} {s : State} (cs : List Commit) (np : pendOf o s = none) :
    pendOf o (pendRead o cs s) = some ⟨o, cs⟩ := by
  rw [pendOf] at np
  simp [pendOf, pendRead, setTx, List.find?_append, np]

/-- An answer whose read holds nothing pending (R145). -/
theorem finish_silent (o : Origin) (a : Access) (st : Status) (d : List Byte) (s' s : State) :
    finish o a (.now st d [] s') s = answer o a st d s' := rfl

/-! ## Plain writes -/

theorem plainWrite_onlyRegs (k : Nat) (v : Word) (s : State) : OnlyRegs [k] s (plainWrite k v s) := by
  have keep : OnlyRegs [k] s s := ⟨rfl, fun _ _ => rfl⟩
  unfold plainWrite
  split
  · exact keep
  · simp only
    split
    · exact onlyRegs_stm k _ v s
    · split
      · exact keep
      · exact onlyRegs_stm k _ v s
    · exact onlyRegs_wr k _ s
    · exact onlyRegs_wr k _ s
    all_goals exact keep

theorem plainWrite_tx (k : Nat) (v : Word) (s : State) : (plainWrite k v s).tx = s.tx :=
  congrArg (fun t => t.tx) (plainWrite_onlyRegs k v s).1

theorem plainWrite_hub (k : Nat) (v : Word) (s : State) : (plainWrite k v s).hub = s.hub :=
  congrArg (fun t => t.hub) (plainWrite_onlyRegs k v s).1

theorem plainWrite_rw {k : Nat} {r : RegRow} (v : Word) (s : State) (row : regRow k = some r) (acc : r.acc = .rw) :
    rd (plainWrite k v s) k = (rd s k &&& ~~~w32 r.mask) ||| (v &&& w32 r.mask) := by
  simp [plainWrite, row, acc, stm]

theorem plainWrite_w1c {k : Nat} {r : RegRow} (v : Word) (s : State) (row : regRow k = some r) (acc : r.acc = .w1c) :
    rd (plainWrite k v s) k = rd s k &&& ~~~(v &&& w32 r.mask) := by
  simp [plainWrite, row, acc]

theorem plainWrite_ro {k : Nat} {r : RegRow} (v : Word) (s : State) (row : regRow k = some r) (acc : r.acc = .ro) :
    plainWrite k v s = s := by
  simp [plainWrite, row, acc]

/-- REGISTER_WRITE by pair M to a plain word without a behaviour of its own: the register takes the value by its access type, and
pair M is told OK. -/
theorem registerWrite_plain {s : State} {k : Nat} (v : Word) (up : s.hubUp) (ic : s.hub.icBad = false) (np : pendOf .pairM s = none)
    (hk : PlainWord k) (own : ∀ who, writeReg .pairM who k v s.alone = plainWrite k v s.alone) :
    Does (.registerWrite .pairM k v) s (delivered .ok [] (plainWrite k v s.alone)) := by
  have np' : pendOf .pairM (plainWrite k v s.alone) = none := by rw [pendOf, plainWrite_tx]; exact np
  have e : serve .pairM ⟨.wrN, k, 4, wordBytes v⟩ s.alone = delivered .ok [] (plainWrite k v s.alone) := by
    rw [serve_word .wrN _ hk .pairM s.alone up ic rfl, regServe_word .wrN _ hk, if_neg (by decide), regWrite_word hk, own, finish_silent,
      answer_pairM _ _ (.inl rfl) (by simp), commitOrg_none ((pendOf_delivered _ _ _ _).trans np')]
  rw [← e]
  exact coreCmd_up _ s up.1

/-- What such a write answers pair M and leaves in the registers. -/
theorem registerWrite_tells {s : State} {k : Nat} (v : Word) (up : s.hubUp) (ic : s.hub.icBad = false) (np : pendOf .pairM s = none)
    (hk : PlainWord k) (own : ∀ who, writeReg .pairM who k v s.alone = plainWrite k v s.alone) :
    Ends (.registerWrite .pairM k v) s (fun u => (u.tx.core = s.tx.core ++ [(.pairM, .ok, [])] ∧ u.hub.icBad = false) ∧
      RegsKeep [k] s u ∧ rd u k = rd (plainWrite k v s.alone) k) := by
  refine ⟨_, registerWrite_plain v up ic np hk own, ⟨?_, ?_⟩, (plainWrite_onlyRegs k v s.alone).2, rd_delivered _ _ _ _⟩
  · rw [delivered_core, plainWrite_tx]; rfl
  · rw [delivered_hub, plainWrite_hub]; exact ic

/-- A frame whose one register holds what it held changes no register. -/
theorem regsKeep_nil_of_same {k : Nat} {s u : State} (keep : RegsKeep [k] s u) (same : rd u k = rd s k) : RegsKeep [] s u := by
  intro j _
  by_cases h : j = k
  · rw [h, same]
  · exact keep j (by simpa using h)

/-- The next access after the interconnect error of FS7 completes POISON with no effect (R494, log entry 28). -/
theorem serve_poison (o : Origin) (a : Access) (s : State) (up : s.hubUp) (bad : s.hub.icBad = true) :
    serve o a s = answer o a .poison [] (setHub { s.hub with icBad := false } s) := by
  obtain ⟨u1, u2⟩ := up
  unfold serve
  rw [if_neg (by simp [u1, u2]), if_pos bad]

/-- REGISTER_WRITE by pair M that meets the interconnect error of FS7 (R494, log entry 28). -/
theorem registerWrite_poison {s : State} (k : Nat) (v : Word) (up : s.hubUp) (bad : s.hub.icBad = true) (np : pendOf .pairM s = none) :
    Does (.registerWrite .pairM k v) s (delivered .poison [] (setHub { s.hub with icBad := false } s.alone)) := by
  have e : serve .pairM ⟨.wrN, k, 4, wordBytes v⟩ s.alone = delivered .poison [] (setHub { s.hub with icBad := false } s.alone) := by
    rw [serve_poison _ _ s.alone up bad, answer_pairM _ _ (.inr rfl) (by simp)]
    exact commitOrg_none ((pendOf_delivered _ _ _ _).trans np)
  rw [← e]
  exact coreCmd_up _ s up.1

/-! ## The registers of the statements -/

theorem regRow_hubId : regRow 0 = some ⟨0x000, 1, 4, .ro, 0x92560210, 0xFFFFFFFF⟩ := rfl

theorem regRow_nroute : ∀ g < 32, regRow (0x80 + 4 * g) = some ⟨0x080, 32, 4, .rw, 0, 0x1F⟩ := by decide

theorem regRow_laneEvt : ∀ l : Fin 2, regRow (laneReg l 0x008) = some ⟨0x008, 1, 4, .w1c, 0, 0x3F⟩ := by decide

theorem regRow_hubCnt : ∀ i < 11, regRow (0x140 + 4 * i) = some ⟨0x140, 11, 4, .rc, 0, 0xFFFFFFFF⟩ := by decide

theorem regRow_xbPin {p : Nat} (hp : p < 512) : regRow (xbPin p) = some ⟨0x000, 512, 4, .rwl, 0x20, 0x3F⟩ := by
  have e : regRow (xbPin p) = findRow xbRows (4 * p) := by
    simp (disch := omega) only [regRow, xbPin, if_neg, if_pos, Nat.add_sub_cancel_left]
  simp [e, findRow, xbRows, hp]

theorem plainWord_of_row {k : Nat} {r : RegRow} (row : regRow k = some r) (al : k % 4 = 0)
    (place : k < 0x10000 ∨ (0x28000 ≤ k ∧ k < 0x40000) ∨ (0x300000 ≤ k ∧ k < 0x400000)) : PlainWord k :=
  ⟨al, by rw [row]; rfl, place⟩

theorem plainWord_nroute {g : Nat} (hg : g < 32) : PlainWord (0x80 + 4 * g) :=
  plainWord_of_row (regRow_nroute g hg) (by omega) (by omega)

theorem plainWord_laneEvt (l : Fin 2) : PlainWord (laneReg l 0x008) :=
  plainWord_of_row (regRow_laneEvt l) (by simp only [laneReg]; omega) (by simp only [laneReg]; omega)

theorem plainWord_xbPin {p : Nat} (hp : p < 512) : PlainWord (xbPin p) :=
  plainWord_of_row (regRow_xbPin hp) (by simp only [xbPin]; omega) (by simp only [xbPin]; omega)

theorem plainWord_hubCnt {i : Nat} (hi : i < 11) : PlainWord (0x140 + 4 * i) :=
  plainWord_of_row (regRow_hubCnt i hi) (by omega) (by omega)

theorem plainWord_hubId : PlainWord 0 := plainWord_of_row regRow_hubId rfl (by omega)

/-- HUB registers but HUB_CTL and ROLE_CFG have no behaviour of their own. -/
theorem writeReg_hub (o : Origin) (who : Word) {k : Nat} (v : Word) (s : State) (hk : k < 0x1000) (n1 : k ≠ 0x008) (n2 : k ≠ 0x800) :
    writeReg o who k v s = plainWrite k v s := by
  simp [writeReg, hk, hubWrite, n1, n2]

theorem writeReg_laneEvt (o : Origin) (who : Word) (l : Fin 2) (v : Word) (s : State) :
    writeReg o who (laneReg l 0x008) v s = plainWrite (laneReg l 0x008) v s := by
  fin_cases l <;> rfl

theorem writeReg_xbPin (o : Origin) (who : Word) {p : Nat} (v : Word) (s : State) (hp : p < 512) :
    writeReg o who (xbPin p) v s = plainWrite (xbPin p) v s := by
  have place : 0x300000 ≤ xbPin p ∧ xbPin p < 0x300800 := by simp only [xbPin]; omega
  generalize xbPin p = k at place
  simp (disch := omega) only [writeReg, xbWrite, stkCtl, Bool.and_eq_true, Bool.or_eq_true, decide_eq_true_eq, if_neg, if_pos]

theorem owner_alone (p : Nat) (s : State) : owner p s.alone = owner p s := rfl

/-- XB_PIN is locked while its pin has an owner (R245). -/
theorem rwlLocked_xbPin {p : Nat} (hp : p < 512) (s : State) : rwlLocked (xbPin p) s = (owner p s != 0) := by
  have e : (xbPin p - 0x300000) / 4 = p := by simp only [xbPin]; omega
  have place : 0x300000 ≤ xbPin p ∧ xbPin p < 0x300800 := by simp only [xbPin]; omega
  generalize xbPin p = k at place e
  simp (disch := omega) only [rwlLocked, Bool.and_eq_true, decide_eq_true_eq, if_neg, if_pos, e]

theorem plainWrite_xbPin {p : Nat} (hp : p < 512) (v : Word) (s : State) :
    plainWrite (xbPin p) v s = if owner p s = 0 then stm (xbPin p) 0x3F#32 v s else s := by
  have noCan : (decide (0x80000 ≤ xbPin p) && decide (xbPin p < 0x90000)) = false := by
    have : ¬ xbPin p < 0x90000 := by simp only [xbPin]; omega
    rw [decide_eq_false this, Bool.and_false]
  simp only [plainWrite, regRow_xbPin hp, rwlLocked_xbPin hp, noCan, Bool.false_and, Bool.or_false]
  by_cases h : owner p s = 0 <;> simp [h, w32]

/-! ## Counters of the hub -/

/-- A counter of the hub shows what is stored, a read of it captures nothing, and the count it returns is held pending (R145). -/
theorem hubCnt_read {i : Nat} (hi : i < 11) (s : State) :
    readCapture (0x140 + 4 * i) s = s ∧ readVal (0x140 + 4 * i) s = rd s (0x140 + 4 * i) ∧
      ∀ v, commitsOf (0x140 + 4 * i) v s = [.count (0x140 + 4 * i) v.toNat] := by
  obtain ⟨-, kc, -, -, -⟩ := plain_place (plainWord_hubCnt hi)
  have row := regRow_hubCnt i hi
  have place : 0x140 ≤ 0x140 + 4 * i ∧ 0x140 + 4 * i < 0x200 := by omega
  generalize 0x140 + 4 * i = k at *
  refine ⟨?_, ?_, fun v => ?_⟩
  · have noBase : ¬ (0x4100 ≤ k) := by omega
    have noBits (l : Nat) : k ≠ laneReg l 0x48 := by simp only [laneReg]; omega
    have noStby : k ≠ pwrReg 0x024 := by simp only [pwrReg]; omega
    simp [readCapture, noBase, noBits, noStby]
  · simp (disch := omega) only [readVal, kc, row, shown, hubNpend, hubTxTags, ringStatus, ringReg, stkStatus, pwrReg,
      Bool.and_eq_true, decide_eq_true_eq, if_neg]
    rfl
  · simp [commitsOf, row]

/-- A read of a hub counter, none of it pending, by a requester of this hub is answered with the count, which it holds pending. -/
theorem counterRead_does {s : State} {i : Nat} (o : Origin) (hi : i < 11) (up : s.hubUp) (ic : s.hub.icBad = false)
    (near : ringSide o = false) (free : readHeld [0x140 + 4 * i] s = false) :
    Does (.commitOnDeliveryRead o (0x140 + 4 * i) 4) s
      (answer o ⟨.rd, 0x140 + 4 * i, 4, []⟩ .ok (wordBytes (rd s (0x140 + 4 * i)))
        (pendRead o [.count (0x140 + 4 * i) (rd s (0x140 + 4 * i)).toNat] s.alone)) := by
  have hk := plainWord_hubCnt hi
  obtain ⟨cap, val, com⟩ := hubCnt_read hi s.alone
  have read := regRead_counter hk s.alone free cap val (com _)
  have e : serve o ⟨.rd, 0x140 + 4 * i, 4, []⟩ s.alone = answer o ⟨.rd, 0x140 + 4 * i, 4, []⟩ .ok (wordBytes (rd s (0x140 + 4 * i)))
        (pendRead o [.count (0x140 + 4 * i) (rd s (0x140 + 4 * i)).toNat] s.alone) := by
    rw [serve_word .rd [] hk o s.alone up ic near, regServe_word .rd [] hk, if_pos rfl, read]
    rfl
  rw [← e]
  exact coreCmd_up _ s up.1

/-- Committing the whole count of a hub counter leaves it at 0 and changes no other register. -/
theorem commitOrg_counter {s : State} {o : Origin} {i : Nat} (hi : i < 11)
    (h : pendOf o s = some ⟨o, [.count (0x140 + 4 * i) (rd s (0x140 + 4 * i)).toNat]⟩) :
    (commitOrg o s).tx.core = s.tx.core ∧ rd (commitOrg o s) (0x140 + 4 * i) = 0#32 ∧ RegsKeep [0x140 + 4 * i] s (commitOrg o s) := by
  have near : compReg (0x140 + 4 * i) = false := by
    simp [compReg]
    omega
  have e : commitOrg o s = wr (0x140 + 4 * i) 0#32 (dropPend o s) := by
    simp [commitOrg, h, commitAll, commitOne, subCount, near, satSub, w32, dropPend, rd]
  rw [e]
  exact ⟨rfl, rd_wr_same _ _ _, fun j hj => rd_wr_other _ _ (by simpa using hj)⟩

/-! ## The statements -/

/-- Settles O2: the front of the queue is the first case of `step`. -/
theorem stepRunsFront : Obligations.StepRunsFront := fun _ _ _ => rfl

/-- Settles O8: each hub command runs its operation when the part it acts in is out of reset. -/
theorem hubCommandsComplete : Obligations.HubCommandsComplete := by
  intro s
  exact ⟨fun _ _ _ up => coreCmd_up _ s up, fun _ _ _ up => coreCmd_up _ s up, fun up => hubCmd_up _ s up, fun up => hubCmd_up _ s up,
    fun up => hubCmd_up _ s up, done_eq _ s, fun _ _ _ => done_eq _ s, done_eq _ s, fun _ _ _ => done_eq _ s,
    fun up => hubCmd_up _ s up, fun up => hubCmd_up _ s up, fun up => hubCmd_up _ s up, fun up => hubCmd_up _ s up, done_eq _ s,
    fun _ => done_eq _ s, fun up => coreCmd_up _ s up, fun _ up => hubCmd_up _ s up⟩

/-- Every command is `done`, `coreCmd`, `hubCmd`, `compCmd` or `kcCmd` of its effect, and each of these ends in `carryOn`. -/
theorem exec_carriesOn (c : Instr) (s : State) : ∃ u, Does c s u := by
  cases c <;> exact ⟨_, rfl⟩

/-- Settles O4: every command ends in `carryOn`, which restores the queue. -/
theorem commandsAnswerAndKeepQueue : Obligations.CommandsAnswerAndKeepQueue := by
  intro c s
  obtain ⟨u, hu⟩ := exec_carriesOn c s
  exact ⟨carryOn u s, hu, carryOn_pending u s⟩

/-- Settles O25: each of the registers is a plain word without a behaviour of its own, so its access type says what it stores. -/
theorem registerWritesFollowAccessType : Obligations.RegisterWritesFollowAccessType := by
  intro s v up np
  refine ⟨fun ic => ?_, fun bad k => ⟨_, registerWrite_poison k v up bad np, ⟨rfl, rfl⟩, fun _ _ => rd_delivered _ _ _ _⟩⟩
  refine ⟨fun g hg => ?rw, fun l => ?w1c, fun p hp free => ?rwl, fun p hp owned => ?locked, ?ro⟩
  case rw =>
    obtain ⟨u, does, told, keep, val⟩ := registerWrite_tells v up ic np (plainWord_nroute hg)
      (fun _ => writeReg_hub _ _ v _ (by omega) (by omega) (by omega))
    refine ⟨u, does, told, keep, ?_⟩
    rw [val, plainWrite_rw v _ (regRow_nroute g hg) rfl, rd_alone]
    rfl
  case w1c =>
    obtain ⟨u, does, told, keep, val⟩ := registerWrite_tells v up ic np (plainWord_laneEvt l)
      (fun _ => writeReg_laneEvt _ _ l v _)
    refine ⟨u, does, told, keep, ?_⟩
    rw [val, plainWrite_w1c v _ (regRow_laneEvt l) rfl, rd_alone]
    rfl
  case rwl =>
    obtain ⟨u, does, told, keep, val⟩ := registerWrite_tells v up ic np (plainWord_xbPin hp)
      (fun _ => writeReg_xbPin _ _ v _ hp)
    refine ⟨u, does, told, keep, ?_⟩
    rw [val, plainWrite_xbPin hp, owner_alone, if_pos free, stm, rd_wr_same, rd_alone]
  case locked =>
    have same : plainWrite (xbPin p) v s.alone = s.alone := by rw [plainWrite_xbPin hp, owner_alone, if_neg owned]
    obtain ⟨u, does, told, keep, val⟩ := registerWrite_tells v up ic np (plainWord_xbPin hp)
      (fun _ => writeReg_xbPin _ _ v _ hp)
    exact ⟨u, does, told, regsKeep_nil_of_same keep (by rw [val, same]; rfl)⟩
  case ro =>
    have same : plainWrite 0 v s.alone = s.alone := plainWrite_ro v _ regRow_hubId rfl
    obtain ⟨u, does, told, keep, val⟩ := registerWrite_tells v up ic np plainWord_hubId
      (fun _ => writeReg_hub _ _ v _ (by omega) (by omega) (by omega))
    exact ⟨u, does, told, regsKeep_nil_of_same keep (by rw [val, same]; rfl)⟩

/-- Settles O26: the read of a counter holds its count pending; pair M's completion commits it, the SPI target's does not, and
`readHeld` decides which read is held. -/
theorem counterReadsCommit : Obligations.CounterReadsCommit := by
  intro s i up ic hi
  have hk := plainWord_hubCnt hi
  refine ⟨fun free np => ?pairM, fun free np => ?spi, fun busy => ?held⟩
  case pairM =>
    refine ⟨_, counterRead_does .pairM hi up ic rfl free, ?_⟩
    rw [answer_pairM _ _ (.inl rfl) (by simp)]
    obtain ⟨tx, zero, keep⟩ := commitOrg_counter (s := delivered .ok (wordBytes (rd s (0x140 + 4 * i)))
      (pendRead .pairM [.count (0x140 + 4 * i) (rd s (0x140 + 4 * i)).toNat] s.alone)) hi (pendOf_pendRead _ np)
    exact ⟨tx, zero, keep⟩
  case spi =>
    exact ⟨_, counterRead_does .spi hi up ic rfl free, pendOf_pendRead _ np, fun _ _ => rfl⟩
  case held =>
    refine ⟨_, ?_, rfl⟩
    have e : serve .pairM ⟨.rd, 0x140 + 4 * i, 4, []⟩ s.alone =
        { s.alone with tx := { s.tx with held := s.tx.held ++ [(.pairM, ⟨.rd, 0x140 + 4 * i, 4, []⟩)] } } := by
      rw [serve_word .rd [] hk .pairM s.alone up ic rfl, regServe_word .rd [] hk, if_pos rfl, regRead_held hk s.alone busy]
      rfl
    rw [← e]
    exact coreCmd_up _ s up.1

end Sys2Proof.Proofs
end

section
/-! SUPPORT. Commands of a part in reset, and the block at rest: what settling does to a state in which nothing is left to carry on. -/
namespace Sys2Proof.Proofs
open Sys2Proof Sys2Proof.Machine Sys2Proof.Laws

/-! ## Parts held in reset -/

/-- What runs the effect `f` of a command that acts in this part of the block. -/
def cmdOf (p : Part) (f : State → State) (s : State) : Host.Outcome State Fault Refusal :=
  match p with
  | .core => coreCmd f s
  | .hub => hubCmd f s
  | .companion => compCmd f s
  | .always => done f s

/-- Each command is run by the part that `Instr.part` gives it. -/
theorem exec_part (c : Instr) (s : State) : ∃ f, exec c s = cmdOf c.part f s := by
  cases c <;> exact ⟨_, rfl⟩

theorem compCmd_held (f : State → State) (s : State) (h : s.hub.cprst = true) : compCmd f s = .next (carryOn s.alone s) := by
  simp [compCmd, done, run, State.alone, h]

/-- Settles O7: each part's gate drops the effect of a command while the part is held. -/
theorem partsInResetAreInert : Obligations.PartsInResetAreInert := by
  intro c s held
  obtain ⟨f, hf⟩ := exec_part c s
  unfold Does
  rw [hf]
  unfold State.holds at held
  cases hp : c.part <;> rw [hp] at held
  case core => exact coreCmd_held f s held
  case hub => exact hubCmd_held f s held
  case companion => exact compCmd_held f s held
  case always => exact held.elim

/-! ## Nothing left to carry on -/

theorem sinkProceed_rest (n : Nat) (s : State) (h : s.ring.sinks = []) : sinkProceed n s = s := by
  cases n <;> simp [sinkProceed, h]

theorem heldProceed_rest (s : State) (h : s.tx.held = []) : heldProceed s = s := by simp [heldProceed, h]

theorem spiPump_rest (n : Nat) (s : State) (h : s.tx.spi.writes = []) : spiPump n s = s := by
  cases n <;> simp [spiPump, h]

theorem lingerEnd_rest (s : State) (h : s.tx.linger = []) : lingerEnd s = s := by
  simp only [lingerEnd, h, List.filter_nil, setTx]
  rw [← h]

theorem shSettle_rest (l : Nat) (s : State) (h : (link l s).sh = 0) : shSettle l s = s := by simp [shSettle, h]

theorem nibRefill_rest (n : Nat) (s : State) (h : (nib n s).fifo = []) : nibRefill n s = s := by simp [nibRefill, h]

theorem qlRefill_rest (q : Nat) (s : State) (h : (qlEn q s && qlRxen q s) = false) : qlRefill q s = s := by simp [qlRefill, h]

theorem mem_putAsk (e x : Nat × Ask) (l : List (Nat × Ask)) : x ∈ putAsk e l ↔ x = e ∨ x ∈ l := by
  induction l with
  | nil => simp [putAsk]
  | cons y t ih =>
    by_cases h : e.1 < y.1
    · simp [putAsk, h]
    · simp [putAsk, h, ih, or_left_comm]

theorem mem_sortAsks (x : Nat × Ask) (l acc : List (Nat × Ask)) : x ∈ sortAsks l acc ↔ x ∈ l ∨ x ∈ acc := by
  induction l generalizing acc with
  | nil => simp [sortAsks]
  | cons e t ih => rw [sortAsks, ih, mem_putAsk, List.mem_cons, or_left_comm, or_assoc]

theorem serveAsks_rest (l : List (Nat × Ask)) (s : State) (h : ∀ e ∈ l, serveAsk e.2 s = s) : serveAsks l s = s := by
  induction l with
  | nil => rfl
  | cons e t ih =>
    rw [serveAsks, h e (by simp)]
    exact ih (fun x m => h x (by simp [m]))

/-- In a quiet state none that asks for cells has anything to move. -/
theorem serveAsk_quiet {s : State} (q : s.Quiet) : ∀ e ∈ asks s, serveAsk e.2 s = s := by
  intro e he
  simp only [asks, q.queues, List.map_nil, List.nil_append, mem_sortAsks, List.mem_append, List.mem_map, List.not_mem_nil,
    or_false] at he
  obtain ⟨n, mem, rfl⟩ | ⟨n, mem, rfl⟩ := he
  · exact nibRefill_rest n.1 s (q.nibs n mem)
  · exact qlRefill_rest n.1 s (q.quills n mem)

theorem inflightSettle_rest (s : State) (h : s.ink.inflight = waitingCells s) : inflightSettle s = s := by
  simp only [inflightSettle, ← h, Nat.add_sub_cancel]

theorem bridgeSettle_rest (s : State) (h : pbpRuns s = false) : bridgeSettle s = s := by simp [bridgeSettle, h]

theorem noticePinSettle_rest (s : State) (h : s.hub.noticePin = s.noticeDue) : noticePinSettle s = s := by
  have e : noticePinSettle s = setHub { s.hub with noticePin := s.noticeDue } s := rfl
  rw [e, ← h]
  rfl

/-- Settling a quiet state changes nothing. -/
theorem settle_quiet {s : State} (q : s.Quiet) : settle s = s := by
  have posts (n : Nat) : reactAll n s = s := reactAll_rest n s q.post
  have inbound (n : Nat) : inboundProceed n s = s := inboundProceed_rest n s q.inbound q.bridge
  simp only [settle, posts, sinkProceed_rest _ s q.sinks, absentAll_rest _ s q.tags, serveAsks_rest _ s (serveAsk_quiet q),
    heldProceed_rest s q.held, inbound, orderProceed_rest _ s q.order, spiPump_rest _ s q.spi,
    shSettle_rest 0 s (q.share 0 (by omega)), shSettle_rest 1 s (q.share 1 (by omega)), lingerEnd_rest s q.linger,
    inflightSettle_rest s q.inflight, bridgeSettle_rest s q.bridge, noticePinSettle_rest s q.notice]

/-- Settles O6: every part of settling leaves a quiet state as it is. -/
theorem quietIsAtRest : Obligations.QuietIsAtRest := by
  intro c s u does quiet
  rw [does, carryOn, settle_quiet quiet]

/-! ## Outputs that follow the state -/

/-- The registers of two states with one register table. -/
theorem rd_congr {s t : State} (regs : t.regs = s.regs) (k : Nat) : rd t k = rd s k := by rw [rd, rd, regs]

theorem cycleNow_congr {s t : State} (regs : t.regs = s.regs) (pbp : t.pbp = s.pbp) : cycleNow t = cycleNow s := by
  have act : pbpAct t = pbpAct s := by simp only [pbpAct, rb, rd_congr regs]
  rw [cycleNow, cycleNow, act, pbp]

/-- What the bridge drives is a function of the registers, of its own state and of the level that daisy-chain input BGIN_N
shows (R368). -/
theorem bridgeLevels_congr {s t : State} (regs : t.regs = s.regs) (pbp : t.pbp = s.pbp)
    (sense : (pin 463 t).f = (pin 463 s).f) (p : Nat) : bridgeLevels t p = bridgeLevels s p := by
  have side : sideOf p t = sideOf p s := by simp only [sideOf, rb, rf, rd_congr regs]
  have sideLevels (k : Nat) : sidePin k t = sidePin k s := by simp only [sidePin, rb, rd_congr regs]
  have own : pbpOwn t = pbpOwn s := by simp only [pbpOwn, rb, rd_congr regs]
  have drain : rb t (xbPin p) 0 = rb s (xbPin p) 0 := by simp only [rb, rd_congr regs]
  have bus (c) : bridgePin (pbpOwn s) c t p = bridgePin (pbpOwn s) c s p := by
    simp only [bridgePin, beMask, pbpVme, pbpArb, pbpHold, rb, rf, rd_congr regs, pbp, sense]
    rfl
  unfold bridgeLevels
  simp only [side, sideLevels, own, drain, bus, cycleNow_congr regs pbp]

/-- Pin `p` stands as the bridge drives it. -/
def AsDriven (s : State) (p : Nat) : Prop := ((pin p s).oe, (pin p s).out) = bridgeLevels s p

/-- Nothing that the outputs follow differs between `s` and `t`. -/
structure SameCause (s t : State) : Prop where
  regs   : t.regs = s.regs
  pbp    : t.pbp = s.pbp
  tx     : t.tx = s.tx
  ink    : t.ink = s.ink
  notice : t.hub.noticePin = s.hub.noticePin
  sense  : ∀ p, (pin p t).f = (pin p s).f

theorem SameCause.refl (s : State) : SameCause s s := ⟨rfl, rfl, rfl, rfl, rfl, fun _ => rfl⟩

theorem SameCause.trans {s t u : State} (a : SameCause s t) (b : SameCause t u) : SameCause s u :=
  ⟨b.regs.trans a.regs, b.pbp.trans a.pbp, b.tx.trans a.tx, b.ink.trans a.ink, b.notice.trans a.notice,
    fun p => (b.sense p).trans (a.sense p)⟩

theorem pin_setPin (p q : Nat) (v : PinSt) (s : State) : pin q (setPin p v s) = if q = p then v else pin q s := by
  by_cases h : q = p
  · subst h; rw [if_pos rfl]; exact tget_tset_same _ _ _ _
  · rw [if_neg h]; exact tget_tset_other _ _ _ h

theorem pin_drivePin_same (p : Nat) (oe out : Bool) (s : State) : pin p (drivePin p oe out s) = { pin p s with oe := oe, out := out } := by
  rw [drivePin, pin_setPin, if_pos rfl]

theorem pin_drivePin_other {p q : Nat} (oe out : Bool) (s : State) (h : q ≠ p) : pin q (drivePin p oe out s) = pin q s := by
  rw [drivePin, pin_setPin, if_neg h]

/-- Driving a pin does not change what any pin receives. -/
theorem sameCause_drivePin (p : Nat) (oe out : Bool) (s : State) : SameCause s (drivePin p oe out s) where
  regs := rfl
  pbp := rfl
  tx := rfl
  ink := rfl
  notice := rfl
  sense q := by
    by_cases h : q = p
    · subst h; rw [pin_drivePin_same]
    · rw [pin_drivePin_other _ _ _ h]

theorem SameCause.owner {s t : State} (c : SameCause s t) (p : Nat) : owner p t = owner p s := by
  simp only [Machine.owner, rf, rd_congr c.regs]

theorem SameCause.levels {s t : State} (c : SameCause s t) (p : Nat) : bridgeLevels t p = bridgeLevels s p :=
  bridgeLevels_congr c.regs c.pbp (c.sense 463) p

theorem SameCause.runs {s t : State} (c : SameCause s t) : pbpRuns t = pbpRuns s := by
  simp only [pbpRuns, dataPath, rb, rd_congr c.regs]

theorem SameCause.noticeDue {s t : State} (c : SameCause s t) : t.noticeDue = s.noticeDue := by
  simp only [State.noticeDue, rb, queue, rd_congr c.regs, c.ink]

theorem SameCause.waiting {s t : State} (c : SameCause s t) : waitingCells t = waitingCells s := by
  have own : ownNode t = ownNode s := by simp only [ownNode, rf, rd_congr c.regs]
  rw [waitingCells, waitingCells, own, c.tx]

/-- A pin that stands as the bridge drives it and is not touched still does. -/
theorem SameCause.asDriven {s t : State} (c : SameCause s t) {p : Nat} (kept : pin p t = pin p s) (h : AsDriven s p) : AsDriven t p := by
  rw [AsDriven, kept, c.levels]
  exact h

theorem asDriven_drivePin_same (p : Nat) (s : State) :
    AsDriven (drivePin p (bridgeLevels s p).1 (bridgeLevels s p).2 s) p := by
  rw [AsDriven, (sameCause_drivePin _ _ _ _).levels, pin_drivePin_same]

/-- Putting what the bridge drives on one more pin leaves every other at its level. -/
theorem asDriven_drivePin {s : State} {p : Nat} (q : Nat) (h : AsDriven s p) :
    AsDriven (drivePin q (bridgeLevels s q).1 (bridgeLevels s q).2 s) p := by
  by_cases e : p = q
  · subst e; exact asDriven_drivePin_same p s
  · exact (sameCause_drivePin _ _ _ _).asDriven (pin_drivePin_other _ _ _ e) h

theorem sameCause_bridgeDrive (l : List Nat) (s : State) : SameCause s (bridgeDrive l s) := by
  induction l generalizing s with
  | nil => exact .refl s
  | cons q t ih =>
    rw [bridgeDrive]
    split
    · exact ih s
    · exact (sameCause_drivePin _ _ _ _).trans (ih _)

theorem asDriven_bridgeDrive (l : List Nat) (s : State) (p : Nat) (h : AsDriven s p) : AsDriven (bridgeDrive l s) p := by
  induction l generalizing s with
  | nil => exact h
  | cons q t ih =>
    rw [bridgeDrive]
    split
    · exact ih s h
    · exact ih _ (asDriven_drivePin q h)

/-- Every pin of the list that the bridge owns comes to stand as the bridge drives it. -/
theorem bridgeDrive_drives (l : List Nat) (s : State) (p : Nat) (mem : p ∈ l) (own : owner p s = 4) : AsDriven (bridgeDrive l s) p := by
  induction l generalizing s with
  | nil => cases mem
  | cons q t ih =>
    rw [bridgeDrive]
    split
    case isTrue other =>
      obtain rfl | mem := List.mem_cons.mp mem
      · exact absurd own other
      · exact ih s mem own
    case isFalse =>
      obtain rfl | mem := List.mem_cons.mp mem
      · exact asDriven_bridgeDrive t _ p (asDriven_drivePin_same p s)
      · exact ih _ mem (((sameCause_drivePin _ _ _ _).owner p).trans own)

theorem sameCause_bridgeSettle (s : State) : SameCause s (bridgeSettle s) := by
  unfold bridgeSettle
  split
  · exact sameCause_bridgeDrive _ s
  · exact .refl s

theorem bridgeSettle_drives (s : State) (runs : pbpRuns s = true) (p : Nat) (lt : p < 512) (own : owner p s = 4) :
    AsDriven (bridgeSettle s) p := by
  rw [bridgeSettle, if_pos runs]
  exact bridgeDrive_drives _ s p (List.mem_range.mpr lt) own

/-- Counting the cells that wait leaves them as they are. -/
theorem inflightSettle_counts (s : State) : (inflightSettle s).ink.inflight = waitingCells (inflightSettle s) := rfl

/-- The last three parts of settling leave the outputs settled, whatever went before. -/
theorem settled_of_pins (s : State) : (noticePinSettle (bridgeSettle (inflightSettle s))).Settled where
  notice := rfl
  inflight := by
    have c := sameCause_bridgeSettle (inflightSettle s)
    calc (bridgeSettle (inflightSettle s)).ink.inflight = (inflightSettle s).ink.inflight := by rw [c.ink]
      _ = waitingCells (inflightSettle s) := inflightSettle_counts s
      _ = waitingCells (bridgeSettle (inflightSettle s)) := c.waiting.symm
  bridge runs p lt own := by
    have c := sameCause_bridgeSettle (inflightSettle s)
    exact bridgeSettle_drives _ (c.runs.symm.trans runs) p lt ((c.owner p).symm.trans own)

/-- The outputs do not follow the commands that wait. -/
theorem settled_pending {s : State} (q : List Instr) (h : s.Settled) : ({ s with pending := q } : State).Settled :=
  ⟨h.notice, h.inflight, h.bridge⟩

theorem settled_carryOn (u s : State) : (carryOn u s).Settled := settled_pending s.pending (settled_of_pins _)

/-! ## A nanosecond -/

/-- `t` differs from `s` in nothing that the outputs follow, nor in a pin of the bridge. -/
structure KeepsBridge (s t : State) : Prop where
  cause : SameCause s t
  pins  : ∀ p, owner p s = 4 → pin p t = pin p s

theorem KeepsBridge.refl (s : State) : KeepsBridge s s := ⟨.refl s, fun _ _ => rfl⟩

theorem KeepsBridge.trans {s t u : State} (a : KeepsBridge s t) (b : KeepsBridge t u) : KeepsBridge s u :=
  ⟨a.cause.trans b.cause, fun p h => (b.pins p ((a.cause.owner p).trans h)).trans (a.pins p h)⟩

theorem KeepsBridge.settled {s t : State} (k : KeepsBridge s t) (h : s.Settled) : t.Settled where
  notice := by rw [k.cause.notice, k.cause.noticeDue, h.notice]
  inflight := by rw [k.cause.ink, k.cause.waiting, h.inflight]
  bridge runs p lt own := by
    have own' := (k.cause.owner p).symm.trans own
    exact k.cause.asDriven (k.pins p own') (h.bridge (k.cause.runs.symm.trans runs) p lt own')

theorem keepsBridge_setNib (n : Nat) (v : NibSt) (s : State) : KeepsBridge s (setNib n v s) :=
  ⟨⟨rfl, rfl, rfl, rfl, rfl, fun _ => rfl⟩, fun _ _ => rfl⟩

theorem keepsBridge_setBase (n : Nat) (v : BaseSt) (s : State) : KeepsBridge s (setBase n v s) :=
  ⟨⟨rfl, rfl, rfl, rfl, rfl, fun _ => rfl⟩, fun _ _ => rfl⟩

theorem keepsBridge_now (n : Nat) (s : State) : KeepsBridge s (setHub { s.hub with now := n } s) :=
  ⟨⟨rfl, rfl, rfl, rfl, rfl, fun _ => rfl⟩, fun _ _ => rfl⟩

theorem keepsBridge_drivePin {p : Nat} (oe out : Bool) {s : State} (h : owner p s ≠ 4) : KeepsBridge s (drivePin p oe out s) :=
  ⟨sameCause_drivePin p oe out s, fun _ own => pin_drivePin_other oe out s (fun e => h (e ▸ own))⟩

/-- A nib that drives a slot whose pin is not the bridge's. -/
theorem keepsBridge_slotDrive (n k : Nat) (oe lvl : Bool) {s : State} (h : owner (slotPin n k s) s ≠ 4) :
    KeepsBridge s (slotDrive n k oe lvl s) := by
  unfold slotDrive
  split
  · exact keepsBridge_drivePin _ _ h
  · exact .refl s

/-- A PWM output falls on a pin of its nib (R195, R229). -/
theorem keepsBridge_pwmFall (n : Nat) (s : State) : KeepsBridge s (pwmFall n s) := by
  unfold pwmFall
  split
  · split
    · have fell := keepsBridge_setNib n { nib n s with fall := none } s
      dsimp only
      split
      case isTrue h =>
        simp only [Bool.and_eq_true, decide_eq_true_eq] at h
        exact fell.trans (keepsBridge_slotDrive n 2 true false (by rw [h.2]; omega))
      case isFalse => exact fell
    · exact .refl s
  · exact .refl s

theorem keepsBridge_pwmFalls (l : List (Nat × NibSt)) (s : State) : KeepsBridge s (pwmFalls l s) := by
  induction l generalizing s with
  | nil => exact .refl s
  | cons e t ih => exact (keepsBridge_pwmFall e.1 s).trans (ih _)

theorem keepsBridge_tickBases (l : List Nat) (s : State) : KeepsBridge s (tickBases l s) := by
  induction l generalizing s with
  | nil => exact .refl s
  | cons n t ih =>
    rw [tickBases]
    split
    · exact ih s
    · exact (keepsBridge_setBase n _ s).trans (ih _)

theorem keepsBridge_idleTick (s : State) : KeepsBridge s (idleTick s) := by
  have now := keepsBridge_now (s.hub.now + 1) s
  unfold idleTick
  dsimp only
  split
  · exact now
  · exact now.trans ((keepsBridge_tickBases _ _).trans (keepsBridge_pwmFalls _ _))

/-- Settles O5: a command ends with its outputs settled, whatever it did, and a nanosecond without one touches no pin of the bridge. -/
theorem stepsStaySettled : Obligations.StepsStaySettled := by
  intro s t settled took
  unfold step at took
  split at took
  case h_1 c rest front =>
    obtain ⟨u, does⟩ := exec_carriesOn c { s with pending := rest }
    rw [does] at took
    obtain rfl := Host.Outcome.next.inj took
    exact settled_carryOn u _
  case h_2 =>
    obtain rfl := Host.Outcome.next.inj took
    exact (keepsBridge_idleTick s).settled settled

end Sys2Proof.Proofs
end

section
/-! SUPPORT. The state after reset, and what a logic power-on reset keeps of the register file. -/
namespace Sys2Proof.Proofs
open Sys2Proof Sys2Proof.Machine Sys2Proof.Laws

/-! ## Resets -/

/-- Of a table that keeps the keys `p` alone, every other key holds what an unlisted key holds. -/
theorem tget_tkeep {α : Type} (d : Nat → α) (p : Nat → Bool) (t : Tbl α) (k : Nat) :
    tget d (tkeep p t) k = if p k then tget d t k else d k := by
  induction t with
  | nil => simp [tkeep, tget]
  | cons e t ih =>
    obtain ⟨j, v⟩ := e
    rw [tkeep] at ih
    by_cases pj : p j
    · by_cases e : j = k
      · subst e; simp [tkeep, tget, pj]
      · simp [tkeep, tget, pj, e, ih]
    · by_cases e : j = k
      · subst e; simp [tkeep, pj, ih]
      · simp [tkeep, tget, pj, e, ih]

/-- The registers that a logic power-on reset leaves alone: sensed levels, the slot states of MRAM, the standby domain (R32). -/
def survivesLpor (k : Nat) : Bool := isSensed k || k == bootSlots || k == pwrReg 0x020 || k == pwrReg 0x028

/-- Settles O27: `lporReset` is the state after reset with the fields named kept, and of the register file the keys `tkeep` keeps. -/
theorem powerOnResetClearsTheDie : Obligations.PowerOnResetClearsTheDie := by
  intro s
  refine ⟨lporReset s.alone, done_eq lporReset s, fun k => tget_tkeep resetOf survivesLpor s.regs k, ?_⟩
  exact ⟨rfl, rfl, rfl, rfl, rfl, rfl, rfl, rfl, rfl, rfl, rfl, rfl, rfl, rfl, rfl, rfl, rfl, rfl, rfl, rfl, rfl, rfl, rfl, rfl⟩

/-- No pin is the running bridge's after reset: HUB_CTL.RUN and PBP_CTL.EN are 0. -/
theorem reset_settled : State.reset.Settled := ⟨by decide, by decide, fun runs => absurd runs (by decide)⟩

theorem reset_canonical : State.reset.Canonical := ⟨by decide, rfl, rfl⟩

/-- Settles O1: the outputs of a state that holds nothing, its one register written, and the registers as their rows give them. -/
theorem resetStateAsTheTablesSay : Obligations.ResetStateAsTheTablesSay := ⟨reset_settled, reset_canonical, by decide⟩

end Sys2Proof.Proofs
end

section
/-! SUPPORT. What first-error latching writes (R500), and that what a raise does before and after it leaves the first error as it is. -/
namespace Sys2Proof.Proofs
open Sys2Proof Sys2Proof.Machine Sys2Proof.Laws

/-! ## What leaves the first error as it is -/

/-- The registers of the first error (R500). -/
def firstRegs : List Nat := [fltFirstSrc, fltFirstInfo, fltFirstTimeLo, fltFirstTimeHi, fltFirstCnt]

/-- The first error stands in `t` as in `s`: VALID, OVF, its registers; and so do the vectors sent and the time. -/
structure KeepsLatch (s t : State) : Prop where
  valid : rb t fltStatus 31 = rb s fltStatus 31
  ovf   : rb t fltStatus 30 = rb s fltStatus 30
  first : ∀ k ∈ firstRegs, rd t k = rd s k
  hub   : t.hub = s.hub
  time  : t.time = s.time

theorem KeepsLatch.refl (s : State) : KeepsLatch s s := ⟨rfl, rfl, fun _ _ => rfl, rfl, rfl⟩

theorem KeepsLatch.trans {s t u : State} (a : KeepsLatch s t) (b : KeepsLatch t u) : KeepsLatch s u :=
  ⟨b.valid.trans a.valid, b.ovf.trans a.ovf, fun k m => (b.first k m).trans (a.first k m), b.hub.trans a.hub, b.time.trans a.time⟩

/-- A step that is made only where `c` holds. -/
theorem KeepsLatch.ite {s t : State} (c : Prop) [Decidable c] (a : KeepsLatch s t) : KeepsLatch s (if c then t else s) := by
  split
  · exact a
  · exact .refl s

/-- A register other than FLT_STATUS and the first error's. -/
theorem keepsLatch_wr {k : Nat} (v : Word) (s : State) (n1 : k ≠ fltStatus) (n2 : k ∉ firstRegs) : KeepsLatch s (wr k v s) where
  valid := by rw [rb, rb, rd_wr_other v s n1.symm]
  ovf := by rw [rb, rb, rd_wr_other v s n1.symm]
  first j m := rd_wr_other v s (fun e => n2 (e ▸ m))
  hub := rfl
  time := rfl

theorem status_not_first : fltStatus ∉ firstRegs := by decide

/-- A field of FLT_STATUS below OVF. -/
theorem keepsLatch_status (hi lo v : Nat) (s : State) (lt : hi < 30) : KeepsLatch s (wf fltStatus hi lo v s) := by
  have above (i : Nat) (gt : hi < i) : rb (wf fltStatus hi lo v s) fltStatus i = rb s fltStatus i := by
    rw [rb, rb, wf, rd_wr_same, bit_getLsbD, bit_getLsbD, setFld_getLsbD _ _ _ _ _ (by omega), if_neg (by omega)]
  exact ⟨above 31 (by omega), above 30 lt, fun j m => rd_wf_other _ _ _ s (ne_of_mem_of_not_mem m status_not_first), rfl, rfl⟩

theorem keepsLatch_statusBit {i : Nat} (b : Bool) (s : State) (lt : i < 30) : KeepsLatch s (wb fltStatus i b s) :=
  keepsLatch_status i i _ s lt

theorem keepsLatch_post (l : List Post) (s : State) : KeepsLatch s { s with post := l } := ⟨rfl, rfl, fun _ _ => rfl, rfl, rfl⟩

/-- A blotter record writes registers of the blotter. -/
theorem keepsLatch_blot (typ source : Nat) (a b c : Word) (s : State) : KeepsLatch s (blot typ source a b c s) := by
  have reg (k : Nat) (m : k ∈ [bltStatus, bltRefused, bltMissed, bltWritten]) (v : Word) (t : State) : KeepsLatch t (wr k v t) :=
    keepsLatch_wr v t (by rintro rfl; revert m; decide) (by revert m k; decide)
  unfold blot
  split
  · exact .refl s
  split
  · exact reg bltMissed (by simp) _ s
  split
  · exact reg bltRefused (by simp) _ s
  · have recd : KeepsLatch s { s with flt := { s.flt with recs := s.flt.recs ++ [mkRec typ source a b c s] } } :=
      ⟨rfl, rfl, fun _ _ => rfl, rfl, rfl⟩
    exact (recd.trans ((reg bltStatus (by simp) _ _).trans (reg bltWritten (by simp) _ _))).trans
      (.ite _ ((reg bltStatus (by simp) _ _).trans (keepsLatch_post _ _)))

theorem keepsLatch_enterSafe (n : Nat) (info : Word) (s : State) : KeepsLatch s (enterSafe n info s) := by
  have safe : KeepsLatch s (wb hubStatus 4 true (wb fltStatus 28 true s)) :=
    (keepsLatch_statusBit true s (by omega)).trans (keepsLatch_wr _ _ (by decide) (by decide))
  exact safe.trans ((KeepsLatch.ite _ (keepsLatch_statusBit true _ (by omega))).trans
    ((keepsLatch_blot _ _ _ _ _ _).trans ((keepsLatch_post _ _).trans (keepsLatch_post _ _))))

/-! ## A raise, in three parts -/

/-- A raise has counted its source and set its FLT_ACTIVE bit (R495). -/
def counted (n : Nat) (s : State) : State := wb (fltActive (n / 32)) (n % 32) true (bump (fltCnt n) 1 s)

/-- The latching of a raise of severity `sev` (R500). -/
def afterLatch (n sev : Nat) (info : Word) (s : State) : State := if sev = 0 then s else latchFault n sev info s

theorem keepsLatch_counted {n : Nat} (lt : n < 256) (s : State) : KeepsLatch s (counted n s) := by
  have apart (k : Nat) (m : k ∈ fltStatus :: firstRegs) : fltCnt n ≠ k ∧ fltActive (n / 32) ≠ k :=
    raise_after n lt k (by revert m k; decide)
  have own (k : Nat) (h : ∀ j ∈ fltStatus :: firstRegs, k ≠ j) (v : Word) (t : State) : KeepsLatch t (wr k v t) :=
    keepsLatch_wr v t (h _ List.mem_cons_self) (fun m => h _ (List.mem_cons_of_mem _ m) rfl)
  exact (own _ (fun k m => (apart k m).1) _ s).trans (own _ (fun k m => (apart k m).2) _ _)

/-- What a raise does after latching leaves the first error as it is. -/
theorem raise_keepsLatch {n : Nat} (info : Word) {s : State} (up : s.hubUp) (h : fixedClass n ≠ none) :
    KeepsLatch (afterLatch n (severityOf n s) info (counted n s)) (raise n info s) := by
  obtain ⟨u1, u2⟩ := up
  obtain ⟨c, hc⟩ := Option.ne_none_iff_exists'.mp h
  have count : wb (fltActive (n / 32)) (n % 32) true (bump (fltCnt n) 1 s) = counted n s := rfl
  have latch (t : State) : (if severityOf n s = 0 then t else latchFault n (severityOf n s) info t) =
    afterLatch n (severityOf n s) info t := rfl
  unfold raise
  rw [if_neg (by simp [u1, u2]), hc]
  simp only [count, latch]
  have record := (keepsLatch_blot 0x01 n info)
  split
  · split
    · exact .ite _ (record _ _ _)
    · exact (KeepsLatch.ite _ (record _ _ _)).trans (keepsLatch_post _ _)
  split
  · exact (KeepsLatch.ite _ (record _ _ _)).trans (keepsLatch_post _ _)
  split
  · exact (KeepsLatch.ite _ (record _ _ _)).trans (keepsLatch_enterSafe _ _ _)
  · exact .ite _ (record _ _ _)

/-! ## Latching -/

/-- Latching has noted the raise in FLT_LAST_SRC and in WORST (R500). -/
def noted (n sev : Nat) (s : State) : State :=
  let s := wr fltLastSrc (w32 (sev * 256 + n)) s
  if rf s fltStatus 25 24 < sev then wf fltStatus 25 24 sev s else s

theorem keepsLatch_noted (n sev : Nat) (s : State) : KeepsLatch s (noted n sev s) :=
  (keepsLatch_wr _ s (by decide) (by decide)).trans (.ite _ (keepsLatch_status 25 24 sev _ (by omega)))

/-- A vector is sent, or becomes pending where it is masked (R48). -/
theorem sendVec_sends (v : Nat) (s : State) :
    if vecMasked v s then v ∈ (sendVec v s).hub.msixPend else v ∈ (sendVec v s).hub.msix := by
  unfold sendVec
  split
  · dsimp only
    split
    case isTrue h => simpa using h
    case isFalse => simp
  · simp

/-- The first error that a raise latches: VALID, source with severity, information, time, count, and vector 48 (R500). -/
structure Latched (n sev : Nat) (info : Word) (s t : State) : Prop where
  valid  : rb t fltStatus 31 = true
  src    : rd t fltFirstSrc = w32 (sev * 256 + n)
  info   : rd t fltFirstInfo = info
  timeLo : rd t fltFirstTimeLo = loW (tb0 s)
  timeHi : rd t fltFirstTimeHi = hiW (tb0 s)
  cnt    : rd t fltFirstCnt = 1#32
  vec    : if vecMasked 48 s then 48 ∈ t.hub.msixPend else 48 ∈ t.hub.msix

/-- A latched first error stands while nothing touches it. -/
theorem Latched.kept {n sev : Nat} {info : Word} {s t u : State} (l : Latched n sev info s t) (k : KeepsLatch t u) :
    Latched n sev info s u where
  valid := k.valid.trans l.valid
  src := (k.first _ (by decide)).trans l.src
  info := (k.first _ (by decide)).trans l.info
  timeLo := (k.first _ (by decide)).trans l.timeLo
  timeHi := (k.first _ (by decide)).trans l.timeHi
  cnt := (k.first _ (by decide)).trans l.cnt
  vec := by rw [k.hub]; exact l.vec

/-- What is latched does not depend on what the raise did before. -/
theorem Latched.since {n sev : Nat} {info : Word} {r s t : State} (l : Latched n sev info s t) (k : KeepsLatch r s) :
    Latched n sev info r t := by
  have time : tb0 s = tb0 r := by rw [tb0, tb0, k.time]
  have mask : vecMasked 48 s = vecMasked 48 r := by rw [vecMasked, vecMasked, k.hub]
  exact ⟨l.valid, l.src, l.info, time ▸ l.timeLo, time ▸ l.timeHi, l.cnt, mask ▸ l.vec⟩

/-- Latching has written VALID and the first error's registers (R500). -/
def firstWritten (n sev : Nat) (info : Word) (s : State) : State :=
  wr fltFirstCnt 1 (wr fltFirstTimeHi (hiW (tb0 s)) (wr fltFirstTimeLo (loW (tb0 s)) (wr fltFirstInfo info
    (wr fltFirstSrc (w32 (sev * 256 + n)) (wb fltStatus 31 true s)))))

/-- Latching with VALID = 0. -/
theorem latchFault_free (n sev : Nat) (info : Word) (s : State) (free : rb s fltStatus 31 = false) :
    latchFault n sev info s = notify 1 0x01 n info (sendVec 48 (firstWritten n sev info (noted n sev s))) := by
  have e : latchFault n sev info s = if rb (noted n sev s) fltStatus 31 then _ else _ := rfl
  rw [e, (keepsLatch_noted n sev s).valid.trans free, if_neg (by decide)]
  rfl

/-- Latching with VALID = 1 and another source latched. -/
theorem latchFault_other (n sev : Nat) (info : Word) (s : State) (valid : rb s fltStatus 31 = true)
    (other : rf s fltFirstSrc 7 0 ≠ n) : latchFault n sev info s = wb fltStatus 30 true (noted n sev s) := by
  have note := keepsLatch_noted n sev s
  have e : latchFault n sev info s = if rb (noted n sev s) fltStatus 31 then
    (if rf (noted n sev s) fltFirstSrc 7 0 = n then _ else _) else _ := rfl
  have src : rf (noted n sev s) fltFirstSrc 7 0 = rf s fltFirstSrc 7 0 := by rw [rf, rf, note.first _ (by decide)]
  rw [e, note.valid.trans valid, if_pos rfl, src, if_neg other]
  rfl

theorem rd_sendVec (v : Nat) (s : State) (k : Nat) : rd (sendVec v s) k = rd s k :=
  (onlyRaised_sendVec v s).2 k (by simp)

/-- A raise that finds VALID = 0 latches (R500). -/
theorem latchFault_latches (n sev : Nat) (info : Word) (s : State) (free : rb s fltStatus 31 = false) :
    Latched n sev info s (latchFault n sev info s) := by
  rw [latchFault_free n sev info s free]
  refine Latched.since ?_ (keepsLatch_noted n sev s)
  generalize noted n sev s = a
  have reads (k : Nat) : rd (notify 1 0x01 n info (sendVec 48 (firstWritten n sev info a))) k = rd (firstWritten n sev info a) k := by
    rw [rd_notify, rd_sendVec]
  refine ⟨?valid, ?src, ?info, ?lo, ?hi, ?cnt, sendVec_sends 48 (firstWritten n sev info a)⟩
  case valid =>
    have above : rd (firstWritten n sev info a) fltStatus = rd (wb fltStatus 31 true a) fltStatus := by
      simp (disch := decide) only [firstWritten, rd_wr_other]
    rw [rb, reads, above]
    exact rb_wb_same fltStatus 31 true a (by omega)
  all_goals
    rw [reads]
    simp (disch := decide) only [firstWritten, rd_wr_same, rd_wr_other]
  case cnt => rfl

theorem onlyRegs_counted (n : Nat) (s : State) : OnlyRegs [fltCnt n, fltActive (n / 32)] s (counted n s) :=
  onlyRegs_trans (onlyRegs_bump _ 1 s) (onlyRegs_wb _ _ true _)

/-- A raise handled as count-only is counted, and recorded where FLT_SEVn says so (R496). -/
theorem raise_countOnly {n : Nat} (info : Word) {s : State} (up : s.hubUp) (h : fixedClass n ≠ none) (sev : severityOf n s = 0) :
    raise n info s = if rb (counted n s) (fltSev n) 4 then blot 0x01 n info 0 (rd (counted n s) (fltCnt n)) (counted n s)
      else counted n s := by
  obtain ⟨u1, u2⟩ := up
  obtain ⟨c, hc⟩ := Option.ne_none_iff_exists'.mp h
  have count : wb (fltActive (n / 32)) (n % 32) true (bump (fltCnt n) 1 s) = counted n s := rfl
  unfold raise
  rw [if_neg (by simp [u1, u2]), hc]
  simp [count, sev, w32, b2n]

/-- Settles O53: the latch is written once, by `latchFault`, and what `raise` does before and after leaves it. -/
theorem firstFaultLatches : Obligations.FirstFaultLatches := by
  intro s p up
  have up' : s.alone.hubUp := up
  have known : fixedClass 11 ≠ none := by decide
  have info : w32 (p.val % 4) = w32 p := by rw [Nat.mod_eq_of_lt p.isLt]
  have does : Does (.pllLockLoss p) s (raise 11 (w32 p) s.alone) := info ▸ hubCmd_up (pllLoss p) s up
  have count := keepsLatch_counted (n := 11) (by decide) s.alone
  have latch := raise_keepsLatch (w32 p) up' known
  obtain ⟨cnt, act⟩ := raise_shows 11 (w32 p) s.alone up' known
  have only := onlyRaised_alone (onlyRaised_raise 11 (w32 p) s.alone)
  refine ⟨fun sev free => ?first, fun sev valid other => ?later, fun sev => ?countOnly⟩
  case first =>
    have sev' : severityOf 11 s.alone ≠ 0 := sev
    have l : Latched 11 (severityOf 11 s.alone) (w32 p) s.alone (raise 11 (w32 p) s.alone) := by
      rw [afterLatch, if_neg sev'] at latch
      exact ((latchFault_latches 11 _ (w32 p) _ (count.valid.trans free)).since count).kept latch
    exact ⟨_, does, ⟨act, cnt, only⟩, l.valid, l.src, l.info, l.timeLo, l.timeHi, l.cnt, l.vec⟩
  case later =>
    have src : rf (counted 11 s.alone) fltFirstSrc 7 0 = rf s fltFirstSrc 7 0 := by rw [rf, count.first _ (by decide)]; rfl
    have sev' : severityOf 11 s.alone ≠ 0 := sev
    rw [afterLatch, if_neg sev', latchFault_other 11 _ _ _ (count.valid.trans valid) (src ▸ other)] at latch
    refine ⟨_, does, ⟨act, cnt, only⟩, latch.ovf.trans (rb_wb_same _ _ _ _ (by omega)), fun k mem => ?_⟩
    rw [latch.first k mem, rd_wb_other _ _ _ (ne_of_mem_of_not_mem mem status_not_first), (keepsLatch_noted _ _ _).first k mem,
      count.first k mem]
    rfl
  case countOnly =>
    refine ⟨_, does, ⟨act, cnt, only⟩, ?_⟩
    have same : rd (counted 11 s.alone) fltStatus = rd s fltStatus := (onlyRegs_counted 11 s.alone).2 _ (by decide)
    rw [raise_countOnly (w32 p) up' known sev]
    split
    · rw [(onlyRaised_blot _ _ _ _ _ _).2 _ (by decide), same]
    · exact same

end Sys2Proof.Proofs
end

section
/-! SUPPORT. What answering a packet writes (R435, R438): the mailbox, its registers, the vector and the notice. -/
namespace Sys2Proof.Proofs
open Sys2Proof Sys2Proof.Machine Sys2Proof.Laws

/-! ## Replies -/

theorem box_setBox_same (m : Nat) (v : Mbox) (s : State) : box m (setBox m v s) = v := tget_tset_same _ _ _ _

/-- The status bits and the event bit of a reply are written (R435). -/
def kcFlagged (m : Nat) (s : State) : State := wb (kcStat m) 29 true (wb (kcStat m) 30 false (wb (kcReg m 0x0C) 0 true s))

/-- The registers of one page are apart. -/
theorem kcReg_inj {m i j : Nat} (h : i ≠ j) : kcReg m i ≠ kcReg m j := by
  simp only [kcReg]
  omega

theorem kcFlagged_bits (m : Nat) (s : State) :
    rb (kcFlagged m s) (kcStat m) 30 = false ∧ rb (kcFlagged m s) (kcStat m) 29 = true ∧ rb (kcFlagged m s) (kcReg m 0x0C) 0 = true := by
  have apart : kcReg m 0x0C ≠ kcStat m := kcReg_inj (by omega)
  refine ⟨?pend, rb_wb_same _ _ _ _ (by omega), ?reply⟩
  case pend =>
    rw [kcFlagged, rb_wb_other _ _ _ _ _ (by omega) (by omega)]
    exact rb_wb_same _ _ _ _ (by omega)
  case reply =>
    rw [kcFlagged, rb, rd_wb_other _ _ _ apart, rd_wb_other _ _ _ apart]
    exact rb_wb_same _ _ _ _ (by omega)

theorem kcFlagged_onlyRegs (m : Nat) (s : State) : OnlyRegs [kcStat m, kcReg m 0x0C] s (kcFlagged m s) :=
  onlyRegs_mono (onlyRegs_trans (onlyRegs_wb (kcReg m 0x0C) 0 true s)
    (onlyRegs_trans (onlyRegs_wb (kcStat m) 30 false _) (onlyRegs_wb (kcStat m) 29 true _))) (by simp)

theorem kcSignal_eq (m st : Nat) (raw : List Byte) (s : State) :
    kcSignal m st raw s = if bit (pkW raw 2) 1 then sessionNotice m 0x02 (w32 (pkTag raw * 65536 + st)) (sendVec (16 + m) (kcFlagged m s))
      else sendVec (16 + m) (kcFlagged m s) := rfl

/-- What the sending of vector `v` does to the vectors sent and those pending (R48). -/
def VecTold (v : Nat) (s t : State) : Prop :=
  (vecMasked v s = false → t.hub.msix = s.hub.msix ++ [v]) ∧
  (vecMasked v s = true → t.hub.msix = s.hub.msix ∧ v ∈ t.hub.msixPend)

theorem sendVec_told (v : Nat) (s : State) : VecTold v s (sendVec v s) := by
  constructor <;> intro h
  · simp [sendVec, h]
  · refine ⟨by simp [sendVec, h], ?_⟩
    by_cases mem : v ∈ s.hub.msixPend <;> simp [sendVec, h, mem]

/-- What a signalled reply leaves and orders (R435). -/
structure Signalled (m st : Nat) (raw : List Byte) (s t : State) : Prop where
  kc    : t.kc = s.kc
  bits  : rb t (kcStat m) 30 = false ∧ rb t (kcStat m) 29 = true ∧ rb t (kcReg m 0x0C) 0 = true
  vec   : VecTold (16 + m) s t
  post  : t.post = if bit (pkW raw 2) 1 then s.post ++ [.session m 0x02 (w32 (pkTag raw * 65536 + st)) (tb0 s)] else s.post
  keep  : RegsKeep [kcStat m, kcReg m 0x0C] s t

theorem kcSignal_signalled (m st : Nat) (raw : List Byte) (s : State) : Signalled m st raw s (kcSignal m st raw s) := by
  have sent (k : Nat) : rd (sendVec (16 + m) (kcFlagged m s)) k = rd (kcFlagged m s) k := (onlyRaised_sendVec _ _).2 k (by simp)
  have vec : VecTold (16 + m) s (sendVec (16 + m) (kcFlagged m s)) := sendVec_told (16 + m) (kcFlagged m s)
  have kc : (sendVec (16 + m) (kcFlagged m s)).kc = s.kc := by unfold sendVec; split <;> rfl
  have post : (sendVec (16 + m) (kcFlagged m s)).post = s.post := by unfold sendVec; split <;> rfl
  have time : tb0 (sendVec (16 + m) (kcFlagged m s)) = tb0 s := by unfold sendVec; split <;> rfl
  have bits : rb (sendVec (16 + m) (kcFlagged m s)) = rb (kcFlagged m s) := by funext k i; rw [rb, rb, sent]
  have flags := bits ▸ kcFlagged_bits m s
  have keep : RegsKeep [kcStat m, kcReg m 0x0C] s (sendVec (16 + m) (kcFlagged m s)) :=
    fun k h => (sent k).trans ((kcFlagged_onlyRegs m s).2 k h)
  rw [kcSignal_eq]
  split
  case isTrue note => exact ⟨kc, flags, vec, by rw [if_pos note, sessionNotice, post, time], keep⟩
  case isFalse note => exact ⟨kc, flags, vec, by rw [if_neg note, post], keep⟩

/-- What an OK answer to the packet `raw` leaves: the reply, no packet, the signal, and one more packet counted (R435, R438). -/
structure Answered (m : Nat) (raw : List Byte) (result : List Word) (s t : State) : Prop where
  rpl   : (box m t).rpl = replyBytes (replyVer m raw s).1 (replyVer m raw s).2 0 (pkTag raw) m 0 0 result
  pkt   : (box m t).pkt = none
  bits  : rb t (kcStat m) 30 = false ∧ rb t (kcStat m) 29 = true ∧ rb t (kcReg m 0x0C) 0 = true
  vec   : VecTold (16 + m) s t
  post  : t.post = if bit (pkW raw 2) 1 then s.post ++ [.session m 0x02 (w32 (pkTag raw * 65536)) (tb0 s)] else s.post
  keep  : RegsKeep [kcStat m, kcReg m 0x0C, kcReg m 0x20] s t

/-- The hardware's note of the reply's kind, and the count of packets. -/
def kcCounted (m : Nat) (s : State) : State := bump (kcReg m 0x20) 1 (wb (kcStat m) 28 false s)

theorem kcCounted_onlyRegs (m : Nat) (s : State) : OnlyRegs [kcStat m, kcReg m 0x20] s (kcCounted m s) :=
  onlyRegs_trans (onlyRegs_wb (kcStat m) 28 false s) (onlyRegs_bump (kcReg m 0x20) 1 _)

/-- The signal of a reply that stands in the mailbox, in a state that is `s` but for its boxes and these registers. -/
theorem kcSignal_answered {m : Nat} {raw : List Byte} {result : List Word} {s c : State} (hub : c.hub = s.hub) (post : c.post = s.post)
    (time : c.time = s.time) (keep : RegsKeep [kcStat m, kcReg m 0x20] s c) (pkt : (box m c).pkt = none)
    (rpl : (box m c).rpl = replyBytes (replyVer m raw s).1 (replyVer m raw s).2 0 (pkTag raw) m 0 0 result) :
    Answered m raw result s (kcSignal m 0 raw c) := by
  have sig := kcSignal_signalled m 0 raw c
  have held : box m (kcSignal m 0 raw c) = box m c := by rw [box, box, sig.kc]
  have told : VecTold (16 + m) s (kcSignal m 0 raw c) := by
    have v := sig.vec
    rwa [VecTold, vecMasked, hub] at v
  have ordered := sig.post
  rw [Nat.add_zero, post, tb0, time] at ordered
  refine ⟨held ▸ rpl, held ▸ pkt, sig.bits, told, ordered, fun k h => ?_⟩
  simp only [List.mem_cons, List.not_mem_nil, or_false, not_or] at h
  obtain ⟨h1, h2, h3⟩ := h
  rw [sig.keep k (by simp [h1, h2]), keep k (by simp [h1, h3])]

/-- The reply stands in the mailbox, and no packet. -/
def kcPut (m : Nat) (reply : List Byte) (s : State) : State := setBox m { box m s with rpl := reply, pkt := none } s

theorem box_kcPut (m : Nat) (reply : List Byte) (s : State) : box m (kcPut m reply s) = { box m s with rpl := reply, pkt := none } :=
  box_setBox_same m _ s

theorem box_kcCounted (m : Nat) (s : State) : box m (kcCounted m s) = box m s := by simp [box, kcCounted]

theorem kcPut_counted (m : Nat) (reply : List Byte) (s : State) : (kcCounted m (kcPut m reply s)).hub = s.hub ∧
    (kcCounted m (kcPut m reply s)).post = s.post ∧ (kcCounted m (kcPut m reply s)).time = s.time := by
  simp [kcCounted, kcPut, setBox]

/-- A reply written into a mailbox of a state that is `s` but for its boxes. -/
theorem kcWrite_answered {m : Nat} {raw : List Byte} {result : List Word} {s : State} (v : KcSt) :
    Answered m raw result s
      (kcWrite m false 0 (replyBytes (replyVer m raw s).1 (replyVer m raw s).2 0 (pkTag raw) m 0 0 result) raw (setKc v s)) := by
  generalize e : replyBytes (replyVer m raw s).1 (replyVer m raw s).2 0 (pkTag raw) m 0 0 result = reply
  have w : kcWrite m false 0 reply raw (setKc v s) = kcSignal m 0 raw (kcCounted m (kcPut m reply (setKc v s))) := rfl
  have box : box m (kcCounted m (kcPut m reply (setKc v s))) = { box m (setKc v s) with rpl := reply, pkt := none } :=
    (box_kcCounted m _).trans (box_kcPut m reply _)
  have keep : RegsKeep [kcStat m, kcReg m 0x20] s (kcCounted m (kcPut m reply (setKc v s))) :=
    (kcCounted_onlyRegs m (kcPut m reply (setKc v s))).2
  rw [w]
  obtain ⟨hub, post, time⟩ := kcPut_counted m reply (setKc v s)
  exact kcSignal_answered hub post time keep (congrArg Mbox.pkt box) ((congrArg Mbox.rpl box).trans e.symm)

theorem kcOk_answered {m : Nat} {raw : List Byte} {s : State} (result : List Word) (pkt : (box m s).pkt = some raw) :
    Answered m raw result s (kcOk m result s) := by
  have e : kcOk m result s = kcWrite m false 0 (replyBytes (replyVer m raw s).1 (replyVer m raw s).2 0 (pkTag raw) m 0 0 result) raw
      (if kcOpen m s && tookEffect 0 0 then setBox m { box m s with copy := some raw } s else s) := by
    rw [kcOk, kcReply, pkt]
  rw [e]
  split
  · exact kcWrite_answered _
  · exact kcWrite_answered s.kc

/-- Settles O51: a packet that is rung and served is answered by `kcOk`, and the turn it takes touches no mailbox. -/
theorem repliesAreSignalled : Obligations.RepliesAreSignalled := by
  intro s m raw up rung
  have does : Does (.getCaps m) s (kcCaps m (kcTaken m s.alone)) := kcCmd_rung m 0x0004 (fun _ => kcCaps m) s raw up rung
  have caps : kcCaps m (kcTaken m s.alone) =
    kcOk m (capsWords (inRom s) (rf s (kcStat m) 23 20) (rf s (kcStat m) 19 16)) (kcTaken m s.alone) := rfl
  rw [caps] at does
  generalize capsWords (inRom s) (rf s (kcStat m) 23 20) (rf s (kcStat m) 19 16) = result at does ⊢
  have a := kcOk_answered (s := kcTaken m s.alone) result rung.1
  obtain ⟨pend, rdy, evt⟩ := a.bits
  refine ⟨_, does, a.rpl, a.pkt, pend, rdy, evt, a.vec.1, a.vec.2, fun note => ?_, fun note => ?_, a.keep⟩
  · rw [a.post, if_pos note]
    exact List.mem_append_right _ (List.mem_singleton.mpr rfl)
  · exact a.post.trans (if_neg (by simp [note]))

end Sys2Proof.Proofs
end

section
/-! SUPPORT. What role and lease commands leave alone: the answers they send, and the time master's step down. -/
namespace Sys2Proof.Proofs
open Sys2Proof Sys2Proof.Machine Sys2Proof.Laws

/-! ## The pages below 0x2000 -/

/-- The registers of the hub, its roles and its fault collector, below 0x2000, and the resets are in `t` as in `s`. -/
structure KeepsLow (s t : State) : Prop where
  lpor : t.hub.lporHeld = s.hub.lporHeld
  rst  : t.hub.rstHeld = s.hub.rstHeld
  regs : ∀ k, k < 0x2000 → rd t k = rd s k

theorem KeepsLow.refl (s : State) : KeepsLow s s := ⟨rfl, rfl, fun _ _ => rfl⟩

theorem KeepsLow.trans {s t u : State} (a : KeepsLow s t) (b : KeepsLow t u) : KeepsLow s u :=
  ⟨b.lpor.trans a.lpor, b.rst.trans a.rst, fun k h => (b.regs k h).trans (a.regs k h)⟩

/-- A step that is made only where `c` holds. -/
theorem KeepsLow.ite {s t : State} (c : Prop) [Decidable c] (a : KeepsLow s t) : KeepsLow s (if c then t else s) := by
  split
  · exact a
  · exact .refl s

theorem KeepsLow.hubUp {s t : State} (a : KeepsLow s t) (up : s.hubUp) : t.hubUp := ⟨a.lpor.trans up.1, a.rst.trans up.2⟩

/-- A frame whose registers lie higher. -/
theorem keepsLow_of_onlyRaised {ks : List Nat} {s t : State} (h : OnlyRaised ks s t) (high : ∀ k ∈ ks, 0x2000 ≤ k) : KeepsLow s t := by
  have lpor := congrArg (fun u : State => u.hub.lporHeld) h.1
  have rst := congrArg (fun u : State => u.hub.rstHeld) h.1
  exact ⟨lpor, rst, fun k lt => h.2 k (fun m => by have := high k m; omega)⟩

theorem keepsLow_wr {k : Nat} (v : Word) (s : State) (h : 0x2000 ≤ k) : KeepsLow s (wr k v s) :=
  keepsLow_of_onlyRaised (onlyRaised_of_onlyRegs (onlyRegs_wr k v s)) (by simpa using h)

/-- A change of what is no register and no reset. -/
theorem keepsLow_of_regs {s t : State} (hub : t.hub = s.hub) (regs : t.regs = s.regs) : KeepsLow s t :=
  ⟨by rw [hub], by rw [hub], fun k _ => by rw [rd, rd, regs]⟩

theorem keepsLow_notify (g ev unit : Nat) (info : Word) (s : State) : KeepsLow s (notify g ev unit info s) := keepsLow_of_regs rfl rfl
theorem keepsLow_setRoles (v : RolesSt) (s : State) : KeepsLow s (setRoles v s) := keepsLow_of_regs rfl rfl
theorem keepsLow_setTime (v : TimeSt) (s : State) : KeepsLow s (setTime v s) := keepsLow_of_regs rfl rfl
theorem keepsLow_setBox (m : Nat) (v : Mbox) (s : State) : KeepsLow s (setBox m v s) := keepsLow_of_regs rfl rfl

/-! ## Answers to a lease request -/

/-- A reply writes its mailbox, whose page lies higher (R430). -/
theorem keepsLow_kcReply (m st reason : Nat) (job : Word) (result : List Word) (s : State) :
    KeepsLow s (kcReply m st reason job result s) := by
  have page (o : Nat) : 0x2000 ≤ kcReg m o := by simp only [kcReg]; omega
  have flags (t : State) : KeepsLow t (wb (kcStat m) 29 true (wb (kcStat m) 30 false (wb (kcReg m 0x0C) 0 true t))) :=
    (keepsLow_wr _ t (page _)).trans ((keepsLow_wr _ _ (page _)).trans (keepsLow_wr _ _ (page _)))
  have signal (raw : List Byte) (t : State) : KeepsLow t (kcSignal m st raw t) :=
    (flags t).trans ((keepsLow_of_onlyRaised (onlyRaised_sendVec (16 + m) _) (by simp)).trans (.ite _ (keepsLow_of_regs rfl rfl)))
  have write (reply raw : List Byte) (t : State) : KeepsLow t (kcWrite m false st reply raw t) :=
    (keepsLow_setBox m _ t).trans ((keepsLow_wr _ _ (page _)).trans ((keepsLow_wr _ _ (page _)).trans (signal raw _)))
  unfold kcReply
  split
  · exact .refl s
  · exact (KeepsLow.ite _ (keepsLow_setBox m _ s)).trans (write _ _ _)

theorem keepsLow_queueCopy (f : Frame) (s : State) : KeepsLow s (queueCopy f s) := by
  unfold queueCopy
  refine KeepsLow.trans ?_ (keepsLow_wr _ _ (by simp only [ringReg]; omega))
  exact keepsLow_of_regs rfl rfl

/-- Sending a frame writes registers of the ring (R97). -/
theorem keepsLow_originate (f : Frame) (s : State) : KeepsLow s (originate f s).2 := by
  have seq := keepsLow_wr (k := ringSeq) (w32 ((rf s ringSeq 15 0 + 1) % 65536)) s (by decide)
  unfold originate
  dsimp only
  split
  · exact .refl s
  split
  · split
    · exact keepsLow_queueCopy _ s
    · exact .refl s
  · refine seq.trans ?_
    generalize wr ringSeq _ s = a
    have east := keepsLow_queueCopy { f with src := ownNode a, seq := rf s ringSeq 15 0, hop := 0, ring := false } a
    by_cases up : laneUp 1 a
    · simp only [if_pos up]
      split
      · exact east.trans (keepsLow_queueCopy _ _)
      · exact east
    · simp only [if_neg up]
      split
      · exact keepsLow_queueCopy _ a
      · exact .refl a

theorem keepsLow_takeCtr (k : Nat) (s : State) : KeepsLow s (takeCtr k s).2 := by
  have wrote : KeepsLow s (nvWrote (setKeySlot k { keySlot k s with ctrNv := (keySlot k s).ctr } s)) := keepsLow_of_regs rfl rfl
  exact (KeepsLow.ite _ wrote).trans (keepsLow_of_regs rfl rfl)

theorem keepsLow_sendAuth (f : Frame) (s : State) : KeepsLow s (sendAuth f s).2 := by
  unfold sendAuth
  split
  · exact .refl s
  · split
    · exact .refl s
    · exact (keepsLow_takeCtr 0 s).trans (keepsLow_originate _ _)

/-- An answer goes to another hub, or ends the command that waits here (R481). -/
theorem keepsLow_leaseAnswer (src op tag : Nat) (body : List Byte) (s : State) : KeepsLow s (leaseAnswer src op tag body s) := by
  have drop (m : Nat) : KeepsLow s (dropWait m s) := keepsLow_setRoles _ s
  unfold leaseAnswer
  dsimp only
  split
  · split
    · unfold leaseGranted
      split
      · exact .refl s
      · dsimp only
        split
        · exact ((drop _).trans (keepsLow_setRoles _ _)).trans (keepsLow_kcReply _ _ _ _ _ _)
        · exact ((drop _).trans (keepsLow_setRoles _ _)).trans (keepsLow_kcReply _ _ _ _ _ _)
    · unfold leaseRefused
      split
      · exact .refl s
      · dsimp only
        split
        · exact (drop _).trans (keepsLow_kcReply _ _ _ _ _ _)
        · exact (drop _).trans (keepsLow_kcReply _ _ _ _ _ _)
  · exact keepsLow_sendAuth _ s

theorem keepsLow_refuseLocks (l : List LockWait) (s : State) : KeepsLow s (refuseLocks l s) := by
  induction l generalizing s with
  | nil => exact .refl s
  | cons k t ih =>
    have dropped : KeepsLow s (dropLease k.ent.res s) := keepsLow_setRoles _ s
    exact (dropped.trans (keepsLow_leaseAnswer _ _ _ _ _)).trans (ih _)

/-! ## The time master steps down -/

theorem keepsLow_tbEvent (i : Nat) (s : State) : KeepsLow s (tbEvent i s) := by
  have set := keepsLow_wr (k := tbEvt) (setBit (rd s tbEvt) i true) s (by decide)
  unfold tbEvent
  split
  · exact .refl s
  · exact set.trans (.ite _ (keepsLow_notify _ _ _ _ _))

/-- A state of the discipline that raises no fault (R414). -/
theorem keepsLow_tbEnter {st : Nat} (n4 : st ≠ 4) (n5 : st ≠ 5) (s : State) : KeepsLow s (tbEnter st s) := by
  have status (v : Word) (t : State) : KeepsLow t (wr tbStatus v t) := keepsLow_wr v t (by decide)
  have unlock (t : State) : KeepsLow t (stkUnlock t) :=
    .ite _ ((keepsLow_wr (k := stkEvt) _ t (by decide)).trans (keepsLow_notify _ _ _ _ _))
  unfold tbEnter
  dsimp only
  by_cases old : tbState s = st
  · rw [if_pos old]
    exact .refl s
  rw [if_neg old]
  simp only [if_neg n4, if_neg n5]
  have entered : KeepsLow s (wb tbStatus 8 false (wb tbStatus 3 (st == 5) (wf tbStatus 2 0 st s))) :=
    (status _ s).trans ((status _ _).trans (status _ _))
  refine KeepsLow.trans ?_ (.ite _ (unlock _))
  refine KeepsLow.trans ?_ (.ite _ (keepsLow_tbEvent 0 _))
  refine KeepsLow.trans ?_ (.ite _ (keepsLow_tbEvent 1 _))
  exact (entered.trans (keepsLow_setTime _ _)).trans (.ite _ (keepsLow_setTime _ _))

theorem keepsLow_dropMaster (s : State) : KeepsLow s (dropMaster s) := by
  refine .ite _ ((keepsLow_setTime _ s).trans (keepsLow_tbEnter ?_ ?_ _))
  all_goals split <;> decide

/-! ## What a role's change of state writes -/

theorem roleState_ne_roleEvt {r : Nat} (lt : r < 2) : roleState r ≠ roleEvtR := by simp only [roleState, roleEvtR]; omega

/-- An event other than the one whose notice no mask holds back (R490). -/
theorem roleEvt_masked {i : Nat} (h : i ≠ 3) (unit : Nat) (info : Word) (s : State) :
    roleEvt i unit info s = unitEvent roleEvtR roleNmask i 21 unit info s := by simp [roleEvt, h]

theorem onlyRaised_setOwn (r st : Nat) (s : State) : OnlyRaised [roleState r, roleEvtR] s (setOwn r st s) := by
  unfold setOwn
  split
  · exact ⟨rfl, fun _ _ => rfl⟩
  · rw [roleEvt_masked (by decide)]
    exact onlyRaised_trans (onlyRaised_of_onlyRegs (onlyRegs_wf (roleState r) 3 0 st s)) (onlyRaised_unitEvent _ _ _ _ _ _ _)

/-- A role's state reads what was set (R466). -/
theorem roleOwn_setOwn {r st : Nat} (s : State) (lt : r < 2) (h : st < 16) : roleOwn r (setOwn r st s) = st := by
  unfold setOwn
  split
  · assumption
  · have keep := (onlyRaised_unitEvent roleEvtR roleNmask 1 21 r (rd (wf (roleState r) 3 0 st s) (roleState r))
      (wf (roleState r) 3 0 st s)).2 (roleState r) (by simpa using roleState_ne_roleEvt lt)
    rw [roleEvt_masked (by decide), roleOwn, rf, keep]
    exact (rf_wf_same _ _ _ _ _ (by decide)).trans (Nat.mod_eq_of_lt h)

/-! ## Authority lapses, and comes to an end -/

/-- What a holder gives up when its authority lapses: the discipline, or the locks it has not granted (R467). -/
def givenUp (r : Nat) (s : State) : State :=
  if r = 1 then dropMaster s else refuseLocks s.roles.locks (setRoles { s.roles with locks := [] } s)

theorem keepsLow_givenUp (r : Nat) (s : State) : KeepsLow s (givenUp r s) := by
  unfold givenUp
  split
  · exact keepsLow_dropMaster s
  · exact (keepsLow_setRoles _ s).trans (keepsLow_refuseLocks _ _)

theorem authExpire_due {r : Nat} {s : State} (own : roleOwn r s = 4) (run : pairM s = true) (late : authOver r s = true) :
    authExpire r s = raise 243 (w32 r) (setOwn r 5 (givenUp r s)) := by
  rw [authExpire, if_neg (by simp [own, run, late])]
  rfl

theorem authExpire_idle {r : Nat} {s : State} (h : roleOwn r s ≠ 4 ∨ pairM s = false ∨ authOver r s = false) : authExpire r s = s := by
  rw [authExpire, if_pos (by simpa [or_assoc] using h)]

/-- An active holder whose authority lapses is LAPSED, and FS243 is counted (R467). -/
theorem authExpire_lapses {r : Nat} {s : State} (lt : r < 2) (up : s.hubUp) (own : roleOwn r s = 4) (run : pairM s = true)
    (late : authOver r s = true) :
    roleOwn r (authExpire r s) = 5 ∧ rd (authExpire r s) (fltCnt 243) = satAdd (rd s (fltCnt 243)) 1 := by
  have apart : ∀ r < 2, roleState r ∉ faultRegs 243 := by decide
  have gave := keepsLow_givenUp r s
  have set := onlyRaised_setOwn r 5 (givenUp r s)
  have low : fltCnt 243 ∉ [roleState r, roleEvtR] := by simp only [roleState, roleEvtR, fltCnt, List.mem_cons]; simp; omega
  have up' : (setOwn r 5 (givenUp r s)).hubUp :=
    ⟨(congrArg (fun u : State => u.hub.lporHeld) set.1).trans (gave.hubUp up).1,
      (congrArg (fun u : State => u.hub.rstHeld) set.1).trans (gave.hubUp up).2⟩
  rw [authExpire_due own run late]
  refine ⟨?own, ?count⟩
  case own =>
    rw [roleOwn, rf, (onlyRaised_raise 243 (w32 r) _).2 _ (apart r lt)]
    exact roleOwn_setOwn (givenUp r s) lt (by decide)
  case count =>
    rw [(raise_shows 243 (w32 r) _ up' (by decide)).1, set.2 _ low, gave.regs _ (by decide)]

theorem lapsedEnd_idle {r : Nat} {s : State} (h : roleOwn r s ≠ 5 ∨ pairM s = false) : lapsedEnd r s = s := by
  rw [lapsedEnd, if_neg]
  simp only [Bool.and_eq_true, decide_eq_true_eq]
  rintro ⟨own, run⟩
  simp [own, run] at h

theorem lapsedEnd_due {r : Nat} {s : State} (own : roleOwn r s = 5) (run : pairM s = true) :
    lapsedEnd r s = setOwn r (restState r s) s := by simp [lapsedEnd, own, run]

/-! ## A lease ends -/

theorem leaseOf_dropLease (res x : Word) (s : State) : leaseOf x (dropLease res s) = if x = res then none else leaseOf x s := by
  have leases : (dropLease res s).roles.leases = s.roles.leases.filter (fun l => l.res ≠ res) := rfl
  rw [leaseOf, leaseOf, leases, List.find?_filter]
  split
  case isTrue e =>
    subst e
    simp
  case isFalse n =>
    congr 1
    funext l
    by_cases e : l.res = x <;> simp [e, n]

theorem leaseEnd_some {res : Word} {s : State} (h : leaseOf res s ≠ none) :
    leaseEnd res s = unitEvent roleEvtR roleNmask 2 21 2 res (bump 0x83C 1 (dropLease res s)) := by
  obtain ⟨l, hl⟩ := Option.ne_none_iff_exists'.mp h
  rw [leaseEnd, hl]
  exact roleEvt_masked (by decide) _ _ _

theorem leaseExpire_idle {res : Word} {s : State} (h : leaseOf res s = none ∨ pairM s = false) : leaseExpire res s = s := by
  rw [leaseExpire]
  obtain none | stopped := h
  · rw [leaseEnd, none]
    split <;> rfl
  · rw [stopped]
    rfl

/-- A lease that has run out is no longer in the table, counted and noted (R480, R481). -/
theorem leaseEnd_ends {res : Word} {s : State} (h : leaseOf res s ≠ none) :
    leaseOf res (leaseEnd res s) = none ∧ (∀ x, x ≠ res → leaseOf x (leaseEnd res s) = leaseOf x s) ∧
      rd (leaseEnd res s) 0x83C = satAdd (rd s 0x83C) 1 ∧ rb (leaseEnd res s) roleEvtR 2 = true ∧
      RegsKeep [0x83C, roleEvtR] s (leaseEnd res s) := by
  rw [leaseEnd_some h]
  generalize e : bump 0x83C 1 (dropLease res s) = a
  have evt := onlyRaised_unitEvent roleEvtR roleNmask 2 21 2 res a
  generalize eb : unitEvent roleEvtR roleNmask 2 21 2 res a = b at evt ⊢
  have lease (x : Word) : leaseOf x b = if x = res then none else leaseOf x s := by
    have roles : b.roles = (dropLease res s).roles := (congrArg State.roles evt.1).trans (by rw [← e]; rfl)
    rw [← leaseOf_dropLease, leaseOf, leaseOf, roles]
  refine ⟨(lease res).trans (if_pos rfl), fun x ne => (lease x).trans (if_neg ne), ?count, ?bit, ?keep⟩
  case count =>
    rw [evt.2 _ (by decide), ← e]
    exact rd_bump_same _ _ _
  case bit =>
    rw [← eb]
    exact unitEvent_bit _ _ _ _ _ _ _ (by decide)
  case keep =>
    intro k hk
    simp only [List.mem_cons, List.not_mem_nil, or_false, not_or] at hk
    obtain ⟨ne, notEvt⟩ := hk
    rw [evt.2 k (by simpa using notEvt), ← e]
    exact rd_bump_other 1 (dropLease res s) ne

/-- Settles O57: each command is its own function of roles and leases, and what lapsing gives up leaves the registers below 0x2000. -/
theorem authorityLapses : Obligations.AuthorityLapses := by
  intro s up
  refine ⟨fun r => ⟨fun own run late => ?lapse, fun idle => ?early, fun own run => ?ended, fun idle => ?other⟩,
    fun res held run => ?lease, fun res idle => ?noLease⟩
  case lapse => exact ⟨_, hubCmd_up (authExpire r) s up, authExpire_lapses (s := s.alone) r.isLt up own run late⟩
  case early =>
    have same : authExpire r s.alone = s.alone := authExpire_idle idle
    exact (hubCmd_up (authExpire r) s up).trans (by rw [same])
  case ended =>
    have does : Does (.lapsedEnd r) s (lapsedEnd r s.alone) := hubCmd_up (lapsedEnd r) s up
    rw [lapsedEnd_due (s := s.alone) own run] at does
    have small : (if capable r s then 1 else 0) < 16 := by split <;> decide
    exact ⟨_, does, roleOwn_setOwn s.alone r.isLt small, (onlyRaised_alone (onlyRaised_setOwn r _ s.alone)).2⟩
  case other =>
    have same : lapsedEnd r s.alone = s.alone := lapsedEnd_idle idle
    exact (hubCmd_up (lapsedEnd r) s up).trans (by rw [same])
  case lease =>
    have does : Does (.leaseExpire res) s (leaseExpire res s.alone) := hubCmd_up (leaseExpire res) s up
    have runs : leaseExpire res s.alone = leaseEnd res s.alone := if_pos run
    exact ⟨_, runs ▸ does, leaseEnd_ends (s := s.alone) held⟩
  case noLease =>
    have same : leaseExpire res s.alone = s.alone := leaseExpire_idle idle
    exact (hubCmd_up (leaseExpire res) s up).trans (by rw [same])

end Sys2Proof.Proofs
end

section
/-! SUPPORT. The line code of the ring lanes: the scrambler against the descrambler (R55), and which blocks are commas (R59). -/
namespace Sys2Proof.Proofs
open Sys2Proof Sys2Proof.Machine Sys2Proof.Laws

/-! ## Scrambler and descrambler -/

theorem scramble_lt (n st w : Nat) : (scramble n st w).2 < 2 ^ n := by
  induction n generalizing st w with
  | zero => exact Nat.one_pos
  | succ n ih =>
    have rest := ih ((2 * st + (w + scrTap st) % 2) % 2 ^ 58) (w / 2)
    rw [scramble, Nat.pow_succ]
    dsimp only
    generalize (scramble n _ _).2 = line at rest ⊢
    omega

/-- From the scrambler's state the descrambler recovers the bits, and ends in the scrambler's state (R55). -/
theorem descramble_scramble (n st w : Nat) : descramble n st (scramble n st w).2 = ((scramble n st w).1, w % 2 ^ n) := by
  induction n generalizing st w with
  | zero => simp [scramble, descramble, Nat.mod_one]
  | succ n ih =>
    have taps : ((w + scrTap st) % 2 + 2 * (scramble n ((2 * st + (w + scrTap st) % 2) % 2 ^ 58) (w / 2)).2 + scrTap st) % 2 =
      w % 2 := by omega
    have first (o : Nat) : ((w + scrTap st) % 2 + 2 * o) % 2 = (w + scrTap st) % 2 := by omega
    have later (o : Nat) : ((w + scrTap st) % 2 + 2 * o) / 2 = o := by omega
    have bits : w % 2 ^ (n + 1) = w % 2 + 2 * (w / 2 % 2 ^ n) := by rw [Nat.pow_succ', Nat.mod_mul]
    simp only [scramble, descramble, taps, first, later, ih, bits]

/-- Line bits put into the state push out what stood there: states that differ only in bits pushed out become one. -/
theorem descramble_state_eq (n : Nat) {x y : Nat} (w : Nat) (hx : x < 2 ^ 58) (hy : y < 2 ^ 58)
    (h : x * 2 ^ n ≡ y * 2 ^ n [MOD 2 ^ 58]) : (descramble n x w).1 = (descramble n y w).1 := by
  induction n generalizing x y w with
  | zero =>
    rw [Nat.pow_zero, Nat.mul_one, Nat.mul_one] at h
    exact Nat.ModEq.eq_of_lt_of_lt h hx hy
  | succ n ih =>
    refine ih (w / 2) (Nat.mod_lt _ (by decide)) (Nat.mod_lt _ (by decide)) ?_
    have shift (z : Nat) : (2 * z + w % 2) % 2 ^ 58 * 2 ^ n ≡ z * 2 ^ (n + 1) + w % 2 * 2 ^ n [MOD 2 ^ 58] := by
      have e : z * 2 ^ (n + 1) + w % 2 * 2 ^ n = (2 * z + w % 2) * 2 ^ n := by ring
      rw [e]
      exact (Nat.mod_modEq _ _).mul_right _
    exact (shift x).trans ((h.add_right _).trans (shift y).symm)

theorem descramble_succ (n st w : Nat) : (descramble (n + 1) st w).1 = (descramble n ((2 * st + w % 2) % 2 ^ 58) (w / 2)).1 := rfl

/-- After 64 bits nothing of the state that the descrambler began in is left. -/
theorem descramble_state_forgets (x y w : Nat) : (descramble 64 x w).1 = (descramble 64 y w).1 := by
  have gone (z : Nat) : z * 2 ^ 63 ≡ 0 [MOD 2 ^ 58] := by
    have e : z * 2 ^ 63 = 2 ^ 58 * (z * 2 ^ 5) := by ring
    rw [e]
    exact Nat.modEq_zero_iff_dvd.mpr (Nat.dvd_mul_right _ _)
  have small (z : Nat) : z % 2 ^ 58 < 2 ^ 58 := Nat.mod_lt z (by decide)
  rw [descramble_succ 63, descramble_succ 63]
  exact descramble_state_eq 63 (w / 2) (small _) (small _) ((gone _).trans (gone _).symm)

/-- The sync header is not scrambled (R55). -/
theorem scrambleBlk_hdr (st : Nat) (b : Block) : (scrambleBlk st b).2.hdr = b.hdr := by
  rw [scrambleBlk]

/-- A scrambled block is recovered by a descrambler in the scrambler's state. -/
theorem descrambleBlk_scrambleBlk (st : Nat) (b : Block) :
    descrambleBlk st (scrambleBlk st b).2 = ((scrambleBlk st b).1, b) := by
  have line : (BitVec.ofNat 64 (scramble 64 st b.pay.toNat).2).toNat = (scramble 64 st b.pay.toNat).2 :=
    Nat.mod_eq_of_lt (scramble_lt 64 st _)
  have pay : BitVec.ofNat 64 (b.pay.toNat % 2 ^ 64) = b.pay := by
    rw [Nat.mod_eq_of_lt b.pay.isLt, BitVec.ofNat_toNat, BitVec.setWidth_eq]
  simp only [descrambleBlk, scrambleBlk, line, descramble_scramble, pay]

/-- A descrambler in any state is in the scrambler's state after one block. -/
theorem descrambleBlk_synchronises (x st : Nat) (b : Block) : (descrambleBlk x (scrambleBlk st b).2).1 = (scrambleBlk st b).1 := by
  have same : (descrambleBlk x (scrambleBlk st b).2).1 = (descrambleBlk st (scrambleBlk st b).2).1 :=
    descramble_state_forgets x st (scrambleBlk st b).2.pay.toNat
  rw [same, descrambleBlk_scrambleBlk]

/-! ## Commas -/

/-- A block is the comma block of its type byte exactly by its header and the 56 bits after the type byte. -/
theorem eq_commaBlock_iff (b : Block) :
    b = commaBlock (blkType b.pay) ↔ b.hdr = 0b10#2 ∧ b.pay.toNat / 256 = 0x3CA5F05A0FC396 := by
  obtain ⟨hdr, pay⟩ := b
  have lt := pay.isLt
  have val : blkType pay % 256 + commaPattern * 256 < 2 ^ 64 := by simp only [commaPattern]; omega
  have payload : pay = BitVec.ofNat 64 (blkType pay % 256 + commaPattern * 256) ↔ pay.toNat / 256 = 0x3CA5F05A0FC396 := by
    rw [← BitVec.toNat_inj, BitVec.toNat_ofNat, Nat.mod_eq_of_lt val]
    simp only [blkType, commaPattern]
    omega
  rw [commaBlock, Block.mk.injEq, hdrCtl, payload]

/-- The blocks recognised as commas (R59). -/
theorem commaOf_eq_some_iff (b : Block) (t : Nat) : commaOf b = some t ↔
    b.hdr = 0b10#2 ∧ b.pay.toNat / 256 = 0x3CA5F05A0FC396 ∧ b.pay.toNat % 256 = t ∧ t / 32 = 0 ∧ (t / 8 % 4 = 1 ∨ t / 8 % 4 = 2) := by
  have ok (n : Nat) : commaOk n = true ↔ n / 32 = 0 ∧ (n / 8 % 4 = 1 ∨ n / 8 % 4 = 2) := by simp [commaOk]
  have e : commaOf b = some t ↔ (b = commaBlock (blkType b.pay) ∧ commaOk (blkType b.pay) = true) ∧ blkType b.pay = t := by
    simp [commaOf]
  rw [e, eq_commaBlock_iff, ok, and_assoc, and_assoc]
  constructor
  · rintro ⟨hdr, pat, ver, rfl⟩
    exact ⟨hdr, pat, rfl, ver⟩
  · rintro ⟨hdr, pat, rfl, ver⟩
    exact ⟨hdr, pat, ver, rfl⟩

end Sys2Proof.Proofs
end

section
/-! SUPPORT. The registers and the record of a lane: what is read after a write, and what the operations that start a lane over (R63,
R66, R628) write and leave alone. -/
namespace Sys2Proof.Proofs
open Sys2Proof Sys2Proof.Machine Sys2Proof.Laws

/-! ## Fields of one register -/

theorem bit_setFld_apart (w : Word) {hi lo j : Nat} (v : Nat) (h : hi < 32) (apart : j < lo ∨ hi < j) :
    bit (setFld w hi lo v) j = bit w j := by
  rw [bit_getLsbD, bit_getLsbD, setFld_getLsbD w hi lo v j h, if_neg (by omega)]

theorem rb_wf_apart (k v : Nat) {hi lo j : Nat} (s : State) (h : hi < 32) (apart : j < lo ∨ hi < j) :
    rb (wf k hi lo v s) k j = rb s k j := by
  rw [rb, wf, rd_wr_same, bit_setFld_apart _ v h apart, rb]

theorem rf_wf_apart (k v : Nat) {hi lo hi' lo' : Nat} (s : State) (h : hi < 32) (apart : hi' < lo ∨ hi < lo') :
    rf (wf k hi lo v s) k hi' lo' = rf s k hi' lo' := by
  rw [rf, wf, rd_wr_same, fld_setFld_other _ hi lo v hi' lo' h apart, rf]

/-! ## A lane's registers and its record -/

@[simp] theorem laneReg_eq_iff (l a b : Nat) : laneReg l a = laneReg l b ↔ a = b := by
  simp only [laneReg]
  omega

theorem lane_setLane (j l : Nat) (v : LaneSt) (s : State) : lane j (setLane l v s) = if j = l then v else lane j s := by
  by_cases h : j = l
  · subst h; rw [if_pos rfl]; exact tget_tset_same _ _ _ _
  · rw [if_neg h]; exact tget_tset_other _ _ _ h

@[simp] theorem lane_setLane_same (l : Nat) (v : LaneSt) (s : State) : lane l (setLane l v s) = v := by
  rw [lane_setLane, if_pos rfl]

@[simp] theorem rd_setLane (l : Nat) (v : LaneSt) (s : State) (k : Nat) : rd (setLane l v s) k = rd s k := rfl

theorem lane_wr (l k : Nat) (v : Word) (s : State) : lane l (wr k v s) = lane l s := rfl

/-! ## LANE_STATUS -/

theorem laneState_laneTo {st : Nat} (l : Nat) (s : State) (h : st < 8) : laneState l (laneTo l st s) = st :=
  (rf_wf_same _ 2 0 st s (by decide)).trans (Nat.mod_eq_of_lt h)

/-- A field of LANE_STATUS above STATE. -/
theorem laneState_wf (l v : Nat) {hi lo : Nat} (s : State) (h : hi < 32) (above : 2 < lo) :
    laneState l (wf (laneReg l 0x004) hi lo v s) = laneState l s :=
  rf_wf_apart _ v s h (.inl above)

theorem laneState_putLaneBit (l : Nat) {i : Nat} (b : Bool) (s : State) (h : i < 32) (above : 2 < i) :
    laneState l (putLaneBit l i b s) = laneState l s :=
  laneState_wf l _ s h above

theorem laneBit_putLaneBit_same (l : Nat) {i : Nat} (b : Bool) (s : State) (h : i < 32) : laneBit l i (putLaneBit l i b s) = b :=
  rb_wb_same _ i b s h

theorem laneBit_putLaneBit_other (l : Nat) {i j : Nat} (b : Bool) (s : State) (h : i < 32) (ne : j ≠ i) :
    laneBit l j (putLaneBit l i b s) = laneBit l j s :=
  rb_wb_other _ i j b s h ne

theorem laneBit_wf (l v : Nat) {hi lo j : Nat} (s : State) (h : hi < 32) (apart : j < lo ∨ hi < j) :
    laneBit l j (wf (laneReg l 0x004) hi lo v s) = laneBit l j s :=
  rb_wf_apart _ v s h apart

theorem laneBit_laneTo (l st : Nat) {j : Nat} (s : State) (above : 2 < j) : laneBit l j (laneTo l st s) = laneBit l j s :=
  laneBit_wf l st s (by decide) (.inr above)

/-! ## Changes of lanes alone -/

/-- Nothing but registers among `ks` and the records of the lanes differs between `s` and `t`. -/
def OnlyLane (ks : List Nat) (s t : State) : Prop := { t with regs := s.regs, lanes := s.lanes } = s ∧ RegsKeep ks s t

theorem OnlyLane.refl (ks : List Nat) (s : State) : OnlyLane ks s s := ⟨rfl, fun _ _ => rfl⟩

theorem OnlyLane.trans {ks : List Nat} {s t u : State} (a : OnlyLane ks s t) (b : OnlyLane ks t u) : OnlyLane ks s u := by
  refine ⟨?_, fun k h => (b.2 k h).trans (a.2 k h)⟩
  have first := a.1
  have second := b.1
  rw [← first, ← second]

theorem OnlyLane.mono {ks js : List Nat} {s t : State} (a : OnlyLane ks s t) (sub : ks ⊆ js) : OnlyLane js s t :=
  ⟨a.1, fun k h => a.2 k (fun m => h (sub m))⟩

/-- A step that is made only where `c` holds. -/
theorem OnlyLane.ite {ks : List Nat} {s t : State} (c : Prop) [Decidable c] (a : OnlyLane ks s t) :
    OnlyLane ks s (if c then t else s) := by
  split
  · exact a
  · exact .refl ks s

theorem OnlyLane.time {ks : List Nat} {s t : State} (a : OnlyLane ks s t) : t.time = s.time := (congrArg (fun u : State => u.time) a.1 :)
theorem OnlyLane.post {ks : List Nat} {s t : State} (a : OnlyLane ks s t) : t.post = s.post := (congrArg (fun u : State => u.post) a.1 :)
theorem OnlyLane.ring {ks : List Nat} {s t : State} (a : OnlyLane ks s t) : t.ring = s.ring := (congrArg (fun u : State => u.ring) a.1 :)

theorem onlyLane_setLane (ks : List Nat) (l : Nat) (v : LaneSt) (s : State) : OnlyLane ks s (setLane l v s) := ⟨rfl, fun _ _ => rfl⟩

theorem onlyLane_wr {ks : List Nat} {k : Nat} (v : Word) (s : State) (h : k ∈ ks) : OnlyLane ks s (wr k v s) :=
  ⟨rfl, fun _ m => rd_wr_other v s (fun e => m (e ▸ h))⟩

/-! ## Locks lost, and starting over -/

/-- The registers that losing the locks may write (R61, R77, R628). -/
def lockRegs (l : Nat) : List Nat := [laneReg l 0x004, laneReg l 0x008, laneReg l 0x02C]

/-- The registers that starting over may write (R63, R628). -/
def startRegs (l : Nat) : List Nat := [laneReg l 0x004, laneReg l 0x008, laneReg l 0x018, laneReg l 0x02C]

theorem onlyLane_dropLocks (l : Nat) (s : State) : OnlyLane (lockRegs l) s (dropLocks l s) := by
  have reg {k : Nat} (v : Word) (t : State) (h : k ∈ lockRegs l) : OnlyLane (lockRegs l) t (wr k v t) := onlyLane_wr v t h
  have lost : OnlyLane (lockRegs l) s (lockLost l s) := (reg _ s (by simp [lockRegs])).trans (reg _ _ (by simp [lockRegs]))
  exact ((OnlyLane.ite _ lost).trans (onlyLane_setLane _ l _ _)).trans
    ((reg _ _ (by simp [lockRegs])).trans (reg _ _ (by simp [lockRegs])))

theorem lockRegs_sub (l : Nat) : lockRegs l ⊆ startRegs l := by simp [lockRegs, startRegs]

theorem dropLocks_unlocked (l : Nat) (s : State) : blockLock l (dropLocks l s) = false ∧ sfLock l (dropLocks l s) = false := by
  refine ⟨laneBit_putLaneBit_same l _ _ (by decide), ?_⟩
  exact (laneBit_putLaneBit_other l _ _ (by decide) (by decide)).trans (laneBit_putLaneBit_same l _ _ (by decide))

/-- Locks that are held and lost are counted once (R628). -/
theorem rd_dropLocks_count {l : Nat} {s : State} (held : blockLock l s = true) :
    rd (dropLocks l s) (laneReg l 0x02C) = satAdd (rd s (laneReg l 0x02C)) 1 := by
  simp [dropLocks, held, lockLost, putLaneBit, wb, bump, rd_wr]

/-- LANE_EVT after the locks are dropped: bit 2 is set where one was held. -/
theorem rd_dropLocks_evt (l : Nat) (s : State) : rd (dropLocks l s) (laneReg l 0x008) =
    if blockLock l s || sfLock l s then setBit (rd s (laneReg l 0x008)) 2 true else rd s (laneReg l 0x008) := by
  unfold dropLocks
  split <;> simp [lockLost, putLaneBit, wb, bump, rd_wr]

theorem onlyLane_laneUnlock (l : Nat) (rate : Bool) (s : State) : OnlyLane (startRegs l) s (laneUnlock l rate s) := by
  have status (v : Word) (t : State) : OnlyLane (startRegs l) t (wr (laneReg l 0x004) v t) := onlyLane_wr v t (by simp [startRegs])
  have drop (t : State) : OnlyLane (startRegs l) t (dropLocks l t) := (onlyLane_dropLocks l t).mono (lockRegs_sub l)
  exact ((status _ s).trans (status _ _)).trans ((drop _).trans ((status _ _).trans ((status _ _).trans (status _ _))))

theorem laneUnlock_unlocked (l : Nat) (rate : Bool) (s : State) : blockLock l (laneUnlock l rate s) = false ∧
    sfLock l (laneUnlock l rate s) = false ∧ laneBit l 10 (laneUnlock l rate s) = rate := by
  obtain ⟨block, sf⟩ := dropLocks_unlocked l (putLaneBit l 11 false (putLaneBit l 13 false s))
  unfold laneUnlock blockLock sfLock at *
  refine ⟨?_, ?_, ?_⟩ <;> rw [laneBit_wf _ _ _ (by decide) (by decide)]
  · rwa [laneBit_putLaneBit_other _ _ _ (by decide) (by decide), laneBit_putLaneBit_other _ _ _ (by decide) (by decide)]
  · rwa [laneBit_putLaneBit_other _ _ _ (by decide) (by decide), laneBit_putLaneBit_other _ _ _ (by decide) (by decide)]
  · exact laneBit_putLaneBit_same l rate _ (by decide)

theorem onlyLane_laneClear (l : Nat) (s : State) : OnlyLane (startRegs l) s (laneClear l s) :=
  (onlyLane_wr _ s (by simp [startRegs])).trans (onlyLane_setLane _ l _ _)

/-- A lane that starts over in state `st` at rate `rate`, its training counts cleared. -/
def startOver (l st : Nat) (rate : Bool) (s : State) : State := laneTo l st (laneUnlock l rate (laneClear l s))

theorem onlyLane_startOver (l st : Nat) (rate : Bool) (s : State) : OnlyLane (startRegs l) s (startOver l st rate s) :=
  ((onlyLane_laneClear l s).trans (onlyLane_laneUnlock l rate _)).trans (onlyLane_wr _ _ (by simp [startRegs]))

/-- The locks lost are all that LANE_EVT shows of starting over. -/
theorem startOver_down (l st : Nat) (rate : Bool) (s : State) :
    rb (startOver l st rate s) (laneReg l 0x008) 1 = rb s (laneReg l 0x008) 1 := by
  have e : rd (startOver l st rate s) (laneReg l 0x008) =
      rd (dropLocks l (putLaneBit l 11 false (putLaneBit l 13 false (laneClear l s)))) (laneReg l 0x008) := by
    simp [startOver, laneTo, laneUnlock, putLaneBit, wf, wb, rd_wr]
  have same : rd (putLaneBit l 11 false (putLaneBit l 13 false (laneClear l s))) (laneReg l 0x008) = rd s (laneReg l 0x008) := by
    simp [putLaneBit, laneClear, wf, wb, rd_wr]
  rw [rb, rb, e, rd_dropLocks_evt, same]
  split
  · exact bit_setBit_other _ true (by decide) (by decide)
  · rfl

theorem toDetect_eq (l : Nat) (s : State) : toDetect l s = startOver l (b2n (rb s (laneReg l 0) 0)) false s := rfl

theorem onlyLane_toDetect (l : Nat) (s : State) : OnlyLane (startRegs l) s (toDetect l s) := by
  rw [toDetect_eq]
  exact onlyLane_startOver l _ false s

theorem laneState_toDetect (l : Nat) (s : State) : laneState l (toDetect l s) = b2n (rb s (laneReg l 0) 0) :=
  laneState_laneTo l _ (by cases rb s (laneReg l 0) 0 <;> decide)

theorem toDetect_unlocked (l : Nat) (s : State) :
    blockLock l (toDetect l s) = false ∧ sfLock l (toDetect l s) = false ∧ laneBit l 10 (toDetect l s) = false := by
  obtain ⟨block, sf, rate⟩ := laneUnlock_unlocked l false (laneClear l s)
  exact ⟨(laneBit_laneTo l _ _ (by decide)).trans block, (laneBit_laneTo l _ _ (by decide)).trans sf,
    (laneBit_laneTo l _ _ (by decide)).trans rate⟩

/-! ## The test patterns -/

/-- The three counts of the test patterns (R73). -/
def prbsRegs (l : Nat) : List Nat := [laneReg l 0x044, laneReg l 0x048, laneReg l 0x04C]

/-- The rate in state PRBS (R72). -/
def prbsRate (l : Nat) (s : State) : Bool :=
  let p := rf s (laneReg l 0x40) 5 4
  if p = 1 then false else if p = 2 then true else laneBit l 10 s

/-- A generator that begins at the free value `w`, and counts at 0 (R72). -/
def prbsStart (l : Nat) (w : Word) (s : State) : State :=
  let pat := rf s (laneReg l 0x40) 1 0
  let s := setLane l { lane l s with prbsHi := 0, prbs := { gen := prbsSeed pat w, sent := (lane l s).prbs.sent } } s
  wr (laneReg l 0x44) 0 (wr (laneReg l 0x48) 0 (wr (laneReg l 0x4C) 0 s))

theorem toPrbs_eq (l : Nat) (s : State) :
    toPrbs l s = prbsStart l (fresh (startOver l 7 (prbsRate l s) s)).1 (fresh (startOver l 7 (prbsRate l s) s)).2 := rfl

theorem onlyLane_prbsStart (l : Nat) (w : Word) (s : State) : OnlyLane (prbsRegs l) s (prbsStart l w s) := by
  have reg {k : Nat} (v : Word) (t : State) (h : k ∈ prbsRegs l) : OnlyLane (prbsRegs l) t (wr k v t) := onlyLane_wr v t h
  exact (onlyLane_setLane _ l _ s).trans
    ((reg 0 _ (by simp [prbsRegs])).trans ((reg 0 _ (by simp [prbsRegs])).trans (reg 0 _ (by simp [prbsRegs]))))

theorem prbsStart_counts (l : Nat) (w : Word) (s : State) : ∀ k ∈ prbsRegs l, rd (prbsStart l w s) k = 0#32 := by
  simp [prbsRegs, prbsStart, rd_wr]

theorem rd_fresh (s : State) (k : Nat) : rd (fresh s).2 k = rd s k := rfl

/-- A frame of a lane does not see the count of free values. -/
theorem OnlyLane.fresh {ks : List Nat} {s t : State} (a : OnlyLane ks s t) :
    OnlyLane ks (Machine.fresh s).2 (Machine.fresh t).2 := by
  refine ⟨?_, a.2⟩
  have first := a.1
  rw [← first]
  rfl

theorem onlyLane_toPrbs (l : Nat) (s : State) : OnlyLane (startRegs l ++ prbsRegs l) (fresh s).2 (toPrbs l s) := by
  have started := (onlyLane_startOver l 7 (prbsRate l s) s).fresh.mono (List.subset_append_left _ (prbsRegs l))
  rw [toPrbs_eq]
  generalize Machine.fresh (startOver l 7 (prbsRate l s) s) = w at started ⊢
  exact started.trans ((onlyLane_prbsStart l w.1 w.2).mono (List.subset_append_right (startRegs l) _))

theorem laneState_toPrbs (l : Nat) (s : State) : laneState l (toPrbs l s) = 7 := by
  rw [toPrbs_eq, laneState, rf, (onlyLane_prbsStart l _ _).2 _ (by simp [prbsRegs]), rd_fresh]
  exact laneState_laneTo l _ (by decide)

theorem toPrbs_counts (l : Nat) (s : State) : ∀ k ∈ prbsRegs l, rd (toPrbs l s) k = 0#32 := prbsStart_counts l _ _

/-! ## LANE_CTL -/

/-- The value `v` written to LANE_CTL is stored: LINK_EN, ADAPT, a version that is defined (R63, R81). -/
def ctlTaken (l : Nat) (v : Word) (s : State) : State :=
  let s := stm (laneReg l 0) 0x11#32 v s
  if fld v 3 2 = 1 || fld v 3 2 = 2 then wf (laneReg l 0) 3 2 (fld v 3 2) s else s

/-- LANE_CTL is stored, and DOWNGRADE is cleared (R65, R76). -/
def ctlStored (l : Nat) (v : Word) (s : State) : State := putLaneBit l 12 false (ctlTaken l v s)

/-- A write of LANE_CTL changes LINK_EN, retrains, or only stores the value. -/
theorem laneCtlWrite_eq (l : Nat) (v : Word) (s : State) : laneCtlWrite l v s =
    if rb s (laneReg l 0) 0 ≠ bit v 0 then
      if rb s (laneReg l 0) 0 then linkDown l 6 (ctlStored l v s)
      else if rf (ctlStored l v s) (laneReg l 0x40) 1 0 ≠ 0 then toPrbs l (ctlStored l v s)
      else toDetect l (ctlStored l v s)
    else if bit v 1 && bit v 0 then linkDown l 6 (ctlStored l v s)
    else ctlTaken l v s := rfl

theorem onlyLane_ctlStored (l : Nat) (v : Word) (s : State) : OnlyLane [laneReg l 0, laneReg l 0x004] s (ctlStored l v s) :=
  ((onlyLane_wr _ s (by simp)).trans (.ite _ (onlyLane_wr _ _ (by simp)))).trans (onlyLane_wr _ _ (by simp))

theorem laneState_ctlStored (l : Nat) (v : Word) (s : State) : laneState l (ctlStored l v s) = laneState l s := by
  have apart : laneReg l 0x004 ≠ laneReg l 0 := by simp
  rw [ctlStored, laneState_putLaneBit l _ _ (by decide) (by decide), laneState, laneState, rf, rf, ctlTaken]
  split
  · rw [rd_wf_other _ _ _ _ apart, rd_stm_other _ _ _ apart]
  · rw [rd_stm_other _ _ _ apart]

theorem linkEn_ctlStored (l : Nat) (v : Word) (s : State) : rb (ctlStored l v s) (laneReg l 0) 0 = bit v 0 := by
  have apart : laneReg l 0 ≠ laneReg l 0x004 := by simp
  have stored : rb (stm (laneReg l 0) 0x11#32 v s) (laneReg l 0) 0 = bit v 0 := by
    rw [rb, stm, rd_wr_same, bit_getLsbD, bit_getLsbD]
    simp
  rw [ctlStored, rb, putLaneBit, rd_wb_other _ _ _ apart, ctlTaken]
  split
  · exact (rb_wf_apart _ _ _ (by decide) (by decide)).trans stored
  · exact stored

/-- LINK_EN written 1 to a lane that had it 0 (R63). -/
theorem laneCtlWrite_enable {l : Nat} {v : Word} {s : State} (was : rb s (laneReg l 0) 0 = false) (on : bit v 0 = true) :
    laneCtlWrite l v s = if rf s (laneReg l 0x40) 1 0 ≠ 0 then toPrbs l (ctlStored l v s) else toDetect l (ctlStored l v s) := by
  have pat : rf (ctlStored l v s) (laneReg l 0x40) 1 0 = rf s (laneReg l 0x40) 1 0 := by
    rw [rf, (onlyLane_ctlStored l v s).2 _ (by simp), rf]
  rw [laneCtlWrite_eq, was, on, pat, if_pos (by decide), if_neg (by decide)]

/-- LINK_EN written 0 to a lane that had it 1 (R63, R66). -/
theorem laneCtlWrite_disable {l : Nat} {v : Word} {s : State} (was : rb s (laneReg l 0) 0 = true) (off : bit v 0 = false) :
    laneCtlWrite l v s = linkDown l 6 (ctlStored l v s) := by
  rw [laneCtlWrite_eq, was, off, if_pos (by decide), if_pos (by decide)]

/-- RETRAIN written 1 with LINK_EN = 1 (R76). -/
theorem laneCtlWrite_retrain {l : Nat} {v : Word} {s : State} (was : rb s (laneReg l 0) 0 = true) (on : bit v 0 = true)
    (retrain : bit v 1 = true) : laneCtlWrite l v s = linkDown l 6 (ctlStored l v s) := by
  rw [laneCtlWrite_eq, was, on, retrain, if_neg (by decide), if_pos (by decide)]

end Sys2Proof.Proofs
end

section
/-! SUPPORT. What was ordered before a fault is raised is ordered after it. -/
namespace Sys2Proof.Proofs
open Sys2Proof Sys2Proof.Machine Sys2Proof.Laws

/-! ## What a raise orders -/

/-- Whatever was ordered in `s` is still ordered in `t`. -/
structure StillOrdered (s t : State) : Prop where
  post : s.post ⊆ t.post

theorem StillOrdered.refl (s : State) : StillOrdered s s := ⟨List.Subset.refl _⟩
theorem StillOrdered.trans {s t u : State} (a : StillOrdered s t) (b : StillOrdered t u) : StillOrdered s u :=
  ⟨List.Subset.trans a.post b.post⟩

/-- A step that is made only where `c` holds. -/
theorem StillOrdered.ite {s t : State} (c : Prop) [Decidable c] (a : StillOrdered s t) : StillOrdered s (if c then t else s) := by
  split
  · exact a
  · exact .refl s

theorem stillOrdered_wr (k : Nat) (v : Word) (s : State) : StillOrdered s (wr k v s) := ⟨List.Subset.refl _⟩

theorem stillOrdered_notify (g ev unit : Nat) (info : Word) (s : State) : StillOrdered s (notify g ev unit info s) :=
  ⟨List.subset_append_left _ _⟩

theorem stillOrdered_order (p : Post) (s : State) : StillOrdered s { s with post := s.post ++ [p] } := ⟨List.subset_append_left _ _⟩

theorem stillOrdered_sendVec (v : Nat) (s : State) : StillOrdered s (sendVec v s) := by
  unfold sendVec
  split <;> exact ⟨List.Subset.refl _⟩

theorem stillOrdered_blot (typ source : Nat) (a b c : Word) (s : State) : StillOrdered s (blot typ source a b c s) := by
  unfold blot
  split
  · exact .refl s
  split
  · exact stillOrdered_wr _ _ s
  split
  · exact stillOrdered_wr _ _ s
  · have record : StillOrdered s { s with flt := { s.flt with recs := s.flt.recs ++ [mkRec typ source a b c s] } } :=
      ⟨List.Subset.refl _⟩
    exact (record.trans ((stillOrdered_wr _ _ _).trans (stillOrdered_wr _ _ _))).trans
      (.ite _ ((stillOrdered_wr _ _ _).trans (stillOrdered_notify _ _ _ _ _)))

theorem stillOrdered_noted (n sev : Nat) (s : State) : StillOrdered s (noted n sev s) :=
  (stillOrdered_wr _ _ s).trans (.ite _ (stillOrdered_wr _ _ _))

theorem stillOrdered_latchFault (n sev : Nat) (info : Word) (s : State) : StillOrdered s (latchFault n sev info s) := by
  have e : latchFault n sev info s = if rb (noted n sev s) fltStatus 31 then
      (if rf (noted n sev s) fltFirstSrc 7 0 = n then bump fltFirstCnt 1 (wb fltStatus 29 true (noted n sev s))
        else wb fltStatus 30 true (noted n sev s))
    else notify 1 0x01 n info (sendVec 48 (firstWritten n sev info (noted n sev s))) := rfl
  have note := stillOrdered_noted n sev s
  rw [e]
  generalize noted n sev s = a at note ⊢
  split
  · split
    · exact note.trans ((stillOrdered_wr _ _ _).trans (stillOrdered_wr _ _ _))
    · exact note.trans (stillOrdered_wr _ _ _)
  · have written : StillOrdered a (firstWritten n sev info a) := ⟨List.Subset.refl _⟩
    exact note.trans (written.trans ((stillOrdered_sendVec 48 _).trans (stillOrdered_notify _ _ _ _ _)))

theorem stillOrdered_enterSafe (n : Nat) (info : Word) (s : State) : StillOrdered s (enterSafe n info s) := by
  have safe : StillOrdered s (wb hubStatus 4 true (wb fltStatus 28 true s)) := ⟨List.Subset.refl _⟩
  exact safe.trans ((StillOrdered.ite _ (stillOrdered_wr _ _ _)).trans
    ((stillOrdered_blot _ _ _ _ _ _).trans ((stillOrdered_notify _ _ _ _ _).trans (stillOrdered_order _ _))))

/-- A raise takes back nothing that was ordered. -/
theorem stillOrdered_raise (n : Nat) (info : Word) (s : State) : StillOrdered s (raise n info s) := by
  have count : StillOrdered s (counted n s) := ⟨List.Subset.refl _⟩
  have latch (t : State) : StillOrdered t (afterLatch n (severityOf n s) info t) := by
    unfold afterLatch
    split
    · exact .refl t
    · exact stillOrdered_latchFault n _ info t
  have record (src : Word) (c : Word) (t : State) : StillOrdered t (blot 0x01 n info src c t) := stillOrdered_blot _ _ _ _ _ t
  have counting : wb (fltActive (n / 32)) (n % 32) true (bump (fltCnt n) 1 s) = counted n s := rfl
  have latching (t : State) : (if severityOf n s = 0 then t else latchFault n (severityOf n s) info t) =
    afterLatch n (severityOf n s) info t := rfl
  unfold raise
  split
  · exact .refl s
  simp only [counting, latching]
  have latched := count.trans (latch (counted n s))
  split
  · split
    · exact latched.trans (.ite _ (record _ _ _))
    · exact latched.trans ((StillOrdered.ite _ (record _ _ _)).trans (stillOrdered_notify _ _ _ _ _))
  split
  · exact latched.trans ((StillOrdered.ite _ (record _ _ _)).trans (stillOrdered_order _ _))
  split
  · exact latched.trans ((StillOrdered.ite _ (record _ _ _)).trans (stillOrdered_enterSafe _ _ _))
  · exact latched.trans (.ite _ (record _ _ _))

end Sys2Proof.Proofs
end

section
/-! SUPPORT. What the ring MAC does where a frame ends as bad and where a link end leaves UP (R54, R66, R105): it writes no register of
a lane and orders nothing. -/
namespace Sys2Proof.Proofs
open Sys2Proof Sys2Proof.Machine Sys2Proof.Laws

/-! ## The ring MAC beside the lanes -/

/-- The registers of the lanes, what is ordered, the time and the elastic buffers are in `t` as in `s`. -/
structure BesideLanes (s t : State) : Prop where
  regs    : ∀ k, 0x38000 ≤ k → rd t k = rd s k
  post    : t.post = s.post
  time    : t.time = s.time
  elastic : ∀ l, (lane l t).elastic = (lane l s).elastic

theorem BesideLanes.refl (s : State) : BesideLanes s s := ⟨fun _ _ => rfl, rfl, rfl, fun _ => rfl⟩

theorem BesideLanes.trans {s t u : State} (a : BesideLanes s t) (b : BesideLanes t u) : BesideLanes s u :=
  ⟨fun k h => (b.regs k h).trans (a.regs k h), b.post.trans a.post, b.time.trans a.time,
    fun l => (b.elastic l).trans (a.elastic l)⟩

theorem BesideLanes.ite {s t u : State} (c : Prop) [Decidable c] (a : BesideLanes s t) (b : BesideLanes s u) :
    BesideLanes s (if c then t else u) := by
  split
  · exact a
  · exact b

theorem besideLanes_setLink (l : Nat) (k : LinkSt) (s : State) : BesideLanes s (setLink l k s) :=
  ⟨fun _ _ => rfl, rfl, rfl, fun _ => rfl⟩

theorem besideLanes_cntRing {o r : Nat} (n : Nat) (s : State) (low : o + 4 * r < 0x8000) : BesideLanes s (cntRing o r n s) :=
  ⟨fun k h => rd_bump_other n s (by simp only [ringReg]; omega), rfl, rfl, fun _ => rfl⟩

theorem besideLanes_creditReturn (l c n : Nat) (s : State) : BesideLanes s (creditReturn l c n s) :=
  .ite _ (besideLanes_setLink l _ s) (.refl s)

theorem besideLanes_poolLeave (o : OutFrame) (s : State) : BesideLanes s (poolLeave o s) := by
  unfold poolLeave
  split
  · exact .ite _ (.refl s) (besideLanes_creditReturn _ _ _ s)
  · exact .refl s

theorem besideLanes_copyLost (o : OutFrame) (s : State) : BesideLanes s (copyLost o s) :=
  .ite _ (.refl s) ⟨fun _ _ => rfl, rfl, rfl, fun _ => rfl⟩

theorem besideLanes_broken (f : Frame) (s : State) : BesideLanes s (broken f s) :=
  besideLanes_cntRing 1 s (by cases f.ring <;> decide)

theorem besideLanes_breakFrames (os : List OutFrame) (s : State) : BesideLanes s (breakFrames os s) := by
  induction os generalizing s with
  | nil => exact .refl s
  | cons o t ih =>
    exact (besideLanes_broken o.f s).trans ((besideLanes_poolLeave o _).trans ((besideLanes_copyLost o _).trans (ih _)))

theorem besideLanes_breakAll (l : Nat) (s : State) : BesideLanes s (breakAll l s) :=
  (besideLanes_setLink l _ s).trans (besideLanes_breakFrames _ _)

/-- Blocks that go on the line of a lane leave its elastic buffer alone. -/
theorem besideLanes_lineSend (l : Nat) (bs : List Block) (s : State) : BesideLanes s (lineSend l bs s) := by
  refine ⟨fun _ _ => rfl, rfl, rfl, fun j => ?_⟩
  rw [lineSend, lane_setLane]
  split
  case isTrue same => rw [same]
  case isFalse => rfl

theorem besideLanes_closeWire (l id : Nat) (f : Frame) (bs : List Block) (s : State) : BesideLanes s (closeWire l id f bs s) :=
  (besideLanes_setLink l _ s).trans (.ite _ (besideLanes_lineSend l bs _) (.refl _))

theorem besideLanes_spoilCopy (l id blocks : Nat) (s : State) : BesideLanes s (spoilCopy l id blocks s) := by
  unfold spoilCopy spoilWire
  dsimp only
  split
  · exact besideLanes_setLink l _ s
  · split
    · exact besideLanes_closeWire l id _ _ s
    · exact .refl s

/-- Ending a frame as bad (R54). -/
theorem besideLanes_badEnd {l : Nat} (blocks : Nat) (s : State) (lt : l < 2) : BesideLanes s (badEnd l blocks s) := by
  unfold badEnd
  split
  · exact .refl s
  · next r _ =>
    have unframed := besideLanes_setLink l { link l s with rx := none } s
    have counted (t : State) : BesideLanes t (if r.dead then t else cntRing 0x068 l 1 t) :=
      .ite _ (.refl t) (besideLanes_cntRing 1 t (by omega))
    have spoiled (t : State) : BesideLanes t (if r.forward then spoilCopy (1 - l) r.id blocks t else t) :=
      .ite _ (besideLanes_spoilCopy _ _ _ t) (.refl t)
    exact ((unframed.trans (counted _)).trans (spoiled _)).trans (besideLanes_creditReturn l _ _ _)

theorem besideLanes_disown (l : Nat) (s : State) : BesideLanes s (disown l s) :=
  ⟨fun _ _ => rfl, rfl, rfl, fun _ => rfl⟩

/-- The link end leaves UP (R66, R105). -/
theorem besideLanes_linkLeave {l : Nat} (s : State) (lt : l < 2) : BesideLanes s (linkLeave l s) :=
  ((besideLanes_badEnd 0 s lt).trans ((besideLanes_breakAll l _).trans (besideLanes_disown l _))).trans (besideLanes_setLink l _ _)

theorem link_setLink_same (l : Nat) (k : LinkSt) (s : State) : link l (setLink l k s) = k := tget_tset_same _ _ _ _

/-- Of a link end that has left UP only the frames put on the wire are left (R66). -/
theorem link_linkLeave (l : Nat) (s : State) : { link l (linkLeave l s) with wire := [] } = ({} : LinkSt) := by
  rw [linkLeave, link_setLink_same]

end Sys2Proof.Proofs
end

section
/-! SUPPORT. Link-down (R66): what a lane that was in UP shows, whatever the cause, and what the way to it keeps. -/
namespace Sys2Proof.Proofs
open Sys2Proof Sys2Proof.Machine Sys2Proof.Laws

/-! ## What link-down has shown stays shown -/

/-- What link-down shows is in `t` as in `s`: LANE_EVT.DOWN, LANE_CNT_DOWN, LANE_MARGIN, what was ordered; and LINK_EN. -/
structure KeepsDown (l : Nat) (s t : State) : Prop where
  down   : rb t (laneReg l 0x008) 1 = rb s (laneReg l 0x008) 1
  cnt    : rd t (laneReg l 0x038) = rd s (laneReg l 0x038)
  margin : rd t (laneReg l 0x01C) = rd s (laneReg l 0x01C)
  en     : rb t (laneReg l 0) 0 = rb s (laneReg l 0) 0
  post   : s.post ⊆ t.post

theorem KeepsDown.trans {l : Nat} {s t u : State} (a : KeepsDown l s t) (b : KeepsDown l t u) : KeepsDown l s u :=
  ⟨b.down.trans a.down, b.cnt.trans a.cnt, b.margin.trans a.margin, b.en.trans a.en, List.Subset.trans a.post b.post⟩

/-- A change that leaves the registers of lane `l` alone. -/
theorem keepsDown_of_regs {l : Nat} {s t : State} (regs : ∀ o < 0x1000, rd t (laneReg l o) = rd s (laneReg l o))
    (post : s.post ⊆ t.post) : KeepsDown l s t where
  down := by rw [rb, rb, regs 0x008 (by decide)]
  cnt := regs _ (by decide)
  margin := regs _ (by decide)
  en := by rw [rb, rb, regs 0 (by decide)]
  post := post

theorem keepsDown_of_besideLanes {l : Nat} {s t : State} (h : BesideLanes s t) : KeepsDown l s t :=
  keepsDown_of_regs (fun _ _ => h.regs _ (by simp only [laneReg]; omega)) (h.post ▸ List.Subset.refl _)

/-- A fault source has no register among those of the lanes. -/
theorem laneReg_not_fault {l o n : Nat} (hl : l < 2) (ho : o < 0x1000) (hn : n < 256) : laneReg l o ∉ faultRegs n := by
  simp [faultRegs, laneReg, fltCnt, fltActive, fltStatus, fltFirstSrc, fltFirstInfo, fltFirstTimeLo, fltFirstTimeHi, fltFirstCnt,
    fltLastSrc, hubStatus, bltStatus, bltRefused, bltMissed, bltWritten]
  omega

theorem keepsDown_raise {l n : Nat} (info : Word) (s : State) (hl : l < 2) (hn : n < 256) : KeepsDown l s (raise n info s) :=
  keepsDown_of_regs (fun _ ho => (onlyRaised_raise n info s).2 _ (laneReg_not_fault hl ho hn)) (stillOrdered_raise n info s).post

/-- Starting over writes no register of link-down but LANE_EVT, and not its bit 1. -/
theorem keepsDown_startOver (l st : Nat) (rate : Bool) (s : State) : KeepsDown l s (startOver l st rate s) := by
  have frame := onlyLane_startOver l st rate s
  have en : rd (startOver l st rate s) (laneReg l 0) = rd s (laneReg l 0) := frame.2 _ (by simp [startRegs])
  exact ⟨startOver_down l st rate s, frame.2 _ (by simp [startRegs]), frame.2 _ (by simp [startRegs]), by rw [rb, en, rb],
    frame.post ▸ List.Subset.refl _⟩

theorem keepsDown_prbsStart (l : Nat) (w : Word) (s : State) : KeepsDown l s (prbsStart l w s) := by
  have frame := onlyLane_prbsStart l w s
  have reg (o : Nat) (h : o ∉ [0x044, 0x048, 0x04C]) : rd (prbsStart l w s) (laneReg l o) = rd s (laneReg l o) :=
    frame.2 _ (by simpa [prbsRegs] using h)
  exact ⟨by rw [rb, rb, reg 8 (by decide)], reg _ (by decide), reg _ (by decide), by rw [rb, rb, reg 0 (by decide)],
    frame.post ▸ List.Subset.refl _⟩

theorem keepsDown_toPrbs (l : Nat) (s : State) : KeepsDown l s (toPrbs l s) := by
  rw [toPrbs_eq]
  have counted (t : State) : KeepsDown l t (fresh t).2 := keepsDown_of_regs (fun _ _ => rfl) (List.Subset.refl _)
  exact ((keepsDown_startOver l 7 _ s).trans (counted _)).trans (keepsDown_prbsStart l _ _)

/-! ## Link-down -/

/-- Link-down is counted, noted and notified, and LANE_MARGIN reads 0 (R66, R67, R80). -/
def downShown (l cause : Nat) (s : State) : State :=
  wr (laneReg l 0x01C) 0 (laneNotice l 0x11 (w32 cause) (wb (laneReg l 0x008) 1 true (bump (laneReg l 0x038) 1 s)))

theorem rd_downShown {l k : Nat} (cause : Nat) (s : State) (h : k ≠ laneReg l 0x01C) :
    rd (downShown l cause s) k = rd (wb (laneReg l 0x008) 1 true (bump (laneReg l 0x038) 1 s)) k := by
  rw [downShown, rd_wr_other _ _ h, laneNotice, rd_notify]

/-- The fault source of the cause, if it has one, is raised (R66). -/
def causeRaised (l cause : Nat) (s : State) : State :=
  match causeSource l cause with
  | some n => raiseFree n s
  | none => s

/-- The lane goes on from link-down: to PRBS for cause 0x07, else to DETECT (R66, R72). -/
def afterDown (l cause : Nat) (s : State) : State := if cause = 7 then toPrbs l s else toDetect l s

theorem linkDown_up {l : Nat} (cause : Nat) {s : State} (up : laneUp l s = true) :
    linkDown l cause s = afterDown l cause (linkLeave l (causeRaised l cause (downShown l cause s))) := by
  simp only [linkDown, up, if_true]
  rfl

theorem causeSource_lt {l cause n : Nat} (hl : l < 2) (h : causeSource l cause = some n) : n < 256 := by
  unfold causeSource at h
  split at h
  · cases h; omega
  split at h
  · cases h; omega
  split at h
  · cases h; omega
  · cases h

theorem keepsDown_causeRaised {l : Nat} (cause : Nat) (s : State) (hl : l < 2) : KeepsDown l s (causeRaised l cause s) := by
  have counted : KeepsDown l s (fresh s).2 := keepsDown_of_regs (fun _ _ => rfl) (List.Subset.refl _)
  unfold causeRaised
  split
  · next n src => exact counted.trans (keepsDown_raise _ _ hl (causeSource_lt hl src))
  · exact keepsDown_of_regs (fun _ _ => rfl) (List.Subset.refl _)

theorem keepsDown_afterDown (l cause : Nat) (s : State) : KeepsDown l s (afterDown l cause s) := by
  unfold afterDown
  split
  · exact keepsDown_toPrbs l s
  · exact keepsDown_startOver l _ false s

/-- What follows link-down leaves the link end as it is. -/
theorem link_afterDown (l cause : Nat) (s : State) : link l (afterDown l cause s) = link l s := by
  unfold afterDown link
  split
  · rw [(onlyLane_toPrbs l s).ring]; rfl
  · rw [(onlyLane_toDetect l s).ring]

theorem laneState_afterDown (l cause : Nat) (s : State) :
    laneState l (afterDown l cause s) = if cause = 7 then 7 else b2n (rb s (laneReg l 0) 0) := by
  unfold afterDown
  split
  · exact laneState_toPrbs l s
  · exact laneState_toDetect l s

/-- What a lane shows in `u` that has left UP in `s` for `cause` and is in state `st` now (R66, R80). -/
def LeftUp (l cause st : Nat) (s u : State) : Prop := laneState l u = st ∧ rb u (laneReg l 0x008) 1 = true ∧
  rd u (laneReg l 0x038) = satAdd (rd s (laneReg l 0x038)) 1 ∧ rd u (laneReg l 0x01C) = 0#32 ∧
  Post.notice 2 0x11 l (w32 cause) (tb0 s) ∈ u.post ∧ { link l u with wire := [] } = ({} : LinkSt)

theorem linkDown_left {l : Nat} (cause : Nat) {s : State} (hl : l < 2) (up : laneState l s = 6) :
    LeftUp l cause (if cause = 7 then 7 else b2n (rb s (laneReg l 0) 0)) s (linkDown l cause s) := by
  have isUp : laneUp l s = true := by simpa [laneUp, laneState] using up
  have evt : rb (downShown l cause s) (laneReg l 0x008) 1 = true := by
    rw [rb, rd_downShown cause s (by simp)]
    exact rb_wb_same _ 1 true _ (by decide)
  have cnt : rd (downShown l cause s) (laneReg l 0x038) = satAdd (rd s (laneReg l 0x038)) 1 := by
    rw [rd_downShown cause s (by simp), rd_wb_other _ _ _ (by simp), rd_bump_same]
  have margin : rd (downShown l cause s) (laneReg l 0x01C) = 0#32 := rd_wr_same _ _ _
  have post : (downShown l cause s).post = s.post ++ [.notice 2 0x11 l (w32 cause) (tb0 s)] := rfl
  have notice : Post.notice 2 0x11 l (w32 cause) (tb0 s) ∈ (downShown l cause s).post :=
    post ▸ List.mem_append_right s.post (List.mem_singleton.mpr rfl)
  have en : rb (downShown l cause s) (laneReg l 0) 0 = rb s (laneReg l 0) 0 := by
    rw [rb, rd_downShown cause s (by simp), rd_wb_other _ _ _ (by simp), rd_bump_other _ _ (by simp), rb]
  rw [linkDown_up cause isUp]
  have left := (keepsDown_causeRaised cause (downShown l cause s) hl).trans (keepsDown_of_besideLanes (besideLanes_linkLeave _ hl))
  have link := link_linkLeave l (causeRaised l cause (downShown l cause s))
  generalize linkLeave l (causeRaised l cause (downShown l cause s)) = a at left link ⊢
  have keep := left.trans (keepsDown_afterDown l cause a)
  refine ⟨?_, keep.down.trans evt, keep.cnt.trans cnt, keep.margin.trans margin, keep.post notice, ?_⟩
  · rw [laneState_afterDown, left.en, en]
  · rw [link_afterDown]; exact link

/-! ## The way to link-down -/

/-- What link-down depends on is in `t` as in `s`: the state, LINK_EN, LANE_CNT_DOWN and the time. -/
structure KeepsUp (l : Nat) (s t : State) : Prop where
  state : laneState l t = laneState l s
  en    : rb t (laneReg l 0) 0 = rb s (laneReg l 0) 0
  cnt   : rd t (laneReg l 0x038) = rd s (laneReg l 0x038)
  time  : t.time = s.time

theorem KeepsUp.refl (l : Nat) (s : State) : KeepsUp l s s := ⟨rfl, rfl, rfl, rfl⟩

theorem KeepsUp.trans {l : Nat} {s t u : State} (a : KeepsUp l s t) (b : KeepsUp l t u) : KeepsUp l s u :=
  ⟨b.state.trans a.state, b.en.trans a.en, b.cnt.trans a.cnt, b.time.trans a.time⟩

theorem KeepsUp.ite {l : Nat} {s t u : State} (c : Prop) [Decidable c] (a : KeepsUp l s t) (b : KeepsUp l s u) :
    KeepsUp l s (if c then t else u) := by
  split
  · exact a
  · exact b

/-- The registers of lane `l` that link-down depends on. -/
def upRegs (l : Nat) : List Nat := [laneReg l 0, laneReg l 0x004, laneReg l 0x038]

theorem keepsUp_of_regs {l : Nat} {s t : State} (regs : ∀ k ∈ upRegs l, rd t k = rd s k) (time : t.time = s.time) :
    KeepsUp l s t where
  state := by rw [laneState, laneState, rf, rf, regs _ (by simp [upRegs])]
  en := by rw [rb, rb, regs _ (by simp [upRegs])]
  cnt := regs _ (by simp [upRegs])
  time := time

/-- A frame of lanes whose registers are others. -/
theorem keepsUp_of_onlyLane {l : Nat} {ks : List Nat} {s t : State} (frame : OnlyLane ks s t) (apart : ∀ k ∈ upRegs l, k ∉ ks) :
    KeepsUp l s t :=
  keepsUp_of_regs (fun k m => frame.2 k (apart k m)) frame.time

theorem keepsUp_wr (l : Nat) {k : Nat} (v : Word) (s : State) (h : k ∉ upRegs l) : KeepsUp l s (wr k v s) :=
  keepsUp_of_regs (fun _ m => rd_wr_other v s (fun e => h (e ▸ m))) rfl

theorem keepsUp_setLane (l j : Nat) (v : LaneSt) (s : State) : KeepsUp l s (setLane j v s) := ⟨rfl, rfl, rfl, rfl⟩

theorem keepsUp_putLaneBit (l : Nat) {i : Nat} (b : Bool) (s : State) (h : i < 32) (above : 2 < i) :
    KeepsUp l s (putLaneBit l i b s) :=
  ⟨laneState_putLaneBit l b s h above, by rw [rb, putLaneBit, rd_wb_other _ _ _ (by simp), rb], rd_wb_other _ _ _ (by simp), rfl⟩

theorem keepsUp_of_besideLanes {l : Nat} {s t : State} (h : BesideLanes s t) : KeepsUp l s t :=
  keepsUp_of_regs (fun k m => h.regs k (by simp [upRegs, laneReg] at m; omega)) h.time

/-- A lane in UP in `s` that comes to link-down leaves UP as in `s`. -/
theorem KeepsUp.left {l : Nat} (cause : Nat) {s t : State} (k : KeepsUp l s t) (hl : l < 2) (up : laneState l s = 6) :
    LeftUp l cause (if cause = 7 then 7 else b2n (rb s (laneReg l 0) 0)) s (linkDown l cause t) := by
  have left := linkDown_left cause hl (k.state.trans up)
  rwa [LeftUp, k.en, k.cnt, tb0, k.time] at left

end Sys2Proof.Proofs
end

section
/-! SUPPORT. The commands of the ring lanes: what each of them comes to where the statements speak of it. -/
namespace Sys2Proof.Proofs
open Sys2Proof Sys2Proof.Machine Sys2Proof.Laws

/-! ## Every command -/

/-- Settles O9: each lane command runs its operation in the ring core, LANE_PRBS and its end in the hub. -/
theorem laneCommandsComplete : Obligations.LaneCommandsComplete := by
  intro s
  have core {f : State → State} (up : s.coreUp) : coreCmd f s = .next (carryOn (f s.alone) s) := coreCmd_up f s up
  exact ⟨fun _ => core, fun _ _ => core, fun _ _ => core, fun _ _ => core, fun _ _ => core, fun _ _ _ => core, fun _ _ _ => core,
    fun _ _ => core, fun _ _ _ _ => core, fun _ => core, fun _ => core, fun _ _ _ => core, fun _ => core, fun _ _ => core,
    fun _ _ => core, fun _ _ => core, fun _ => core, fun _ _ _ => core, fun _ => core, fun _ => core, fun _ => core, fun _ => core,
    fun _ _ => core, fun _ _ => core, fun _ _ => core, fun _ _ => core, fun _ _ _ => core,
    fun m raw up rung => kcCmd_rung m 0x0309 _ s raw up rung, fun _ _ _ up => hubCmd_up _ s up⟩

/-! ## Block lock lost -/

/-- In any state but DISABLED and PRBS blocks are decoded (R63, R72). -/
theorem laneCoded_of_state {l st : Nat} {s : State} (h : laneState l s = st) (n0 : st ≠ 0) (n7 : st ≠ 7) : laneCoded l s = true := by
  simp [laneCoded, h, n0, n7]

theorem laneRx_of_state {l st : Nat} {s : State} (h : laneState l s = st) (n0 : st ≠ 0) (n7 : st ≠ 7) (lock : blockLock l s = true) :
    laneRx l s = true := by
  rw [laneRx, laneCoded_of_state h n0 n7, lock]
  rfl

theorem laneState_bump (l : Nat) {k : Nat} (n : Nat) (s : State) (h : laneReg l 0x004 ≠ k) :
    laneState l (bump k n s) = laneState l s := by
  rw [laneState, laneState, rf, rf, rd_bump_other n s h]

/-- The sixteenth invalid header of a window, counted (R57). -/
theorem rxHeader_sixteenth {l : Nat} {h : BitVec 2} {s : State} (coded : laneCoded l s = true) (lock : blockLock l s = true)
    (bad : 15 ≤ (lane l s).winBad) (inv : syncOk h = false) :
    rxHeader l h s = blockLockEnds l (bump (laneReg l 0x020) 1 s) := by
  have locked : blockLock l (bump (laneReg l 0x020) 1 s) = true := by
    rw [blockLock, laneBit, rb, rd_bump_other _ _ (by simp)]
    exact lock
  have full : 16 ≤ (lane l (bump (laneReg l 0x020) 1 s)).winBad + 1 := Nat.succ_le_succ bad
  simp [rxHeader, coded, inv, locked, b2n, full]

/-- Both commands that bring the sixteenth invalid header end block lock. -/
theorem blockLockEnds_does {s : State} {l : Fin 2} {h : BitVec 2} (hi : Bool) (up : s.coreUp) (coded : laneCoded l s = true)
    (lock : blockLock l s = true) (bad : 15 ≤ (lane l s).winBad) (inv : syncOk h = false) :
    ∀ c ∈ [Instr.blockLockLoss l [h], Instr.invalidSyncHeader l hi],
      Does c s (blockLockEnds l (bump (laneReg l 0x020) 1 s.alone)) := by
  have ends (g : BitVec 2) (g_inv : syncOk g = false) :
      rxHeader l g s.alone = blockLockEnds l (bump (laneReg l 0x020) 1 s.alone) :=
    rxHeader_sixteenth (s := s.alone) coded lock bad g_inv
  have sync : syncOk (if hi then 0b11#2 else 0b00#2) = false := by cases hi <;> decide
  intro c mem
  obtain rfl | mem := List.mem_cons.mp mem
  · exact ends h inv ▸ coreCmd_up (rxHeader l h) s up
  · obtain rfl := List.mem_singleton.mp mem
    exact ends _ sync ▸ coreCmd_up (rxHeader l _) s up

/-! ## The rate switch in NEGOTIATE -/

theorem onlyLane_toRateChange (l : Nat) (s : State) : OnlyLane [laneReg l 0x004] s (toRateChange l s) := by
  have status (v : Word) (t : State) : OnlyLane [laneReg l 0x004] t (wr (laneReg l 0x004) v t) := onlyLane_wr v t (by simp)
  exact (onlyLane_setLane _ l _ s).trans ((status _ _).trans ((status _ _).trans (status _ _)))

theorem laneBit_toRateChange (l : Nat) {i : Nat} (s : State) (h : 2 < i) (n8 : i < 8) :
    laneBit l i (toRateChange l s) = laneBit l i s := by
  rw [toRateChange, laneBit_laneTo _ _ _ h, laneBit_wf _ _ _ (by decide) (by omega), laneBit_putLaneBit_other _ _ _ (by decide) (by omega)]
  rfl

/-- A lane that has agreed on version 2 and said so follows its partner's switch of rate (R64). -/
theorem blockLockEnds_rate {l : Nat} {s : State} (st : laneState l s = 3) (ack : (lane l s).ackSent = true)
    (ver : (lane l s).agreed = 2) : blockLockEnds l s = toRateChange l (dropLocks l s) := by
  simp [blockLockEnds, st, ack, ver]

/-- Any other lane in NEGOTIATE goes back (R628). -/
theorem blockLockEnds_back {l : Nat} {s : State} (st : laneState l s = 3) (no : (lane l s).ackSent = false ∨ (lane l s).agreed ≠ 2) :
    blockLockEnds l s = toDetect l s := by
  have n : ¬ ((lane l s).ackSent = true ∧ (lane l s).agreed = 2) := by rintro ⟨ack, ver⟩; simp [ack, ver] at no
  simp [blockLockEnds, st, n]

/-- Settles O29: both commands come to `blockLockEnds`, and the lane's ACK and version decide which way it goes. -/
theorem laneFollowsPartnersRate : Obligations.LaneFollowsPartnersRate := by
  intro s l h hi up st lock bad inv c mem
  have does := blockLockEnds_does hi up (laneCoded_of_state st (by decide) (by decide)) lock bad inv c mem
  have counted : OnlyLane [laneReg l 0x020] s.alone (bump (laneReg l 0x020) 1 s.alone) := onlyLane_wr _ _ (by simp)
  have hdr : rd (bump (laneReg l 0x020) 1 s.alone) (laneReg l 0x020) = satAdd (rd s (laneReg l 0x020)) 1 := rd_bump_same _ _ _
  have same : rd (bump (laneReg l 0x020) 1 s.alone) (laneReg l 0x02C) = rd s (laneReg l 0x02C) := counted.2 _ (by simp)
  have locked : blockLock l (bump (laneReg l 0x020) 1 s.alone) = true := by
    rw [blockLock, laneBit, rb, counted.2 _ (by simp)]; exact lock
  have en : rb (bump (laneReg l 0x020) 1 s.alone) (laneReg l 0) 0 = rb s (laneReg l 0) 0 := by
    rw [rb, counted.2 _ (by simp)]; rfl
  have state := (laneState_bump l 1 s.alone (k := laneReg l 0x020) (by simp)).trans st
  have record : lane l (bump (laneReg l 0x020) 1 s.alone) = lane l s := rfl
  generalize bump (laneReg l 0x020) 1 s.alone = a at *
  refine ⟨fun ack ver => ⟨_, does, ?rate⟩, fun no linkEn => ⟨_, does, ?back⟩⟩
  case rate =>
    rw [blockLockEnds_rate state (record ▸ ack) (record ▸ ver)]
    obtain ⟨block, sf⟩ := dropLocks_unlocked l a
    have dropped := onlyLane_dropLocks l a
    have switched := onlyLane_toRateChange l (dropLocks l a)
    have frame : OnlyLane [laneReg l 0x004, laneReg l 0x008, laneReg l 0x020, laneReg l 0x02C] s.alone
        (toRateChange l (dropLocks l a)) :=
      (counted.mono (by simp)).trans ((dropped.mono (by simp [lockRegs])).trans (switched.mono (by simp)))
    refine ⟨laneState_laneTo l _ (by decide), ?_, ?_, ?_, ?_, frame.2, frame.1⟩
    · exact (laneBit_toRateChange l _ (by decide) (by decide)).trans block
    · exact (laneBit_toRateChange l _ (by decide) (by decide)).trans sf
    · rw [switched.2 _ (by simp), dropped.2 _ (by simp [lockRegs]), hdr]
    · rw [switched.2 _ (by simp), rd_dropLocks_count locked, same]
  case back =>
    rw [blockLockEnds_back state (record ▸ no)]
    have st' : laneState l (toDetect l a) = 1 := by rw [laneState_toDetect, en, linkEn]; rfl
    exact ⟨st', toDetect_unlocked l a⟩

end Sys2Proof.Proofs
end

section
/-! SUPPORT. A lane in UP: each cause of link-down comes to `linkDown` (R66). -/
namespace Sys2Proof.Proofs
open Sys2Proof Sys2Proof.Machine Sys2Proof.Laws

/-! ## Signal and locks -/

/-- Signal loss is shown in LANE_STATUS. -/
def signalCleared (l : Nat) (sig : Bool) (s : State) : State := putLaneBit l 4 false (if sig then putLaneBit l 3 false s else s)

theorem keepsUp_signalCleared (l : Nat) (sig : Bool) (s : State) : KeepsUp l s (signalCleared l sig s) :=
  (KeepsUp.ite _ (keepsUp_putLaneBit l false s (by decide) (by decide)) (.refl l s)).trans
    (keepsUp_putLaneBit l false _ (by decide) (by decide))

theorem laneSignalLoss_up {l : Nat} (sig : Bool) {s : State} (st : laneState l s = 6) :
    laneSignalLoss l sig s = linkDown l 1 (signalCleared l sig s) := by
  simp only [laneSignalLoss, st, if_true]
  rfl

theorem blockLockEnds_up {l : Nat} {s : State} (st : laneState l s = 6) : blockLockEnds l s = linkDown l 2 s := by
  simp [blockLockEnds, st]

/-- The third comma position in a row that passes without a comma (R61). -/
theorem sfLockLoss_third {l n p : Nat} {s : State} (rx : laneRx l s = true) (st : laneState l s = 6) (lock : sfLock l s = true)
    (pos : (lane l s).pos = some p) (passed : 4096 ≤ p + n) (third : 3 ≤ (lane l s).missRun + (p + n) / 4096) :
    sfLockLoss l n s = linkDown l 3 (bump (laneReg l 0x028) (min ((p + n) / 4096) (3 - (lane l s).missRun)) s) := by
  have st' (m : Nat) : laneState l (bump (laneReg l 0x028) m s) = 6 := (laneState_bump l m s (by simp)).trans st
  simp [sfLockLoss, rx, passBlocks, pos, Nat.not_lt.mpr passed, lock, third, sfLockEnds, st']

/-! ## The elastic buffer -/

theorem onlyLane_noteFill (l n : Nat) (s : State) : OnlyLane [laneReg l 0x018] s (noteFill l n s) := by
  have reg (v : Word) (t : State) : OnlyLane [laneReg l 0x018] t (wr (laneReg l 0x018) v t) := onlyLane_wr v t (by simp)
  exact ((reg _ s).trans (.ite _ (reg _ _))).trans (.ite _ (reg _ _))

/-- The buffer holds `q`, and its fill is noted (R80). -/
def elasticNoted (l : Nat) (q : List Block) (s : State) : State := noteFill l q.length (setLane l { lane l s with elastic := q } s)

theorem onlyLane_elasticNoted (l : Nat) (q : List Block) (s : State) : OnlyLane [laneReg l 0x018] s (elasticNoted l q s) :=
  (onlyLane_setLane _ l _ s).trans (onlyLane_noteFill l _ _)

/-- An overflow or underflow is noted in LANE_EVT (R69). -/
def elasticFailed (l : Nat) (q : List Block) (s : State) : State := wb (laneReg l 0x008) 4 true (elasticNoted l q s)

theorem keepsUp_elasticFailed (l : Nat) (q : List Block) (s : State) : KeepsUp l s (elasticFailed l q s) := by
  have noted : KeepsUp l s (elasticNoted l q s) := keepsUp_of_onlyLane (onlyLane_elasticNoted l q s) (by simp [upRegs])
  exact noted.trans (keepsUp_wr l _ _ (by simp [upRegs]))

/-- A buffer that fills, or runs empty inside a frame, ends link-up (R69). -/
theorem putElastic_fails {l : Nat} {q : List Block} {s : State} (st : laneState l s = 6)
    (fails : 32 ≤ q.length ∨ q = [] ∧ inFrame l s = true) : putElastic l q s = linkDown l 4 (elasticFailed l q s) := by
  have up : laneUp l (elasticFailed l q s) = true := by
    have st' := (keepsUp_elasticFailed l q s).state.trans st
    simpa [laneUp, laneState] using st'
  have frame : inFrame l (elasticNoted l q s) = inFrame l s := by
    rw [inFrame, link, (onlyLane_elasticNoted l q s).ring, inFrame, link]
  have full : (decide (q.length < 32) && !(q.isEmpty && inFrame l (elasticNoted l q s))) = false := by
    rw [frame]
    obtain full | ⟨rfl, inside⟩ := fails
    · rw [decide_eq_false (Nat.not_lt.mpr full), Bool.false_and]
    · rw [inside]; rfl
  have e : putElastic l q s = if (decide (q.length < 32) && !(q.isEmpty && inFrame l (elasticNoted l q s))) = true then
      elasticNoted l q s else if laneUp l (elasticFailed l q s) then linkDown l 4 (elasticFailed l q s) else elasticFailed l q s := rfl
  rw [e, full, up, if_neg (by decide), if_pos rfl]

/-- A block that is no comma is descrambled; an invalid one ends the frame it falls in (R54). -/
def blockTaken (l blocks : Nat) (b : Block) (s : State) : State :=
  let r := descrambleBlk (lane l s).rxScr b
  let s := setLane l { lane l s with rxScr := r.1 } s
  if blkKind r.2 = .invalid && syncOk b.hdr then badEnd l blocks (bump (laneReg l 0x24) 1 s) else s

theorem rxBlock_eq (l blocks : Nat) (b : Block) (s : State) :
    rxBlock l blocks b s = elasticPut l (descrambleBlk (lane l s).rxScr b).2 (blockTaken l blocks b s) := rfl

theorem keepsUp_blockTaken {l : Nat} (blocks : Nat) (b : Block) (s : State) (hl : l < 2) : KeepsUp l s (blockTaken l blocks b s) := by
  have count (t : State) : KeepsUp l t (bump (laneReg l 0x24) 1 t) := keepsUp_wr l _ t (by simp [upRegs])
  have ended (t : State) : KeepsUp l t (badEnd l blocks t) := keepsUp_of_besideLanes (besideLanes_badEnd blocks t hl)
  exact (keepsUp_setLane l l _ s).trans (.ite _ ((count _).trans (ended _)) (.refl l _))

theorem elastic_blockTaken {l : Nat} (blocks : Nat) (b : Block) (s : State) (hl : l < 2) :
    (lane l (blockTaken l blocks b s)).elastic = (lane l s).elastic := by
  have descrambled (v : Nat) : (lane l (setLane l { lane l s with rxScr := v } s)).elastic = (lane l s).elastic := by
    rw [lane_setLane_same]
  unfold blockTaken
  dsimp only
  split
  · exact ((besideLanes_badEnd blocks _ hl).elastic l).trans (descrambled _)
  · exact descrambled _

/-- The block that fills the buffer (R69). -/
theorem bufMove_fills {l : Nat} {b : Block} {s : State} (hl : l < 2) (rx : laneRx l s = true) (st : laneState l s = 6)
    (data : commaOf b = none) (fill : (lane l s).elastic.length = 31) :
    bufMove l (.inp b) s = linkDown l 4 (elasticFailed l ((lane l s).elastic ++ [(descrambleBlk (lane l s).rxScr b).2])
      (blockTaken l 0 b s)) := by
  have held := elastic_blockTaken 0 b s hl
  have st' := (keepsUp_blockTaken 0 b s hl).state.trans st
  have takes : bufMove l (.inp b) s = rxBlock l 0 b s := by simp [bufMove, rx, data]
  rw [takes, rxBlock_eq, elasticPut, held, fill, if_pos (by decide)]
  exact putElastic_fails st' (.inl (by simp [fill]))

/-- The last block is read while a frame is in progress (R69). -/
theorem bufMove_empties {l : Nat} {s : State} (rx : laneRx l s = true) (st : laneState l s = 6) (frame : inFrame l s = true)
    (fill : (lane l s).elastic.length = 1) : bufMove l .out s = linkDown l 4 (elasticFailed l [] s) := by
  obtain ⟨x, one⟩ := List.length_eq_one_iff.mp fill
  have reads : bufMove l .out s = putElastic l [] s := by simp [bufMove, rx, one]
  rw [reads, putElastic_fails st (.inr ⟨rfl, frame⟩)]

/-! ## LANE_CTL and LANE_PRBS_CTL -/

/-- A lane that leaves UP by a write of LANE_CTL goes where the LINK_EN written says. -/
theorem ctlStored_left {l : Nat} (v : Word) {s : State} (hl : l < 2) (st : laneState l s = 6) :
    LeftUp l 6 (b2n (bit v 0)) s (linkDown l 6 (ctlStored l v s)) := by
  have left := linkDown_left 6 hl ((laneState_ctlStored l v s).trans st)
  have cnt : rd (ctlStored l v s) (laneReg l 0x038) = rd s (laneReg l 0x038) := (onlyLane_ctlStored l v s).2 _ (by simp)
  rwa [if_neg (by decide), linkEn_ctlStored, LeftUp, cnt, tb0, (onlyLane_ctlStored l v s).time] at left

/-- The value `v` written to LANE_PRBS_CTL is stored, and a checker that is off starts afresh (R72, R81). -/
def prbsStored (l : Nat) (v : Word) (s : State) : State :=
  let s := stm (laneReg l 0x40) 0xC#32 v s
  let s := if fld v 5 4 = 3 then s else wf (laneReg l 0x40) 5 4 (fld v 5 4) s
  let s := if fld v 1 0 = 3 then s else wf (laneReg l 0x40) 1 0 (fld v 1 0) s
  if rb s (laneReg l 0x40) 3 then s else
    putLaneBit l 13 false (setLane l { lane l s with prbs := { (lane l s).prbs with chk := 0, taken := 0, run := 0, win := [] } } s)

theorem keepsUp_prbsStored (l : Nat) (v : Word) (s : State) : KeepsUp l s (prbsStored l v s) := by
  have reg (w : Word) (t : State) : KeepsUp l t (wr (laneReg l 0x40) w t) := keepsUp_wr l w t (by simp [upRegs])
  exact (((reg _ s).trans (.ite _ (.refl l _) (reg _ _))).trans (.ite _ (.refl l _) (reg _ _))).trans
    (.ite _ (.refl l _) ((keepsUp_setLane l l _ _).trans (keepsUp_putLaneBit l false _ (by decide) (by decide))))

/-- PAT is written 0b01 or 0b10 in UP (R72). -/
theorem prbsCtlWrite_up {l : Nat} {v : Word} {s : State} (st : laneState l s = 6) (pat : fld v 1 0 = 1 ∨ fld v 1 0 = 2) :
    prbsCtlWrite l v s = linkDown l 7 (prbsStored l v s) := by
  have e : prbsCtlWrite l v s = if fld v 1 0 = 1 || fld v 1 0 = 2 then
      if laneState l (prbsStored l v s) = 0 then prbsStored l v s else linkDown l 7 (prbsStored l v s)
    else if laneState l (prbsStored l v s) = 7 && fld v 1 0 = 0 then toDetect l (prbsStored l v s) else prbsStored l v s := rfl
  rw [e, (keepsUp_prbsStored l v s).state, st, if_pos (by simpa using pat), if_neg (by decide)]

/-! ## Commas -/

/-- The blocks up to the place of the next comma have arrived (R61). -/
def commaDue (l : Nat) (s : State) : State := setLane l { lane l s with pos := some 4095 } s

/-- A comma at its place is noted in LANE_PARTNER, and blocks are counted from it (R59, R61). -/
def commaNoted (l typ : Nat) (s : State) : State :=
  wr (laneReg l 0x00C) (w32 typ) (setLane l { lane l s with pos := some 0, missRun := 0 } s)

theorem onlyLane_commaNoted (l typ : Nat) (s : State) : OnlyLane [laneReg l 0x00C] s (commaNoted l typ (commaDue l s)) :=
  (onlyLane_setLane _ l _ s).trans ((onlyLane_setLane _ l _ _).trans (onlyLane_wr _ _ (by simp)))

theorem keepsUp_commaNoted (l typ : Nat) (s : State) : KeepsUp l s (commaNoted l typ (commaDue l s)) :=
  keepsUp_of_onlyLane (onlyLane_commaNoted l typ s) (by simp [upRegs])

theorem lane_commaNoted (l typ : Nat) (s : State) :
    lane l (commaNoted l typ (commaDue l s)) = { lane l s with pos := some 0, missRun := 0 } := by
  rw [commaNoted, lane_wr, lane_setLane_same, commaDue, lane_setLane_same]

/-- A comma that arrives at its place under both locks (R61). -/
theorem commaReceive_due {l : Nat} {b : Block} {typ p gap : Nat} (blocks : Nat) {s : State} (rx : laneRx l s = true)
    (lock : sfLock l s = true) (pos : (lane l s).pos = some p) (due : p + gap = 4095) (comma : commaOf b = some typ) :
    commaReceive l b gap blocks s = commaTrain l typ (commaNoted l typ (commaDue l s)) := by
  have passed : passBlocks l gap s = commaDue l s := by simp [passBlocks, pos, due, commaDue]
  have rx' : laneRx l (commaDue l s) = true := rx
  have lock' : sfLock l (commaDue l s) = true := lock
  have pos' : (lane l (commaDue l s)).pos = some 4095 := by rw [commaDue, lane_setLane_same]
  have noted : sfLock l (commaNoted l typ (commaDue l s)) = true := by
    rw [sfLock, laneBit, rb, (onlyLane_commaNoted l typ s).2 _ (by simp)]
    exact lock
  have placed : commaAt l typ (commaDue l s) = commaTrain l typ (commaNoted l typ (commaDue l s)) := by
    rw [commaNoted] at noted ⊢
    simp [commaAt, lock', pos', noted]
  simp [commaReceive, rx, passed, rx', comma, placed]

theorem commaTrain_up {l typ : Nat} {s : State} (st : laneState l s = 6) (stage : typ / 2 % 4 ≠ 2) :
    commaTrain l typ s = linkDown l 8 s := by
  simp [commaTrain, st, stage]

theorem commaTrain_up_stays {l typ : Nat} {s : State} (st : laneState l s = 6) (stage : typ / 2 % 4 = 2) :
    commaTrain l typ s = s := by
  simp [commaTrain, st, stage]

/-! ## The statement -/

/-- Settles O30: each command comes to `linkDown` from a state that keeps what link-down depends on. -/
theorem laneLeavesUp : Obligations.LaneLeavesUp := by
  intro s l up st en
  have hl := l.isLt
  have st' : laneState l s.alone = 6 := st
  have en' : rb s.alone (laneReg l 0) 0 = true := en
  have coded : laneCoded l s.alone = true := laneCoded_of_state st' (by decide) (by decide)
  have rx (lock : blockLock l s = true) : laneRx l s.alone = true := laneRx_of_state st' (by decide) (by decide) lock
  have leaves {c : Instr} {cause : Nat} {t : State} (n7 : cause ≠ 7) (does : Does c s (linkDown l cause t)) (k : KeepsUp l s.alone t) :
      Ends c s (LeftUp l cause 1 s) := by
    have left := k.left cause hl st'
    rw [if_neg n7, en'] at left
    exact ⟨_, does, left⟩
  have headers (h : BitVec 2) (hi : Bool) (lock : blockLock l s = true) (bad : 15 ≤ (lane l s).winBad) (inv : syncOk h = false) :
      ∀ c ∈ [Instr.blockLockLoss l [h], Instr.invalidSyncHeader l hi], Ends c s (LeftUp l 2 1 s) := by
    intro c mem
    have counted : KeepsUp l s.alone (bump (laneReg l 0x020) 1 s.alone) := keepsUp_wr l _ _ (by simp [upRegs])
    have does := blockLockEnds_does hi up coded lock bad inv c mem
    rw [blockLockEnds_up (counted.state.trans st')] at does
    exact leaves (by decide) does counted
  refine ⟨fun sig => ?signal, fun h lock bad inv => ?header, fun hi lock bad => ?invalid, fun p n lock sf pos passed third => ?superframe,
    fun b lock data fill => ?full, fun lock frame fill => ?empty, ?disable, ?retrain, fun v pat => ?pattern,
    fun b typ p gap blocks lock sf pos due comma stage => ?comma⟩
  case signal =>
    exact leaves (by decide) (laneSignalLoss_up sig st' ▸ coreCmd_up (laneSignalLoss l sig) s up) (keepsUp_signalCleared l sig _)
  case header => exact headers h true lock bad inv _ (by simp)
  case invalid => exact headers 0b00#2 hi lock bad (by decide) _ (by simp)
  case superframe =>
    have e := sfLockLoss_third (s := s.alone) (rx lock) st' sf pos passed third
    exact leaves (by decide) (e ▸ coreCmd_up (sfLockLoss l n) s up) (keepsUp_wr l _ _ (by simp [upRegs]))
  case full =>
    have e := bufMove_fills (s := s.alone) hl (rx lock) st' data fill
    exact leaves (by decide) (e ▸ coreCmd_up (bufMove l (.inp b)) s up)
      ((keepsUp_blockTaken 0 b _ hl).trans (keepsUp_elasticFailed l _ _))
  case empty =>
    have e := bufMove_empties (s := s.alone) (rx lock) st' frame fill
    exact leaves (by decide) (e ▸ coreCmd_up (bufMove l .out) s up) (keepsUp_elasticFailed l _ _)
  case comma =>
    have e := commaReceive_due (s := s.alone) blocks (rx lock) sf pos due comma
    have k := keepsUp_commaNoted l typ s.alone
    rw [commaTrain_up (k.state.trans st') stage] at e
    exact leaves (by decide) (e ▸ coreCmd_up (commaReceive l b gap blocks) s up) k
  case pattern =>
    have left := (keepsUp_prbsStored l v s.alone).left 7 hl st'
    exact ⟨_, prbsCtlWrite_up (s := s.alone) st' pat ▸ coreCmd_up (prbsCtlWrite l v) s up, left⟩
  case disable =>
    have off : bit (sansBit (laneReg l 0) 0 s.alone) 0 = false := bit_setBit_same _ 0 false (by decide)
    have left := ctlStored_left (sansBit (laneReg l 0) 0 s.alone) hl st'
    rw [off] at left
    have e := laneCtlWrite_disable en' off
    exact ⟨_, e ▸ coreCmd_up (fun t => laneCtlWrite l (sansBit (laneReg l 0) 0 t) t) s up, left⟩
  case retrain =>
    have on : bit (withBit (laneReg l 0) 1 s.alone) 0 = true := (bit_setBit_other _ true (by decide) (by decide)).trans en'
    have retrain : bit (withBit (laneReg l 0) 1 s.alone) 1 = true := bit_setBit_same _ 1 true (by decide)
    have left := ctlStored_left (withBit (laneReg l 0) 1 s.alone) hl st'
    rw [on] at left
    have e := laneCtlWrite_retrain en' on retrain
    exact ⟨_, e ▸ coreCmd_up (fun t => laneCtlWrite l (withBit (laneReg l 0) 1 t) t) s up, left⟩

end Sys2Proof.Proofs
end

section
/-! SUPPORT. Enabling a lane (R63), the checker of the test patterns (R73), and the statements of the line code. -/
namespace Sys2Proof.Proofs
open Sys2Proof Sys2Proof.Machine Sys2Proof.Laws

/-! ## The checker -/

/-- Sending a bit of the pattern changes the lane's record alone. -/
theorem prbsSend_regs (l : Nat) (s : State) (k : Nat) : rd (prbsSend l s) k = rd s k := by
  unfold prbsSend
  split <;> rfl

/-- The generator does not touch the checker. -/
theorem prbsSend_checker (l : Nat) (s : State) :
    (lane l (prbsSend l s)).prbsHi = (lane l s).prbsHi ∧ (lane l (prbsSend l s)).prbs.chk = (lane l s).prbs.chk := by
  unfold prbsSend
  split
  · dsimp only
    rw [lane_setLane_same]
    exact ⟨rfl, rfl⟩
  · exact ⟨rfl, rfl⟩

/-- The bits compared, one more included (R73). -/
def prbsTotal (l : Nat) (s : State) : Nat := (lane l s).prbsHi.toNat * 4294967296 + (rd s (laneReg l 0x48)).toNat + 1

theorem prbsTotal_alone (l : Nat) (s : State) : prbsTotal l s.alone = prbsTotal l s := by
  have record : lane l s.alone = lane l s := rfl
  rw [prbsTotal, record, rd_alone, prbsTotal]

/-- What one compared bit leaves where `n` bits have been compared: both words of the count, the errors, and every register but
these and LANE_STATUS (R73). -/
structure Compared (l n : Nat) (err : Bool) (s t : State) : Prop where
  lo   : rd t (laneReg l 0x048) = w32 n
  hi   : (lane l t).prbsHi = w32 (n / 4294967296)
  errs : rd t (laneReg l 0x044) = satAdd (rd s (laneReg l 0x044)) (b2n err)
  keep : RegsKeep [laneReg l 0x004, laneReg l 0x044, laneReg l 0x048] s t

/-- The counts hold `n` bits compared, and one mismatch more if `err`. -/
def prbsCounted (l n : Nat) (err : Bool) (s : State) : State :=
  bump (laneReg l 0x44) (b2n err) (wr (laneReg l 0x48) (w32 n) (setLane l { lane l s with prbsHi := w32 (n / 4294967296) } s))

theorem prbsCount_eq (l : Nat) (err : Bool) (s : State) : prbsCount l err s = prbsCounted l (prbsTotal l s) err s := rfl

theorem prbsCounted_compared (l n : Nat) (err : Bool) (s : State) : Compared l n err s (prbsCounted l n err s) where
  lo := by
    rw [prbsCounted, rd_bump_other _ _ (by simp), rd_wr_same]
  hi := by
    rw [prbsCounted, bump, lane_wr, lane_wr, lane_setLane_same]
  errs := by
    rw [prbsCounted, rd_bump_same, rd_wr_other _ _ (by simp), rd_setLane]
  keep k h := by
    simp only [List.mem_cons, List.not_mem_nil, or_false, not_or] at h
    obtain ⟨-, n44, n48⟩ := h
    rw [prbsCounted, rd_bump_other _ _ n44, rd_wr_other _ _ n48, rd_setLane]

/-- Losing lock or going on, the checker changes its own record and LANE_STATUS. -/
theorem Compared.goesOn {l n : Nat} {err : Bool} {s t : State} (c : Compared l n err s t) (p : PrbsSt) (drop : Bool) :
    Compared l n err s (if drop then putLaneBit l 13 false (setLane l { lane l t with prbs := p } t)
      else setLane l { lane l t with prbs := p } t) := by
  have record : (lane l (setLane l { lane l t with prbs := p } t)).prbsHi = (lane l t).prbsHi := by rw [lane_setLane_same]
  cases drop
  case false => exact ⟨c.lo, record.trans c.hi, c.errs, c.keep⟩
  case true =>
    have reg {k : Nat} (h : k ≠ laneReg l 0x004) : rd (putLaneBit l 13 false (setLane l { lane l t with prbs := p } t)) k = rd t k :=
      rd_wb_other _ _ _ h
    refine ⟨(reg (by simp)).trans c.lo, record.trans c.hi, (reg (by simp)).trans c.errs, fun k h => (reg ?_).trans (c.keep k h)⟩
    rintro rfl
    simp at h

theorem prbsLocked_compared (l : Nat) (b : Bool) (s : State) :
    Compared l (prbsTotal l s) (prbsNext (rf s (laneReg l 0x40) 1 0) (lane l s).prbs.chk != b) s (prbsLocked l b s) := by
  have c := prbsCounted_compared l (prbsTotal l s) (prbsNext (rf s (laneReg l 0x40) 1 0) (lane l s).prbs.chk != b) s
  unfold prbsLocked
  simp only [prbsCount_eq]
  split
  · exact c.goesOn _ true
  · exact c.goesOn _ false

/-- A bit that the checker with lock receives (R73). -/
theorem prbsBit_compared {l : Nat} (b : Bool) {s : State} (checks : prbsChecks l s = true) (lock : laneBit l 13 s = true) :
    Compared l (prbsTotal l s) (prbsNext (rf s (laneReg l 0x40) 1 0) (lane l s).prbs.chk != b) s (prbsBit l b s) := by
  have reg := prbsSend_regs l s
  obtain ⟨hi, chk⟩ := prbsSend_checker l s
  have checks' : prbsChecks l (prbsSend l s) = true := by rwa [prbsChecks, laneState, rf, rb, reg, reg]
  have lock' : laneBit l 13 (prbsSend l s) = true := by rwa [laneBit, rb, reg]
  have e : prbsBit l b s = prbsLocked l b (prbsSend l s) := by simp [prbsBit, checks', lock']
  have total : prbsTotal l (prbsSend l s) = prbsTotal l s := by rw [prbsTotal, hi, reg, prbsTotal]
  have c := prbsLocked_compared l b (prbsSend l s)
  rw [rf, reg, chk, total] at c
  rw [e]
  exact ⟨c.lo, c.hi, by rw [c.errs, reg]; rfl, fun k h => (c.keep k h).trans (reg k)⟩

/-! ## The statements -/

/-- Settles O31: LINK_EN written 1 starts the lane over, `prbsBit_compared` says what a bit counts, and the read captures the high
word. -/
theorem laneStartsAndTests : Obligations.LaneStartsAndTests := by
  intro s l up
  have on : bit (withBit (laneReg l 0) 0 s.alone) 0 = true := bit_setBit_same _ 0 true (by decide)
  generalize hv : withBit (laneReg l 0) 0 s.alone = v at on
  have enable : Does (.laneLinkEnable l) s (laneCtlWrite l v s.alone) :=
    hv ▸ coreCmd_up (fun t => laneCtlWrite l (withBit (laneReg l 0) 0 t) t) s up
  have stored := onlyLane_ctlStored l v s.alone
  have en : rb (ctlStored l v s.alone) (laneReg l 0) 0 = true := (linkEn_ctlStored l v s.alone).trans on
  refine ⟨fun _ was pat => ?detect, fun _ was pat => ?prbs, ?read, fun b checks lock => ?count⟩
  case detect =>
    have frame := (stored.mono (js := laneReg l 0 :: startRegs l) (by simp [startRegs])).trans
      ((onlyLane_toDetect l (ctlStored l v s.alone)).mono (List.subset_cons_self _ _))
    have keep : rb (toDetect l (ctlStored l v s.alone)) (laneReg l 0) 0 = true := by
      rw [rb, (onlyLane_toDetect l _).2 _ (by simp [startRegs])]; exact en
    rw [laneCtlWrite_enable (s := s.alone) was on, rf_alone, if_neg (not_not.mpr pat)] at enable
    exact ⟨_, enable, by rw [laneState_toDetect, en]; rfl, keep, frame.2⟩
  case prbs =>
    have started := onlyLane_toPrbs l (ctlStored l v s.alone)
    have keep : rb (toPrbs l (ctlStored l v s.alone)) (laneReg l 0) 0 = true := by
      rw [rb, started.2 _ (by simp [startRegs, prbsRegs])]; exact en
    have zero := toPrbs_counts l (ctlStored l v s.alone)
    rw [laneCtlWrite_enable (s := s.alone) was on, rf_alone, if_pos pat] at enable
    refine ⟨_, enable, laneState_toPrbs l _, keep, zero _ (by simp [prbsRegs]), zero _ (by simp [prbsRegs]), zero _ (by simp [prbsRegs]),
      fun k h => ?_⟩
    simp only [List.mem_cons, List.not_mem_nil, or_false, not_or] at h
    rw [started.2 k (by simpa [startRegs, prbsRegs] using h.2), rd_fresh, stored.2 k (by simp [h])]
    rfl
  case read =>
    exact ⟨_, coreCmd_up (fun t => prbsLoRead l (prbsBits l [] t)) s up, rd_wr_same _ _ _, fun k h => rd_wr_other _ _ (by simpa using h)⟩
  case count =>
    have c := prbsBit_compared (s := s.alone) b checks lock
    rw [prbsTotal_alone] at c
    have other {k : Nat} (h : k ≠ laneReg l 0x4C) : rd (prbsLoRead l (prbsBit l b s.alone)) k = rd (prbsBit l b s.alone) k :=
      rd_wr_other _ _ h
    have lo := (other (by simp)).trans c.lo
    have hi : rd (prbsLoRead l (prbsBit l b s.alone)) (laneReg l 0x4C) = w32 (prbsTotal l s / 4294967296) := (rd_wr_same _ _ _).trans c.hi
    have errs := (other (by simp)).trans c.errs
    unfold prbsTotal at lo hi
    refine ⟨_, coreCmd_up (fun t => prbsLoRead l (prbsBits l [b] t)) s up, lo, hi, errs, fun k h => ?_⟩
    simp only [List.mem_cons, List.not_mem_nil, or_false, not_or] at h
    obtain ⟨n4, n44, n48, n4C⟩ := h
    exact (other n4C).trans (c.keep k (by simp [n4, n44, n48]))

/-- Settles O32: the descrambler undoes the scrambler bit by bit, `commaOf` tests the header, the pattern and the type byte, and in
UP a comma with STAGE = UP is only noted. -/
theorem lineCodeRoundTrips : Obligations.LineCodeRoundTrips := by
  refine ⟨fun st b => ⟨scrambleBlk_hdr st b, descrambleBlk_scrambleBlk st b, fun x => descrambleBlk_synchronises x st b⟩,
    commaOf_eq_some_iff, fun s l b typ up st lock sf pos comma stage => ?_⟩
  have st' : laneState l s.alone = 6 := st
  have rx : laneRx l s.alone = true := laneRx_of_state st' (by decide) (by decide) lock
  have e := commaReceive_due (gap := 0) (s := s.alone) 0 rx sf pos (by decide) comma
  rw [commaTrain_up_stays ((keepsUp_commaNoted l typ s.alone).state.trans st') stage] at e
  have does : Does (.commaReceive l b 0 0) s (commaReceive l b 0 0 s.alone) := coreCmd_up _ s up
  rw [e] at does
  have frame := onlyLane_commaNoted l typ s.alone
  have record : lane l (commaNoted l typ (commaDue l s.alone)) = { lane l s with pos := some 0, missRun := 0 } :=
    lane_commaNoted l typ s.alone
  refine ⟨_, does, rd_wr_same _ _ _, frame.2, frame.ring, ?_, ?_, ?_⟩ <;> rw [record]

end Sys2Proof.Proofs
end

section
/-! SUPPORT. The commands of the Makadom ring, and a node's pair in RING_SEEN (R122). -/
namespace Sys2Proof.Proofs
open Sys2Proof Sys2Proof.Machine Sys2Proof.Laws

/-! ## Every command -/

/-- Settles O10: the operations of frames, lanes and credits run in the ring core, all others in the hub. -/
theorem ringCommandsComplete : Obligations.RingCommandsComplete := by
  intro s
  have core {f : State → State} (up : s.coreUp) : coreCmd f s = .next (carryOn (f s.alone) s) := coreCmd_up f s up
  have hub {f : State → State} (up : s.hubUp) : hubCmd f s = .next (carryOn (f s.alone) s) := hubCmd_up f s up
  exact ⟨fun l f => coreCmd_up (fun t => if isLinkLocal f then linkLocal l f t else headerArrival l f t) s, fun _ _ _ => core,
    fun _ _ => core, fun _ _ => core, fun _ _ => core, fun _ => core, fun _ _ => core, fun _ => core, fun _ => hub, fun _ => hub,
    fun _ => hub, fun _ _ => hub, fun _ _ => hub, fun _ => hub, fun _ => hub, hub, fun _ _ => hub, fun _ _ => hub, fun _ => hub⟩

/-! ## A node's pair in RING_SEEN -/

theorem seenOn_putSeen_same (n : Nat) {r : Nat} (b : Bool) (s : State) (hr : r < 2) : seenOn n r (putSeen n r b s) = b :=
  rb_wb_same _ _ b s (by omega)

/-- Another bit stands in another register, or elsewhere in the same one. -/
theorem seenOn_putSeen_other {n r m q : Nat} (b : Bool) (s : State) (hr : r < 2) (hq : q < 2) (ne : (m, q) ≠ (n, r)) :
    seenOn m q (putSeen n r b s) = seenOn m q s := by
  by_cases reg : m / 16 = n / 16
  · have bits : 2 * (m % 16) + q ≠ 2 * (n % 16) + r := fun h => ne (by ext <;> simp only <;> omega)
    rw [seenOn, putSeen, reg, rb_wb_other _ _ _ b s (by omega) bits, seenOn, reg]
  · have regs : ringReg (0x100 + 4 * (m / 16)) ≠ ringReg (0x100 + 4 * (n / 16)) := by simp only [ringReg]; omega
    rw [seenOn, putSeen, rb, rd_wb_other _ _ _ regs, seenOn, rb]

/-- Another node whose bit changes has the bit written and notice 0x22 ordered (R115, R122). -/
theorem seenChange_changes {n r : Nat} {b : Bool} {s : State} (n0 : n ≠ 0) (n255 : n ≠ 255) (other : n ≠ ownNode s)
    (seen : seenOn n r s = !b) :
    seenChange n r b s = notify 2 0x22 0 (w32 (n % 256 * 256 + seenPair n (putSeen n r b s))) (putSeen n r b s) := by
  simp [seenChange, n0, n255, other, seen]

/-- Settles O35: the timeout comes to `seenChange`, which writes one bit of one register and orders the notice. -/
theorem silentNodeIsUnseen : Obligations.SilentNodeIsUnseen := by
  intro s n r up n0 n255 other seen
  have does : Does (.ringSeenTimeout n r) s (seenChange n r false s.alone) := hubCmd_up (seenChange n r false) s up
  rw [seenChange_changes (s := s.alone) n0 n255 other seen, Nat.mod_eq_of_lt n.isLt] at does
  exact ⟨_, does, seenOn_putSeen_same n false s.alone r.isLt,
    fun m q _ hq ne => seenOn_putSeen_other false s.alone r.isLt hq ne, (onlyRegs_wb _ _ false s.alone).2, rfl⟩

end Sys2Proof.Proofs
end

section
/-! SUPPORT. The duplicate filter (R98): a SEQ marked in the window of its source is judged a duplicate, whichever way the window was
marked. -/
namespace Sys2Proof.Proofs
open Sys2Proof Sys2Proof.Machine Sys2Proof.Laws

/-! ## Distances of SEQ numbers -/

/-- How far SEQ `b` is ahead of SEQ `a`. -/
def seqAhead (a b : Nat) : Nat := (b + 65536 - a) % 65536

/-- SEQ `q` slides the window whose newest SEQ is `h`. -/
def slides (h q : Nat) : Bool := 1 ≤ seqAhead h q && seqAhead h q ≤ 32767

@[simp] theorem seqAhead_self (a : Nat) : seqAhead a a = 0 := by
  simp only [seqAhead]
  omega

@[simp] theorem not_slides_self (a : Nat) : slides a a = false := by simp [slides]

/-! ## What the window says of a SEQ -/

section
variable {src q : Nat} {w : Win} {s : State}

theorem judge_gap (gap : src ∈ s.ring.discard) : judge src q s = .gap := by simp [judge, gap]

/-- A SEQ slides the window of its source, has its bit there, or is too old (R98). -/
theorem judge_of_win (known : src ∉ s.ring.discard) (win : winOf src s = some w) :
    judge src q s = if slides w.h q then .fresh else if seqAhead q w.h ≤ 4095 then
      (if bitOf w.seen (seqAhead q w.h) then .dup else .fresh) else .late := by
  have heard : s.ring.discard.contains src = false := by simpa using known
  rw [judge, heard, if_neg Bool.false_ne_true, win]
  rfl

/-- A SEQ whose bit stands in the window is a duplicate. -/
theorem judge_marked (known : src ∉ s.ring.discard) (win : winOf src s = some w) (behind : slides w.h q = false)
    (near : seqAhead q w.h ≤ 4095) (mark : w.seen.testBit (seqAhead q w.h) = true) : judge src q s = .dup := by
  rw [judge_of_win known win, behind, if_neg (by decide), if_pos near, bitOf_testBit, if_pos mark]

/-- The window `w` with SEQ `q` marked. -/
def winMarked (q : Nat) (w : Win) : Win :=
  if slides w.h q then ⟨q, (w.seen * 2 ^ seqAhead w.h q + 1) % 2 ^ 4096⟩ else ⟨w.h, w.seen ||| 2 ^ seqAhead q w.h⟩

/-- Marking opens an empty window at the SEQ, and marks it in one that stands. -/
theorem winOf_markWin : winOf src (markWin src q s) = some (((winOf src s).map (winMarked q)).getD ⟨q, 1⟩) := by
  have put (v : Option Win) : winOf src (setRing { s.ring with wins := tset (fun _ => none) s.ring.wins src v } s) = v :=
    tget_tset_same _ _ _ v
  rw [markWin, put]
  cases winOf src s with
  | none => rfl
  | some w =>
    rw [Option.map_some, Option.getD_some]
    unfold winMarked slides seqAhead
    rfl

/-- A slid window has the bit of its newest SEQ. -/
theorem testBit_slid (n : Nat) {a : Nat} (h : 1 ≤ a) : ((n * 2 ^ a + 1) % 2 ^ 4096).testBit 0 = true := by
  obtain ⟨b, rfl⟩ := Nat.exists_eq_add_of_le' h
  have odd : n * 2 ^ (b + 1) + 1 = 2 * (n * 2 ^ b) + 1 := by ring
  rw [Nat.testBit_mod_two_pow, odd]
  simp

/-- A SEQ found fresh is a duplicate once it is marked: it is then the newest of the window, or its bit is set there. -/
theorem judge_markWin (fresh : judge src q s = .fresh) : judge src q (markWin src q s) = .dup := by
  have before : src ∉ s.ring.discard := fun gap => by
    rw [judge_gap gap] at fresh
    cases fresh
  have known : src ∉ (markWin src q s).ring.discard := before
  have after := winOf_markWin (src := src) (q := q) (s := s)
  cases win : winOf src s with
  | none =>
    rw [win] at after
    exact judge_marked known after (by simp) (by simp) (by simp)
  | some w =>
    rw [win, Option.map_some, Option.getD_some, winMarked] at after
    cases ahead : slides w.h q with
    | true =>
      have one : 1 ≤ seqAhead w.h q := by
        simp only [slides, Bool.and_eq_true, decide_eq_true_eq] at ahead
        exact ahead.1
      rw [if_pos ahead] at after
      exact judge_marked known after (by simp) (by simp) (by rw [seqAhead_self]; exact testBit_slid w.seen one)
    | false =>
      have near : seqAhead q w.h ≤ 4095 := by
        by_contra far
        rw [judge_of_win before win, ahead, if_neg (by decide), if_neg far] at fresh
        cases fresh
      rw [if_neg (by simp [ahead])] at after
      exact judge_marked known after ahead near (by simp)
end

/-! ## The filter -/

/-- A copy is accepted only when its SEQ is fresh, and its SEQ is then marked. -/
theorem dupFilter_accepts {r : Nat} {f : Frame} {ok : Bool} {s : State} (filtered : f.single = false)
    (acc : (dupFilter r f ok s).1 = true) : judge f.src (f.seq % 65536) s = .fresh ∧
      (dupFilter r f ok s).2 = cntRing 0x048 r 1 (markWin f.src (f.seq % 65536) s) := by
  cases h : judge f.src (f.seq % 65536) s <;> cases ok <;> simp_all [dupFilter]

theorem dupFilter_dup {r : Nat} {f : Frame} {s : State} (ok : Bool) (filtered : f.single = false)
    (dup : judge f.src (f.seq % 65536) s = .dup) : dupFilter r f ok s = (false, cntRing 0x050 r 1 s) := by
  simp [dupFilter, filtered, dup]

/-- A copy judged bad is not accepted, and whatever the filter says of it, no window changes. -/
theorem dupFilter_bad (r : Nat) {f : Frame} (s : State) (filtered : f.single = false) :
    (dupFilter r f false s).1 = false ∧ (dupFilter r f false s).2.ring = s.ring := by
  cases h : judge f.src (f.seq % 65536) s <;> simp [dupFilter, filtered, h, cntRing]

/-- Settles O34: an accepted copy has its SEQ marked, and a marked SEQ is a duplicate on both rings. -/
theorem duplicatesAcceptedOnce : Obligations.DuplicatesAcceptedOnce := by
  intro s r r' f ok filtered
  refine ⟨fun acc => ?_, dupFilter_bad r s filtered⟩
  obtain ⟨fresh, marked⟩ := dupFilter_accepts filtered acc
  have dup : judge f.src (f.seq % 65536) (cntRing 0x048 r 1 (markWin f.src (f.seq % 65536) s)) = .dup := judge_markWin fresh
  rw [marked]
  exact dupFilter_dup ok filtered dup

end Sys2Proof.Proofs
end

section
/-! SUPPORT. The commands of fabric transactions, PCIe and the SPI target, and the outcome byte of the SPI target
(R156). -/
namespace Sys2Proof.Proofs
open Sys2Proof Sys2Proof.Machine Sys2Proof.Laws

/-! ## Every command -/

/-- Settles O11: a request that arrives on the ring is taken in by the ring core, all other operations run in the hub. -/
theorem transactionCommandsComplete : Obligations.TransactionCommandsComplete := by
  intro s
  have core {f : State → State} (up : s.coreUp) : coreCmd f s = .next (carryOn (f s.alone) s) := coreCmd_up f s up
  have hub {f : State → State} (up : s.hubUp) : hubCmd f s = .next (carryOn (f s.alone) s) := hubCmd_up f s up
  exact ⟨fun _ _ => hub, fun _ _ => hub, fun _ => hub, fun _ _ => hub, hub, fun _ _ _ => hub, fun _ _ => hub, fun _ _ _ _ => hub,
    fun _ _ _ => hub, hub, fun _ _ => hub, fun _ _ => core, fun _ _ => core, fun _ _ => core, fun _ _ => hub, fun _ _ => hub,
    fun _ _ => hub, fun own t => hubCmd_up (fun u => (if own then ownRetry t else busyRetry t) u) s,
    fun own t => hubCmd_up (fun u => (if own then ownBusyEnd t else completionTimeout t) u) s, fun _ => hub⟩

/-! ## The outcome byte of the SPI target -/

theorem b2n_le_one (b : Bool) : b2n b ≤ 1 := by cases b <;> decide

theorem code_le_nine (st : Status) : st.code ≤ 9 := by cases st <;> decide

/-- The parts of the outcome byte do not overlap, so its value is their sum. -/
theorem spiStatusByte_toNat (s : State) : (spiStatusByte s).toNat =
    b2n (!s.tx.spi.writes.isEmpty) * 128 + b2n s.tx.spi.badCrc * 64 + b2n s.tx.spi.partial_ * 32 + s.tx.spi.first.code := by
  have pending := b2n_le_one (!s.tx.spi.writes.isEmpty)
  have crc := b2n_le_one s.tx.spi.badCrc
  have part := b2n_le_one s.tx.spi.partial_
  have code := code_le_nine s.tx.spi.first
  rw [spiStatusByte, BitVec.toNat_ofNat, Nat.mod_eq_of_lt (by omega)]

theorem getLsbD_of_div {x : Byte} {i : Nat} {b : Bool} (h : x.toNat / 2 ^ i % 2 = b2n b) : x.getLsbD i = b := by
  rw [BitVec.getLsbD, Nat.testBit_eq_decide_div_mod_eq, h]
  cases b <;> rfl

/-- A byte with three flags in bits [7:5] over a number below 16 shows each of them, and the number in bits [3:0]. -/
theorem flags_of_toNat {x : Byte} {a b c : Bool} {n : Nat} (hn : n < 16) (h : x.toNat = b2n a * 128 + b2n b * 64 + b2n c * 32 + n) :
    x.getLsbD 7 = a ∧ x.getLsbD 6 = b ∧ x.getLsbD 5 = c ∧ x.getLsbD 4 = false ∧ x.toNat % 16 = n := by
  have ha := b2n_le_one a
  have hb := b2n_le_one b
  have hc := b2n_le_one c
  have zero : b2n false = 0 := rfl
  exact ⟨getLsbD_of_div (by omega), getLsbD_of_div (by omega), getLsbD_of_div (by omega), getLsbD_of_div (by omega), by omega⟩

/-- Settles O38: the byte shifted out is the outcome byte, whose parts stand at places of their own. -/
theorem spiStatusByte : Obligations.SpiStatusByte := by
  intro s up
  have code := code_le_nine s.tx.spi.first
  exact ⟨spiStatusRead s.alone, hubCmd_up spiStatusRead s up, rfl, Machine.spiStatusByte s.alone, rfl,
    flags_of_toNat (by omega) (spiStatusByte_toNat s)⟩

end Sys2Proof.Proofs
end

section
/-! SUPPORT. The registers that the ring may not write (R144): how its write of one is refused, and how pair K's is not. -/
namespace Sys2Proof.Proofs
open Sys2Proof Sys2Proof.Machine Sys2Proof.Laws

/-- An aligned word is the only one that an access of 4 bytes covers. -/
theorem accWords_aligned {k : Nat} (kind : AccKind) (d : List Byte) (al : k % 4 = 0) : accWords ⟨kind, k, 4, d⟩ = [k] := by
  have one : ceilDiv (k % 4 + 4) 4 = 1 := by simp [ceilDiv, al]
  have base : k / 4 * 4 = k := by omega
  simp [accWords, one, base]

/-- A write of a local-only register from the ring is refused whatever the permission tables hold (R144). -/
theorem denied_localOnly {k : Nat} (src tag : Nat) (d : List Byte) (s : State) (al : k % 4 = 0) (loc : localOnly k = true) :
    denied (.ring src tag) ⟨.wrN, k, 4, d⟩ s = true := by
  simp [denied, ringSide, accWords_aligned .wrN d al, loc]

/-- R144 refuses no read: one from the ring that the tables permit is not refused (R143). -/
theorem denied_read_permitted {src : Nat} (tag : Nat) {a : Access} {s : State} (read : a.kind = .rd) (perm : permitted src a s = true) :
    denied (.ring src tag) a s = false := by
  simp [denied, ringSide, orgNode, perm, read]

theorem serve_denied {o : Origin} {a : Access} {s : State} (up : s.hubUp) (ic : s.hub.icBad = false) (non : denied o a s = true) :
    serve o a s = answer o a .denied [] (if a.kind = .wrP then s else bump hubCntDenied 1 s) := by
  obtain ⟨lpor, rst⟩ := up
  simp [serve, lpor, rst, ic, non]

/-- A WR_N of a local-only register from the ring counts a denial, and its requester is told by a CPL with status DENIED (R127, R139). -/
theorem serve_ring_localOnly {k : Nat} (src tag : Nat) (d : List Byte) {s : State} (up : s.hubUp) (ic : s.hub.icBad = false)
    (al : k % 4 = 0) (loc : localOnly k = true) : serve (.ring src tag) ⟨.wrN, k, 4, d⟩ s =
      (originate (mkFrame src 3 1 tag 3 []) (sinkFree src tag (unserve (.ring src tag) (bump hubCntDenied 1 s)))).2 := by
  rw [serve_denied up ic (denied_localOnly src tag d s al loc)]
  rfl

/-- A completion to the ring, its sink entry freed, writes registers of the ring alone (R97, R127). -/
theorem keepsLow_ringAnswer (f : Frame) (src tag : Nat) (o : Origin) (s : State) :
    KeepsLow s (originate f (sinkFree src tag (unserve o s))).2 :=
  (keepsLow_of_regs rfl rfl : KeepsLow s (sinkFree src tag (unserve o s))).trans (keepsLow_originate f _)

/-- A configuration command has pair K write a plain word of the map, with status OK (R459). -/
theorem cfgPut_plain {k : Nat} (who v : Word) (s : State) (hk : PlainWord k) :
    cfgPut who k v s = (.ok, writeReg .pairK who k v s) := by
  obtain ⟨-, -, -, -, comp⟩ := plain_place hk
  have low : ¬ 2 ^ 40 ≤ k := by have := hk.place; omega
  rw [cfgPut, if_neg (by simp [hk.aligned]), if_neg low, if_neg (by simp [comp]), regServe_word .wrN _ hk, if_neg (by decide),
    regWrite_word hk]
  rfl

/-- A known offset of the hub's page is a plain word. -/
theorem plainWord_of_known {k : Nat} (al : k % 4 = 0) (low : k < 0x10000) (mapped : known k = true) : PlainWord k := by
  have kc : isKcArea k = false := by simp [isKcArea]; omega
  exact ⟨al, by simpa [known, kc] using mapped, .inl low⟩

/-- The registers of R144 in the hub's page: aligned words below 0x800. -/
theorem localOnly_hubWord {k : Nat} (hk : k = hubApSel ∨ k = hubPrmCtl ∨ (0x400 ≤ k ∧ k < 0x800 ∧ k % 4 = 0)) :
    k % 4 = 0 ∧ k < 0x800 ∧ localOnly k = true := by
  obtain rfl | rfl | ⟨ge, lt, al⟩ := hk
  · decide
  · decide
  · exact ⟨al, lt, by simp [localOnly, ge, lt]⟩

/-- Settles O36: the refusal of R144 stands beside the permission tables and asks for a write, and pair K's own write of a register
meets neither. -/
theorem localOnlyWritesAreDenied : Obligations.LocalOnlyWritesAreDenied := by
  intro s src tag k v up ic hk
  obtain ⟨al, low, loc⟩ := localOnly_hubWord hk
  have does : Does (.registerWrite (.ring src tag) k v) s (serve (.ring src tag) ⟨.wrN, k, 4, wordBytes v⟩ s.alone) :=
    coreCmd_up _ s up.1
  rw [serve_ring_localOnly src tag _ (s := s.alone) up ic al loc] at does
  refine ⟨⟨_, does, rfl, fun j hj => ?keep⟩, denied_read_permitted tag rfl, fun who mapped => ?config⟩
  case keep =>
    have apart : j < 0x2000 ∧ j ≠ hubCntDenied := by
      simp only [hubApSel, hubPrmCtl, hubCntDenied] at hj ⊢
      omega
    rw [(keepsLow_ringAnswer _ src tag _ _).regs j apart.1, rd_bump_other _ _ apart.2, rd_alone]
  case config =>
    rw [cfgPut_plain who v s (plainWord_of_known al (by omega) mapped)]

end Sys2Proof.Proofs
end

section
/-! SUPPORT. The commands of the inkwell and its queues, and APPLY of the staged set (R171, R172). -/
namespace Sys2Proof.Proofs
open Sys2Proof Sys2Proof.Machine Sys2Proof.Laws

/-! ## Every command -/

/-- Settles O12: accesses to port windows are served in the ring core, all other operations run in the hub. -/
theorem inkwellCommandsComplete : Obligations.InkwellCommandsComplete := by
  intro s
  have core {f : State → State} (up : s.coreUp) : coreCmd f s = .next (carryOn (f s.alone) s) := coreCmd_up f s up
  have hub {f : State → State} (up : s.hubUp) : hubCmd f s = .next (carryOn (f s.alone) s) := hubCmd_up f s up
  exact ⟨hub, fun _ _ => core, fun _ _ _ => core, fun _ _ _ _ => core,
    fun q => hubCmd_up (fun t => flow ((queue q t).items.length + 8) q t) s, fun _ _ => hub, fun _ => hub, hub⟩

/-! ## The staged set -/

/-- The codes of the totals check fit INK_REASON's low byte (R172). -/
theorem totalsCheck_code_le (s : State) : (totalsCheck s).1 ≤ 0x17 := by
  unfold totalsCheck
  dsimp only
  repeat' split
  all_goals simp only [Nat.reduceLeDiff, Nat.zero_le, le_refl]

/-- INK_REASON holds the result of the totals check (R172). -/
def checkReported (s : State) : State := wr inkReason (w32 ((totalsCheck s).2 * 65536 + (totalsCheck s).1)) s

theorem checkReported_code (s : State) : rf (checkReported s) inkReason 7 0 = (totalsCheck s).1 := by
  have code := totalsCheck_code_le s
  rw [rf, checkReported, rd_wr_same, fld, bitsOf, w32, BitVec.toNat_ofNat]
  omega

theorem checkReported_keeps (s : State) : RegsKeep [inkReason] s (checkReported s) := (onlyRegs_wr inkReason _ s).2

/-- A check that passes makes the staged registers the active set (R171). -/
theorem inkApply_pass {s : State} (pass : (totalsCheck s).1 = 0) : inkApply s =
    { checkReported s with ink := { s.ink with active := tkeep isStaged (checkReported s).regs } } := by
  simp only [inkApply, pass, if_pos, checkReported]
  rfl

/-- A check that fails is reported, and nothing else changes (R171). -/
theorem inkApply_fail {s : State} (fail : (totalsCheck s).1 ≠ 0) : inkApply s = checkReported s := by
  simp only [inkApply, fail, if_false, checkReported]

/-- With no nib enabled, APPLY is the check and what follows from it. -/
theorem inkCtlWrite_apply {s : State} (idle : liveNibs s = []) : inkCtlWrite 1 s = inkApply s := by
  rw [inkCtlWrite, if_pos (by decide), idle, overUnits]

/-- INK_REASON is no staged register, so the active copy of one that is staged is what it held before the report. -/
theorem active_after_pass {k : Nat} (s : State) (staged : isStaged k = true) :
    tget resetOf (tkeep isStaged (checkReported s).regs) k = rd s k := by
  have other : k ≠ inkReason := by
    rintro rfl
    revert staged
    decide
  rw [tget_tkeep, if_pos staged]
  exact checkReported_keeps s k (by simpa using other)

/-- Settles O41: whether the check passes or fails, its result is reported; only a pass touches the active set. -/
theorem stagedSetTakesEffectWhole : Obligations.StagedSetTakesEffectWhole := by
  intro s up idle
  have does : Does .inkApply s (inkApply s.alone) := inkCtlWrite_apply (s := s.alone) idle ▸ hubCmd_up (inkCtlWrite 1) s up
  refine ⟨_, does, ?_⟩
  by_cases pass : (totalsCheck s.alone).1 = 0
  · rw [inkApply_pass pass]
    exact ⟨checkReported_code s.alone, checkReported_keeps s.alone, rfl, fun _ _ => active_after_pass s.alone,
      fun fail => absurd pass fail⟩
  · rw [inkApply_fail pass]
    exact ⟨checkReported_code s.alone, checkReported_keeps s.alone, rfl, fun h => absurd h pass, fun _ => rfl⟩

end Sys2Proof.Proofs
end

section
/-! SUPPORT. A raise of a locked source brings the node to safe state (R498, R502), and the census raises one (R184). -/
namespace Sys2Proof.Proofs
open Sys2Proof Sys2Proof.Machine Sys2Proof.Laws

/-! ## Locked sources -/

/-- Entering safe state sets HUB_STATUS.SAFE and orders the blocks into safe state (R502). -/
theorem enterSafe_shows (n : Nat) (info : Word) (s : State) :
    rb (enterSafe n info s) hubStatus 4 = true ∧ Post.safe ∈ (enterSafe n info s).post := by
  refine ⟨?_, List.mem_append_right _ (List.mem_singleton_self _)⟩
  have status (t : State) : rd (if locked n then wb fltStatus 27 true t else t) hubStatus = rd t hubStatus := by
    split
    · exact rd_wb_other _ _ _ (by decide)
    · rfl
  have blotter (t : State) : rd (blot 0x04 n info 0 0 t) hubStatus = rd t hubStatus := (onlyRaised_blot _ _ _ _ _ t).2 _ (by decide)
  have e : rd (enterSafe n info s) hubStatus = rd (wb hubStatus 4 true (wb fltStatus 28 true s)) hubStatus :=
    (blotter _).trans (status _)
  rw [rb, e]
  exact rb_wb_same hubStatus 4 true _ (by omega)

/-- A locked source is handled at node-safe whatever FLT_SEV says, so a raise of it ends with safe state entered (R498, R502). -/
theorem raise_locked_shows {n : Nat} (info : Word) {s : State} (up : s.hubUp) (known : fixedClass n ≠ none)
    (lock : locked n = true) : rb (raise n info s) hubStatus 4 = true ∧ Post.safe ∈ (raise n info s).post := by
  obtain ⟨lpor, rst⟩ := up
  obtain ⟨c, cls⟩ := Option.ne_none_iff_exists'.mp known
  have sev : severityOf n s = 3 := by rw [severityOf, if_pos lock]
  unfold raise
  rw [if_neg (by simp [lpor, rst]), cls, sev]
  exact enterSafe_shows n info _

/-! ## The census -/

theorem onlyRaised_ink {ks : List Nat} {s u : State} (h : OnlyRaised ks s u) : u.ink = s.ink :=
  congrArg (fun t => t.ink) h.1

/-- What a census that finds a cell too many or too few does before it raises FS64: the event and the notice (R184). -/
def censusTold (s : State) : State := notify 3 0x02 0 (w32 (censusSum s)) (wb inkEvt 1 true s)

theorem onlyRaised_censusTold (s : State) : OnlyRaised [inkEvt] s (censusTold s) :=
  onlyRaised_mono (onlyRaised_trans (onlyRaised_of_onlyRegs (onlyRegs_wb inkEvt 1 true s)) (onlyRaised_notify _ _ _ _ _)) (by simp)

theorem censusTold_event (s : State) : rb (censusTold s) inkEvt 1 = true := rb_wb_same inkEvt 1 true s (by omega)

theorem censusTold_notice (s : State) : Post.notice 3 0x02 0 (w32 (censusSum s)) (tb0 s) ∈ (censusTold s).post :=
  List.mem_append_right _ (List.mem_singleton_self _)

theorem census_mismatch {s : State} (off : censusSum s ≠ 32768) : census s = raise 64 (w32 (censusSum s)) (censusTold s) := by
  rw [census, if_neg off]
  rfl

/-- Settles O39: the event and the notice stand before FS64 is raised, and the raise of a locked source keeps both. -/
theorem censusRaisesOnMismatch : Obligations.CensusRaisesOnMismatch := by
  intro s up
  have does : Does .censusCheck s (census s.alone) := hubCmd_up census s up
  refine ⟨fun even => ?even, fun off => ?off⟩
  case even => rwa [census, if_pos (show censusSum s.alone = 32768 from even)] at does
  case off =>
    rw [census_mismatch (s := s.alone) off] at does
    have told := onlyRaised_censusTold s.alone
    have raised := onlyRaised_raise 64 (w32 (censusSum s.alone)) (censusTold s.alone)
    have frame := onlyRaised_alone (onlyRaised_trans told raised)
    have event : rb (raise 64 (w32 (censusSum s.alone)) (censusTold s.alone)) inkEvt 1 = true := by
      rw [rb, raised.2 inkEvt (by decide)]
      exact censusTold_event s.alone
    have notice := (stillOrdered_raise 64 (w32 (censusSum s.alone)) _).post (censusTold_notice s.alone)
    obtain ⟨count, active⟩ := raise_shows 64 (w32 (censusSum s.alone)) (censusTold s.alone) up (by decide)
    rw [told.2 (fltCnt 64) (by decide), rd_alone] at count
    obtain ⟨safe, ordered⟩ := raise_locked_shows (n := 64) (w32 (censusSum s.alone)) (s := censusTold s.alone) up (by decide) rfl
    exact ⟨_, does, event, notice, active, count, safe, ordered, onlyRaised_ink frame, frame⟩

end Sys2Proof.Proofs
end

section
/-! SUPPORT. O40 turns on the tail timer of a queue that holds no cell (R180). What the argument watches of a state, whatever
else the state holds: the queues, the active set of staged registers and HUB_STRAP. -/
namespace Sys2Proof.Proofs
open Sys2Proof Sys2Proof.Machine Sys2Proof.Laws

/-- What the argument looks at. -/
structure Watch where
  queues : Tbl Queue
  active : Tbl Word
  strap  : Word

def watch (s : State) : Watch := ⟨s.ink.queues, s.ink.active, rd s 4⟩
@[simp] theorem watch_ite (c : Prop) [Decidable c] (a b : State) : watch (if c then a else b) = if c then watch a else watch b :=
  apply_ite watch c a b
@[simp] theorem watch_wr {k : Nat} (v : Word) (s : State) (h : k ≠ 4) : watch (wr k v s) = watch s := by
  simp only [watch, wr_ink, rd_wr_other v s h.symm]
@[simp] theorem watch_wb {k : Nat} (i : Nat) (b : Bool) (s : State) (h : k ≠ 4) : watch (wb k i b s) = watch s := watch_wr _ s h
@[simp] theorem watch_wf {k : Nat} (hi lo v : Nat) (s : State) (h : k ≠ 4) : watch (wf k hi lo v s) = watch s := watch_wr _ s h
@[simp] theorem watch_bump {k : Nat} (n : Nat) (s : State) (h : k ≠ 4) : watch (bump k n s) = watch s := watch_wr _ s h
@[simp] theorem watch_stm {k : Nat} (m v : Word) (s : State) (h : k ≠ 4) : watch (stm k m v s) = watch s := watch_wr _ s h
@[simp] theorem watch_post (x) (s : State) : watch { s with post := x } = watch s := (rfl)
@[simp] theorem watch_hub (x) (s : State) : watch { s with hub := x } = watch s := (rfl)
@[simp] theorem watch_tx (x) (s : State) : watch { s with tx := x } = watch s := (rfl)
@[simp] theorem watch_flt (x) (s : State) : watch { s with flt := x } = watch s := (rfl)
@[simp] theorem watch_quills (x) (s : State) : watch { s with quills := x } = watch s := (rfl)
@[simp] theorem watch_nibs (x) (s : State) : watch { s with nibs := x } = watch s := (rfl)
@[simp] theorem watch_setHub (v : HubSt) (s : State) : watch (setHub v s) = watch s := (rfl)
@[simp] theorem watch_notify (g ev unit : Nat) (info : Word) (s : State) : watch (notify g ev unit info s) = watch s := (rfl)

/-! ## Other registers than HUB_STRAP -/

@[simp] theorem flt_ne_strap : fltCtl ≠ 4 ∧ fltStatus ≠ 4 ∧ fltFirstSrc ≠ 4 ∧ fltFirstInfo ≠ 4 ∧ fltFirstTimeLo ≠ 4 ∧
    fltFirstTimeHi ≠ 4 ∧ fltFirstCnt ≠ 4 ∧ fltLastSrc ≠ 4 ∧ fltInjInfo ≠ 4 := by decide
@[simp] theorem ring_ne_strap : ringCfg ≠ 4 ∧ ringStatus ≠ 4 ∧ ringEvt ≠ 4 ∧ ringSeq ≠ 4 ∧ ringAudit ≠ 4 := by decide
@[simp] theorem ink_ne_strap : inkStatus ≠ 4 ∧ inkReason ≠ 4 ∧ inkCplRsv ≠ 4 ∧ inkEvt ≠ 4 := by decide
@[simp] theorem blt_ne_strap : bltCtl ≠ 4 ∧ bltStatus ≠ 4 ∧ bltRefused ≠ 4 ∧ bltMissed ≠ 4 ∧ bltWritten ≠ 4 := by decide
@[simp] theorem stk_ne_strap : stkCtl ≠ 4 ∧ stkStatus ≠ 4 ∧ stkReason ≠ 4 ∧ stkEvt ≠ 4 := by decide
@[simp] theorem tb_ne_strap : tbStatus ≠ 4 ∧ tbCtl ≠ 4 ∧ tbReason ≠ 4 ∧ tbEvt ≠ 4 ∧ tbMaster ≠ 4 ∧ tbEpoch ≠ 4 ∧ tbOffset ≠ 4 ∧
    tbCtot ≠ 4 ∧ tbPathA ≠ 4 ∧ tbNmask ≠ 4 := by decide
@[simp] theorem bus_ne_strap : pbpCtl ≠ 4 ∧ pbpStatus ≠ 4 ∧ pbpEvtR ≠ 4 ∧ pbpCfg ≠ 4 := by decide
@[simp] theorem boot_ne_strap : bootStatus ≠ 4 ∧ bootEvtR ≠ 4 ∧ bootSlots ≠ 4 ∧ nvmStatus ≠ 4 := by decide
@[simp] theorem pwr_ne_strap : pwrStatus ≠ 4 ∧ pwrEvtR ≠ 4 := by decide
@[simp] theorem role_ne_strap : roleCfg ≠ 4 ∧ roleReason ≠ 4 ∧ roleEvtR ≠ 4 ∧ roleNmask ≠ 4 := by decide

@[simp] theorem hub_ne_strap : hubCtl ≠ 4 ∧ hubStatus ≠ 4 ∧ hubReason ≠ 4 ∧ hubRstCause ≠ 4 ∧ hubNpin ≠ 4 ∧ hubNpend ≠ 4 ∧
    hubTxCfg ≠ 4 ∧ hubTxCto ≠ 4 ∧ hubTxRtt ≠ 4 ∧ hubTxTags ≠ 4 ∧ hubApSel ≠ 4 ∧ hubPrmCtl ≠ 4 ∧ hubErrLog ≠ 4 ∧ hubErrAddr ≠ 4 ∧
    hubSpiCfg ≠ 4 := by decide

@[simp] theorem hubCnt_ne_strap : hubCntCto ≠ 4 ∧ hubCntNohost ≠ 4 ∧ hubCntBusyIn ≠ 4 ∧ hubCntBusyOut ≠ 4 ∧ hubCntUr ≠ 4 ∧
    hubCntUa ≠ 4 ∧ hubCntDenied ≠ 4 ∧ hubCntLateCpl ≠ 4 ∧ hubCntPopu ≠ 4 ∧ hubCntAckLate ≠ 4 ∧ hubCntWrpFail ≠ 4 := by decide
@[simp] theorem fltActive_ne_strap (k : Nat) : fltActive k ≠ 4 := by simp only [fltActive]; omega
@[simp] theorem fltSev_ne_strap (n : Nat) : fltSev n ≠ 4 := by simp only [fltSev]; omega
@[simp] theorem fltCnt_ne_strap (n : Nat) : fltCnt n ≠ 4 := by simp only [fltCnt]; omega
@[simp] theorem ringReg_ne_strap (o : Nat) : ringReg o ≠ 4 := by simp only [ringReg]; omega
@[simp] theorem laneReg_ne_strap (l o : Nat) : laneReg l o ≠ 4 := by simp only [laneReg]; omega
@[simp] theorem inkReg_ne_strap (o : Nat) : inkReg o ≠ 4 := by simp only [inkReg]; omega
@[simp] theorem qReg_ne_strap (q o : Nat) : qReg q o ≠ 4 := by simp only [qReg]; omega
@[simp] theorem monReg_ne_strap (m o : Nat) : monReg m o ≠ 4 := by simp only [monReg]; omega
@[simp] theorem nibReg_ne_strap (n o : Nat) : nibReg n o ≠ 4 := by simp only [nibReg]; omega
@[simp] theorem xbPin_ne_strap (p : Nat) : xbPin p ≠ 4 := by simp only [xbPin]; omega
@[simp] theorem dReg_ne_strap (p o : Nat) : dReg p o ≠ 4 := by simp only [dReg]; omega
@[simp] theorem stkReg_ne_strap (o : Nat) : stkReg o ≠ 4 := by simp only [stkReg]; omega
@[simp] theorem qlReg_ne_strap (q o : Nat) : qlReg q o ≠ 4 := by simp only [qlReg]; omega
@[simp] theorem canReg_ne_strap (c o : Nat) : canReg c o ≠ 4 := by simp only [canReg]; omega
@[simp] theorem tbReg_ne_strap (o : Nat) : tbReg o ≠ 4 := by simp only [tbReg]; omega
@[simp] theorem tbBase_ne_strap (n o : Nat) : tbBase n o ≠ 4 := by simp only [tbBase]; omega
@[simp] theorem pbpReg_ne_strap (o : Nat) : pbpReg o ≠ 4 := by simp only [pbpReg]; omega
@[simp] theorem winO_ne_strap (w o : Nat) : winO w o ≠ 4 := by simp only [winO]; omega
@[simp] theorem winI_ne_strap (i o : Nat) : winI i o ≠ 4 := by simp only [winI]; omega
@[simp] theorem bootReg_ne_strap (o : Nat) : bootReg o ≠ 4 := by simp only [bootReg]; omega
@[simp] theorem kcReg_ne_strap (m o : Nat) : kcReg m o ≠ 4 := by simp only [kcReg]; omega
@[simp] theorem kcStat_ne_strap (m : Nat) : kcStat m ≠ 4 := by simp only [kcStat, kcReg]; omega
@[simp] theorem pwrReg_ne_strap (o : Nat) : pwrReg o ≠ 4 := by simp only [pwrReg]; omega
@[simp] theorem cphReg_ne_strap (p o : Nat) : cphReg p o ≠ 4 := by simp only [cphReg]; omega
@[simp] theorem cphOwn_ne_strap (k : Nat) : cphOwn k ≠ 4 := by simp only [cphOwn]; omega
@[simp] theorem roleState_ne_strap (r : Nat) : roleState r ≠ 4 := by simp only [roleState]; omega

end Sys2Proof.Proofs
end

section
/-! SUPPORT. What leaves the queues, the active set and HUB_STRAP as they are, up to RUN and its end. -/
namespace Sys2Proof.Proofs
open Sys2Proof Sys2Proof.Machine Sys2Proof.Laws

/-! ## Faults, notices, frames and completions -/

@[simp] theorem watch_fresh (s : State) : watch (fresh s).2 = watch s := (rfl)
@[simp] theorem watch_sendVec (v : Nat) (s : State) : watch (sendVec v s) = watch s := by simp [sendVec]
@[simp] theorem watch_latchFault (n sev : Nat) (info : Word) (s : State) :
    watch (latchFault n sev info s) = watch s := by simp [latchFault]
@[simp] theorem watch_blot (typ source : Nat) (w4 w5 w6 : Word) (s : State) :
    watch (blot typ source w4 w5 w6 s) = watch s := by simp [blot]
@[simp] theorem watch_enterSafe (n : Nat) (info : Word) (s : State) : watch (enterSafe n info s) = watch s := by simp [enterSafe]

@[simp] theorem watch_raise (n : Nat) (info : Word) (s : State) : watch (raise n info s) = watch s := by
  unfold raise
  split <;> simp

@[simp] theorem watch_raiseCells (l : List Nat) (s : State) : watch (raiseCells l s) = watch s := by
  induction l generalizing s with
  | nil => rfl
  | cons x t ih => simp [raiseCells, ih]

@[simp] theorem watch_unserve (o : Origin) (s : State) : watch (unserve o s) = watch s := (rfl)

@[simp] theorem watch_countStatus (local_ : Bool) (st : Status) (s : State) : watch (countStatus local_ st s) = watch s := by
  unfold countStatus
  split <;> simp

@[simp] theorem watch_sinkFree (src tag : Nat) (s : State) : watch (sinkFree src tag s) = watch s := (rfl)

@[simp] theorem watch_queueCopy (f : Frame) (s : State) : watch (queueCopy f s) = watch s := by
  unfold queueCopy
  dsimp only
  rw [watch_bump _ _ (ringReg_ne_strap _)]
  rfl

@[simp] theorem watch_originate (f : Frame) (s : State) : watch (originate f s).2 = watch s := by
  unfold originate
  dsimp only
  repeat' split
  all_goals simp

@[simp] theorem watch_padBytes (n : Nat) (l : List Byte) (s : State) : watch (padBytes n l s).2 = watch s := by
  induction n generalizing l s with
  | zero => rfl
  | succ n ih => cases l <;> simp [padBytes, ih]

@[simp] theorem watch_sendAck (node tag : Nat) (s : State) : watch (sendAck node tag s) = watch s := by simp [sendAck]

@[simp] theorem watch_sendAcks (l : List (Nat × Nat)) (s : State) : watch (sendAcks l s) = watch s := by
  induction l generalizing s with
  | nil => rfl
  | cons x t ih => simp [sendAcks, ih]

@[simp] theorem watch_dropPend (o : Origin) (s : State) : watch (dropPend o s) = watch s := (rfl)
@[simp] theorem watch_errLog (spi : Bool) (node : Nat) (a : Access) (st : Status) (s : State) :
    watch (errLog spi node a st s) = watch s := by simp [errLog]

@[simp] theorem watch_spiResult (node : Nat) (a : Access) (st : Status) (d : List Byte) (s : State) :
    watch (spiResult node a st d s) = watch s := by
  unfold spiResult
  split <;> simp

@[simp] theorem watch_noticeAgain (q : Nat) (s : State) : watch (noticeAgain q s) = watch s := by simp [noticeAgain]
@[simp] theorem watch_unitEvent {ev : Nat} (nmask i g unit : Nat) (info : Word) (s : State) (h : ev ≠ 4) :
    watch (unitEvent ev nmask i g unit info s) = watch s := by simp [unitEvent, h]
@[simp] theorem watch_headGone (q : Nat) (s : State) : watch (headGone q s) = watch s := by simp [headGone]
@[simp] theorem watch_quillRxDrop (q : Nat) (s : State) : watch (quillRxDrop q s) = watch s := by simp [quillRxDrop]
@[simp] theorem watch_canHpDrop (c : Nat) (s : State) : watch (canHpDrop c s) = watch s := (rfl)
@[simp] theorem watch_signalQueue (q : Nat) (s : State) : watch (signalQueue q s) = watch s := by simp [signalQueue]
@[simp] theorem watch_countRefusal (q : Nat) (s : State) : watch (countRefusal q s) = watch s := by simp [countRefusal]
@[simp] theorem watch_setFlt (v : FltSt) (s : State) : watch (setFlt v s) = watch s := (rfl)
@[simp] theorem watch_putQuar (l : List (Nat × Nat)) (s : State) : watch (putQuar l s) = watch s := by simp [putQuar]
@[simp] theorem watch_nibFar (s : State) : watch (nibFar s).2.2 = watch s := by simp [nibFar]

/-! ## Pins and nibs -/

@[simp] theorem watch_setPin (p : Nat) (v : PinSt) (s : State) : watch (setPin p v s) = watch s := (rfl)
@[simp] theorem watch_claimPin (p own slot idx : Nat) (s : State) :
    watch (claimPin p own slot idx s) = watch s := by simp [claimPin]
@[simp] theorem watch_releasePin (p : Nat) (s : State) : watch (releasePin p s) = watch s := by simp [releasePin]

@[simp] theorem watch_releaseSlots (n : Nat) (l : List Nat) (s : State) : watch (releaseSlots n l s) = watch s := by
  induction l generalizing s with
  | nil => rfl
  | cons x t ih => simp [releaseSlots, ih]

@[simp] theorem watch_setNib (n : Nat) (v : NibSt) (s : State) : watch (setNib n v s) = watch s := (rfl)
@[simp] theorem watch_putFifo (n : Nat) (l : List RxEnt) (s : State) : watch (putFifo n l s) = watch s := by simp [putFifo]
@[simp] theorem watch_rxOverflow (q n : Nat) (s : State) : watch (rxOverflow q n s) = watch s := by simp [rxOverflow]
@[simp] theorem watch_nibLose (n cnt : Nat) (first : Bool) (s : State) :
    watch (nibLose n cnt first s) = watch s := by simp [nibLose]
@[simp] theorem watch_nibEvt (n i : Nat) (s : State) : watch (nibEvt n i s) = watch s := by simp [nibEvt]
@[simp] theorem watch_drivePin (p : Nat) (oe out : Bool) (s : State) : watch (drivePin p oe out s) = watch s := (rfl)
@[simp] theorem watch_slotDrive (n k : Nat) (oe lvl : Bool) (s : State) :
    watch (slotDrive n k oe lvl s) = watch s := by simp [slotDrive]
@[simp] theorem watch_slotAct (n k : Nat) (oe lvl : Bool) (s : State) : watch (slotAct n k oe lvl s) = watch s := by simp [slotAct]
@[simp] theorem watch_nibHoldStart (n : Nat) (s : State) : watch (nibHoldStart n s) = watch s := by simp [nibHoldStart]

@[simp] theorem watch_fifoSpill (n : Nat) (counted : Bool) (k : Nat) (l : List RxEnt) (s : State) :
    watch (fifoSpill n counted k l s) = watch s := by
  induction l generalizing k s with
  | nil => simp [fifoSpill]
  | cons e t ih => cases e <;> simp [fifoSpill, ih]

@[simp] theorem watch_txShow (n : Nat) (busy : Bool) (rest : Nat) (s : State) :
    watch (txShow n busy rest s) = watch s := by simp [txShow]
@[simp] theorem watch_nibErr (n k : Nat) (s : State) : watch (nibErr n k s) = watch s := by simp [nibErr]

@[simp] theorem watch_uartNoise (n n' : Nat) (s : State) : watch (uartNoise n n' s) = watch s := by
  induction n' generalizing s with
  | zero => rfl
  | succ n ih => simp [uartNoise, ih]

@[simp] theorem watch_rxTag (n ns : Nat) (s : State) : watch (rxTag n ns s) = watch s := (rfl)
@[simp] theorem watch_nibPush (n : Nat) (o : List NibOut) (s : State) : watch (nibPush n o s) = watch s := by simp [nibPush]
@[simp] theorem watch_spiCsHigh (n : Nat) (s : State) : watch (spiCsHigh n s) = watch s := by simp [spiCsHigh]

@[simp] theorem watch_streamShow (n : Nat) (s : State) : watch (streamShow n s) = watch s := by
  unfold streamShow
  split <;> simp

@[simp] theorem watch_misoSend (n : Nat) (b : Byte) (s : State) : watch (misoSend n b s) = watch s := by simp [misoSend]
@[simp] theorem watch_popUncertain (o : Origin) (c : Commit) (s : State) :
    watch (popUncertain o c s) = watch s := by simp [popUncertain]

@[simp] theorem watch_popUncertainAll (o : Origin) (l : List Commit) (s : State) : watch (popUncertainAll o l s) = watch s := by
  induction l generalizing s with
  | nil => rfl
  | cons x t ih => simp [popUncertainAll, ih]

/-! ## Quills -/

@[simp] theorem watch_qlFar (s : State) : watch (qlFar s).2 = watch s := (rfl)
@[simp] theorem qlStatus_ne_strap (q : Nat) : qlStatus q ≠ 4 := qlReg_ne_strap q 4

@[simp] theorem watch_qlCond (q : Nat) (w : Word) (lvl : Bool) (s : State) : watch (qlCond q w lvl s).2 = watch s := by
  unfold qlCond
  split <;> simp [apply_ite Prod.snd]

@[simp] theorem watch_setQuill (q : Nat) (v : QuillSt) (s : State) : watch (setQuill q v s) = watch s := (rfl)
@[simp] theorem watch_qlEvt (q i : Nat) (s : State) : watch (qlEvt q i s) = watch s := by simp [qlEvt]
@[simp] theorem watch_qlStall (q : Nat) (tx : Bool) (s : State) : watch (qlStall q tx s) = watch s := by simp [qlStall]
@[simp] theorem watch_setFill (q n : Nat) (s : State) : watch (setFill q n s) = watch s := by simp [setFill]
@[simp] theorem watch_qlDrop (q n : Nat) (s : State) : watch (qlDrop q n s) = watch s := by simp [qlDrop]
@[simp] theorem watch_qlCounts (q : Nat) (s : State) : watch (qlCounts q s) = watch s := by simp [qlCounts]
@[simp] theorem watch_setShift (q : Nat) (w : Word) (fill : Nat) (s : State) :
    watch (setShift q w fill s) = watch s := by simp [setShift]
@[simp] theorem watch_qlLevel (q k : Nat) (b : Bool) (s : State) : watch (qlLevel q k b s) = watch s := (rfl)

@[simp] theorem watch_qlDrive (q : Nat) (l : List Nat) (s : State) : watch (qlDrive q l s) = watch s := by
  induction l generalizing s with
  | nil => rfl
  | cons x t ih => simp [qlDrive, ih]

@[simp] theorem watch_qlPins (q : Nat) (s : State) : watch (qlPins q s) = watch s := by simp [qlPins]

@[simp] theorem watch_qlSide (q side : Nat) (s : State) : watch (qlSide q side s) = watch s := by
  unfold qlSide
  split
  · rfl
  · split <;> simp

@[simp] theorem watch_qlShow (q n : Nat) (s : State) : watch (qlShow q n s) = watch s := by simp [qlShow]

@[simp] theorem watch_qlSlotPins (q : Nat) (w : Word) (s : State) : watch (qlSlotPins q w s) = watch s := by
  unfold qlSlotPins
  dsimp only
  split <;> simp

@[simp] theorem watch_qlIdlePins (q : Nat) (s : State) : watch (qlIdlePins q s) = watch s := by simp [qlIdlePins]

@[simp] theorem watch_wpRelease (q : Nat) (l : List Nat) (s : State) : watch (wpRelease q l s) = watch s := by
  induction l generalizing s with
  | nil => rfl
  | cons x t ih => simp [wpRelease, ih]

/-! ## CAN controllers -/

@[simp] theorem watch_setCan (k : Nat) (v : CanSt) (s : State) : watch (setCan k v s) = watch s := (rfl)

@[simp] theorem watch_objOffBus (k : Nat) (s : State) : watch (objOffBus k s) = watch s := by
  unfold objOffBus
  split <;> simp

@[simp] theorem watch_canOffBus (k : Nat) (s : State) : watch (canOffBus k s) = watch s := by simp [canOffBus]
@[simp] theorem watch_canPut (k : Nat) (o : CanOut) (s : State) : watch (canPut k o s) = watch s := (rfl)
@[simp] theorem watch_canSentBits (k n : Nat) (f : CanFrame) (s : State) :
    watch (canSentBits k n f s) = watch s := by simp [canSentBits]

@[simp] theorem watch_canCutBus (k : Nat) (s : State) : watch (canCutBus k s) = watch s := by
  unfold canCutBus
  split <;> simp

@[simp] theorem watch_canEvt (k i : Nat) (s : State) : watch (canEvt k i s) = watch s := by simp [canEvt]
@[simp] theorem watch_canStage (k kind obj : Nat) (r : List Byte) (s : State) :
    watch (canStage k kind obj r s) = watch s := by simp [canStage]
@[simp] theorem watch_objClear (k i : Nat) (s : State) : watch (objClear k i s) = watch s := by simp [objClear]

@[simp] theorem watch_canUnstage (k : Nat) (l : List (Word × List Byte)) (s : State) : watch (canUnstage k l s) = watch s := by
  induction l generalizing s with
  | nil => rfl
  | cons x t ih => simp [canUnstage, ih]

/-! ## The bridge -/

@[simp] theorem watch_setPbp (v : PbpSt) (s : State) : watch (setPbp v s) = watch s := (rfl)
@[simp] theorem watch_setPf (w : Nat) (v : Option PfBuf) (s : State) : watch (setPf w v s) = watch s := by simp [setPf]
@[simp] theorem watch_pbpEvt (i : Nat) (s : State) : watch (pbpEvt i s) = watch s := by simp [pbpEvt]

@[simp] theorem watch_pfDrop (w : Nat) (s : State) : watch (pfDrop w s) = watch s := by
  unfold pfDrop
  split <;> simp

@[simp] theorem watch_pfDropAll (l : List Nat) (s : State) : watch (pfDropAll l s) = watch s := by
  induction l generalizing s with
  | nil => rfl
  | cons x t ih => simp [pfDropAll, ih]

@[simp] theorem watch_endHeld (how : Nat) (lanes : Word) (s : State) : watch (endHeld how lanes s) = watch s := by simp [endHeld]
@[simp] theorem watch_breakHeld (s : State) : watch (breakHeld s) = watch s := by simp [breakHeld]

@[simp] theorem watch_pbpHoldEnd (s : State) : watch (pbpHoldEnd s) = watch s := by
  unfold pbpHoldEnd
  split <;> simp

@[simp] theorem watch_outPop (s : State) : watch (outPop s) = watch s := by simp [outPop]

@[simp] theorem watch_writeFailed (q : OutReq) (st : Status) (s : State) : watch (writeFailed q st s) = watch s := by
  unfold writeFailed
  split <;> simp

@[simp] theorem watch_iackNote (a : Access) (st : Status) (id : Word) (s : State) :
    watch (iackNote a st id s) = watch s := by simp [iackNote]

@[simp] theorem watch_pfReturned (w addr n : Nat) (s : State) : watch (pfReturned w addr n s) = watch s := by
  unfold pfReturned
  split <;> simp

@[simp] theorem watch_refuseP (o : Origin) (a : Access) (st : Status) (s : State) : watch (refuseP o a st s) = watch s := by
  unfold refuseP
  split <;> simp

theorem watch_retryOwn {o : Origin} {s t : State} (h : retryOwn o s = some t) : watch t = watch s := by
  unfold retryOwn at h
  split at h
  · split at h
    · cases h
      simp
    · cases h
  · cases h

theorem watch_winClear (l : List Nat) (s : State) (h : ∀ k ∈ l, k ≠ 4) : watch (winClear l s) = watch s := by
  induction l generalizing s with
  | nil => rfl
  | cons k t ih =>
    rw [winClear, ih _ (fun j m => h j (List.mem_cons_of_mem _ m)), watch_wb _ _ _ (h k List.mem_cons_self)]

@[simp] theorem watch_releaseAll (l : List Nat) (s : State) : watch (releaseAll l s) = watch s := by
  induction l generalizing s with
  | nil => rfl
  | cons x t ih => simp [releaseAll, ih]

/-! ## Quarantine and safe state -/

@[simp] theorem watch_setCph (v : CphSt) (s : State) : watch (setCph v s) = watch s := (rfl)
@[simp] theorem watch_setPage (p : Nat) (v : CphPage) (s : State) : watch (setPage p v s) = watch s := (rfl)
@[simp] theorem watch_quarRecord (n kind i : Nat) (inj : Bool) (s : State) :
    watch (quarRecord n kind i inj s) = watch s := by simp [quarRecord]

@[simp] theorem watch_putOarm (v : List Word) (l : List Nat) (s : State) : watch (putOarm v l s) = watch s := by
  induction l generalizing s with
  | nil => rfl
  | cons x t ih => simp [putOarm, ih]

@[simp] theorem watch_setStk (v : StkSt) (s : State) : watch (setStk v s) = watch s := (rfl)
@[simp] theorem watch_stkForget (s : State) : watch (stkForget s) = watch s := by simp [stkForget]
@[simp] theorem watch_pulseEnd (p : Nat) (s : State) : watch (pulseEnd p s) = watch s := by simp [pulseEnd]

@[simp] theorem watch_endPulses (l : List Nat) (s : State) : watch (endPulses l s) = watch s := by
  induction l generalizing s with
  | nil => rfl
  | cons x t ih => simp [endPulses, ih]

@[simp] theorem watch_nibIdle (n : Nat) (s : State) : watch (nibIdle n s) = watch s := by
  unfold nibIdle
  split <;> simp

@[simp] theorem watch_canSafe (k : Nat) (s : State) : watch (canSafe k s) = watch s := by simp [canSafe]

/-! ## Frames taken and prefetches -/

@[simp] theorem watch_setRing (v : RingSt) (s : State) : watch (setRing v s) = watch s := (rfl)
@[simp] theorem watch_setLink (l : Nat) (k : LinkSt) (s : State) : watch (setLink l k s) = watch s := (rfl)
@[simp] theorem watch_creditReturn (l c n : Nat) (s : State) : watch (creditReturn l c n s) = watch s := by simp [creditReturn]

@[simp] theorem watch_frameAccess (f : Frame) (s : State) : watch (frameAccess f s).2 = watch s := by
  unfold frameAccess
  dsimp only
  repeat' split
  all_goals simp

@[simp] theorem watch_setTx (v : TxSt) (s : State) : watch (setTx v s) = watch s := (rfl)

@[simp] theorem watch_pfServe (s : State) : watch (pfServe s) = watch s := by
  unfold pfServe
  dsimp only
  repeat' split
  all_goals simp

/-! ## Reads of registers -/

@[simp] theorem watch_setTime (v : TimeSt) (s : State) : watch (setTime v s) = watch s := (rfl)
@[simp] theorem watch_setBase (n : Nat) (v : BaseSt) (s : State) : watch (setBase n v s) = watch s := (rfl)
@[simp] theorem watch_tbLoRead (n : Nat) (s : State) : watch (tbLoRead n s) = watch s := (rfl)
@[simp] theorem watch_prbsLoRead (l : Nat) (s : State) : watch (prbsLoRead l s) = watch s := by simp [prbsLoRead]
@[simp] theorem watch_stbyReadLo (s : State) : watch (stbyReadLo s).2 = watch s := by simp [stbyReadLo]
@[simp] theorem watch_readCapture (k : Nat) (s : State) : watch (readCapture k s) = watch s := by simp [readCapture]
@[simp] theorem watch_readReg (k : Nat) (s : State) : watch (readReg k s).2 = watch s := by simp [readReg]

@[simp] theorem watch_readRegs (l : List Nat) (s : State) : watch (readRegs l s).2 = watch s := by
  induction l generalizing s with
  | nil => rfl
  | cons x t ih => simp [readRegs, ih]

@[simp] theorem watch_bltTouch (i : Nat) (s : State) : watch (bltTouch i s) = watch s := by
  unfold bltTouch
  split <;> simp

@[simp] theorem watch_bltTouchAll (l : List Nat) (s : State) : watch (bltTouchAll l s) = watch s := by
  induction l generalizing s with
  | nil => rfl
  | cons x t ih => simp [bltTouchAll, ih]

/-! ## Writes a unit may refuse -/

@[simp] theorem watch_qlTxWrite (q : Nat) (v : Word) (s : State) : watch (qlTxWrite q v s).2 = watch s := by
  unfold qlTxWrite
  dsimp only
  repeat' split
  all_goals simp

@[simp] theorem watch_qlStepWrite (q b i : Nat) (v : Word) (s : State) : watch (qlStepWrite q b i v s).2 = watch s := by
  unfold qlStepWrite
  split <;> simp

theorem watch_refuses {who v : Word} {k : Nat} {s : State} {r : Status × State} (h : refuses who k v s = some r) :
    watch r.2 = watch s := by
  unfold refuses at h
  dsimp only at h
  split at h
  · split at h <;> cases h
    rfl
  split at h
  · split at h <;> cases h
    simp
  split at h
  · split at h <;> cases h
    simp
  · cases h

theorem watch_burstRefuses {who : Word} {k : Nat} {l : List Word} {s : State} {r : Status × State}
    (h : burstRefuses who k l s = some r) : watch r.2 = watch s := by
  induction l generalizing k with
  | nil => cases h
  | cons v t ih =>
    unfold burstRefuses at h
    split at h
    next one => cases h; exact watch_refuses one
    next => exact ih h

@[simp] theorem watch_dinWrite (p : Nat) (o : Origin) (a : Access) (s : State) : watch (dinWrite p o a s).2 = watch s := by
  unfold dinWrite
  dsimp only
  repeat' split
  all_goals simp

@[simp] theorem watch_kcForeign (m : Nat) (s : State) : watch (kcForeign m s) = watch s := by simp [kcForeign]
@[simp] theorem watch_setKc (v : KcSt) (s : State) : watch (setKc v s) = watch s := (rfl)
@[simp] theorem watch_setBox (m : Nat) (v : Mbox) (s : State) : watch (setBox m v s) = watch s := (rfl)
@[simp] theorem watch_kcAreaWrite (m o : Nat) (who : Origin) (d : List Byte) (s : State) :
    watch (kcAreaWrite m o who d s) = watch s := by simp [kcAreaWrite]

/-! ## RUN and its end -/

@[simp] theorem watch_nibFlowna (n : Nat) (s : State) : watch (nibFlowna n s) = watch s := by simp [nibFlowna]
@[simp] theorem watch_putNext (t : Nat) (s : State) : watch (putNext t s) = watch s := by simp [putNext]
@[simp] theorem watch_stkRunAgain (s : State) : watch (stkRunAgain s) = watch s := by simp [stkRunAgain]
@[simp] theorem watch_canIntegrate (k : Nat) (s : State) : watch (canIntegrate k s) = watch s := by simp [canIntegrate]
@[simp] theorem watch_canRunAgain (k : Nat) (s : State) : watch (canRunAgain k s) = watch s := by simp [canRunAgain]
@[simp] theorem watch_canFrameEnd (k : Nat) (s : State) : watch (canFrameEnd k s) = watch s := by simp [canFrameEnd]
@[simp] theorem watch_objCancel (k i : Nat) (s : State) : watch (objCancel k i s) = watch s := by simp [objCancel]

@[simp] theorem watch_canFailed (k : Nat) (b : CanBus) (s : State) : watch (canFailed k b s) = watch s := by
  unfold canFailed
  split <;> simp

@[simp] theorem watch_canBreak (k : Nat) (s : State) : watch (canBreak k s) = watch s := by
  unfold canBreak
  split <;> simp

@[simp] theorem watch_canHold (k : Nat) (s : State) : watch (canHold k s) = watch s := by simp [canHold]

end Sys2Proof.Proofs
end

section
/-! SUPPORT. What leaves the queues, the active set and HUB_STRAP as they are: start-up, faults, time and strokes. -/
namespace Sys2Proof.Proofs
open Sys2Proof Sys2Proof.Machine Sys2Proof.Laws

/-! ## Start-up and boot -/

@[simp] theorem watch_setMode (m : Nat) (s : State) : watch (setMode m s) = watch s := by simp [setMode]
@[simp] theorem watch_setBoot (v : BootSt) (s : State) : watch (setBoot v s) = watch s := (rfl)
@[simp] theorem watch_setPwr (v : PwrSt) (s : State) : watch (setPwr v s) = watch s := (rfl)
@[simp] theorem watch_stbyLoad (n : Nat) (s : State) : watch (stbyLoad n s) = watch s := by simp [stbyLoad]
@[simp] theorem watch_stbyRefresh (s : State) : watch (stbyRefresh s) = watch s := by simp [stbyRefresh]
@[simp] theorem watch_pwrEvt (i : Nat) (s : State) : watch (pwrEvt i s) = watch s := by simp [pwrEvt]

@[simp] theorem watch_nvEnter (causes : Nat) (s : State) : watch (nvEnter causes s) = watch s := by
  unfold nvEnter
  dsimp only
  split <;> simp

@[simp] theorem watch_bootBlot (typ slot code : Nat) (ver w6 : Word) (s : State) :
    watch (bootBlot typ slot code ver w6 s) = watch s := by simp [bootBlot]
@[simp] theorem watch_bootNotice (code slot : Nat) (s : State) : watch (bootNotice code slot s) = watch s := (rfl)
@[simp] theorem watch_recovery (cause : Nat) (s : State) : watch (recovery cause s) = watch s := by simp [recovery]

@[simp] theorem watch_bootRefresh (s : State) : watch (bootRefresh s) = watch s := by
  unfold bootRefresh
  extract_lets r slots t shown u next v
  have h : watch v = watch s := by
    simp [v, u, t]
  split
  · rw [watch_wf, watch_wr, h]
    · simp
    · simp
  · rw [watch_wf, watch_wr, h]
    · simp
    · simp

@[simp] theorem watch_imgTo (n st : Nat) (s : State) : watch (imgTo n st s) = watch s := by simp [imgTo]
@[simp] theorem watch_judgeImg (n code : Nat) (s : State) : watch (judgeImg n code s) = watch s := by simp [judgeImg]
@[simp] theorem watch_nvWrote (s : State) : watch (nvWrote s) = watch s := (rfl)
@[simp] theorem watch_rcdStore (s : State) : watch (rcdStore s) = watch s := (rfl)
@[simp] theorem watch_bootWrite (r : BootRec) (s : State) : watch (bootWrite r s) = watch s := by simp [bootWrite]

@[simp] theorem watch_bootFailed (slot code : Nat) (s : State) : watch (bootFailed slot code s) = watch s := by
  unfold bootFailed
  dsimp only
  split <;> simp

@[simp] theorem watch_bootChoose (fuel : Nat) (s : State) : watch (bootChoose fuel s) = watch s := by
  induction fuel generalizing s with
  | zero => simp [bootChoose]
  | succ n ih =>
    unfold bootChoose
    split
    · simp
    split
    · simp
    · simp [ih]

@[simp] theorem watch_readRecord (s : State) : watch (readRecord s) = watch s := by
  unfold readRecord
  split <;> simp

@[simp] theorem watch_jnlStore (s : State) : watch (jnlStore s) = watch s := (rfl)
@[simp] theorem watch_journalWrite (c : JCounts) (s : State) : watch (journalWrite c s) = watch s := by simp [journalWrite]
@[simp] theorem watch_readJournal (lpor : Bool) (s : State) : watch (readJournal lpor s) = watch s := by simp [readJournal]
@[simp] theorem watch_setKeySlot (k : Nat) (v : KeySlot) (s : State) : watch (setKeySlot k v s) = watch s := (rfl)

@[simp] theorem watch_restoreKeys (l : List (Nat × KeySlot)) (s : State) : watch (restoreKeys l s) = watch s := by
  induction l generalizing s with
  | nil => rfl
  | cons x t ih => simp [restoreKeys, ih]

@[simp] theorem watch_seedTb0 (s : State) : watch (seedTb0 s) = watch s := by simp [seedTb0]
@[simp] theorem watch_romBoot (lpor : Bool) (s : State) : watch (romBoot lpor s) = watch s := by simp [romBoot]

/-! ## Roles and plain registers -/

@[simp] theorem watch_inHand (o : Origin) (s : State) : watch (inHand o s) = watch s := by
  unfold inHand
  split <;> simp

@[simp] theorem watch_roleEvt (i unit : Nat) (info : Word) (s : State) :
    watch (roleEvt i unit info s) = watch s := by simp [roleEvt]
@[simp] theorem watch_setOwn (r st : Nat) (s : State) : watch (setOwn r st s) = watch s := by simp [setOwn]
@[simp] theorem watch_tbEvent (i : Nat) (s : State) : watch (tbEvent i s) = watch s := by simp [tbEvent]
@[simp] theorem watch_stkUnlock (s : State) : watch (stkUnlock s) = watch s := by simp [stkUnlock]
@[simp] theorem watch_tbEnter (st : Nat) (s : State) : watch (tbEnter st s) = watch s := by simp [tbEnter]
@[simp] theorem watch_dropMaster (s : State) : watch (dropMaster s) = watch s := by simp [dropMaster]
@[simp] theorem watch_roleRefresh (r : Nat) (s : State) : watch (roleRefresh r s) = watch s := by simp [roleRefresh]

@[simp] theorem watch_plainWrite (k : Nat) (v : Word) (s : State) : watch (plainWrite k v s) = watch s := by
  by_cases strap : k = 4
  · subst strap
    rfl
  · unfold plainWrite
    split
    · rfl
    · dsimp only
      split <;> simp [strap]

/-! ## The fault unit -/

@[simp] theorem watch_canSafeEnd (k : Nat) (s : State) : watch (canSafeEnd k s) = watch s := by simp [canSafeEnd]

@[simp] theorem watch_canSafeEnds (l : List Nat) (s : State) : watch (canSafeEnds l s) = watch s := by
  induction l generalizing s with
  | nil => rfl
  | cons x t ih => simp [canSafeEnds, ih]

@[simp] theorem watch_safeExit (s : State) : watch (safeExit s) = watch s := by simp [safeExit]
@[simp] theorem watch_fltCtlWrite (v : Word) (s : State) : watch (fltCtlWrite v s) = watch s := by simp [fltCtlWrite]
@[simp] theorem watch_endHandling (s : State) : watch (endHandling s) = watch s := by simp [endHandling]
@[simp] theorem watch_fltStatusWrite (v : Word) (s : State) : watch (fltStatusWrite v s) = watch s := by simp [fltStatusWrite]

theorem quarReg_ne_strap (kind i : Nat) : quarReg kind i ≠ 4 := by
  unfold quarReg
  repeat' split
  all_goals simp

@[simp] theorem watch_unquar (kind i : Nat) (byCmd : Bool) (s : State) : watch (unquar kind i byCmd s) = watch s := by
  simp [unquar, quarReg_ne_strap]
@[simp] theorem watch_unquarWrite (v : Word) (s : State) : watch (unquarWrite v s) = watch s := by simp [unquarWrite]
@[simp] theorem watch_fltInject (v : Word) (s : State) : watch (fltInject v s) = watch s := by simp [fltInject]
@[simp] theorem watch_fltSevWrite (n : Nat) (v : Word) (s : State) : watch (fltSevWrite n v s) = watch s := by simp [fltSevWrite]
@[simp] theorem watch_fltWrite (k : Nat) (v : Word) (s : State) : watch (fltWrite k v s) = watch s := by simp [fltWrite]

/-! ## Time bases -/

@[simp] theorem watch_tbEnable (s : State) : watch (tbEnable s) = watch s := by
  unfold tbEnable
  dsimp only
  repeat' split
  all_goals simp

@[simp] theorem watch_tbDisable (s : State) : watch (tbDisable s) = watch s := by simp [tbDisable]
@[simp] theorem watch_tbCtlWrite (v : Word) (s : State) : watch (tbCtlWrite v s) = watch s := by simp [tbCtlWrite]
@[simp] theorem watch_putSlave (n : Nat) (b : Bool) (s : State) : watch (putSlave n b s) = watch s := by simp [putSlave]
@[simp] theorem watch_tbBctlWrite (n : Nat) (v : Word) (s : State) : watch (tbBctlWrite n v s) = watch s := by simp [tbBctlWrite]
@[simp] theorem watch_tbRefuse (code : Nat) (s : State) : watch (tbRefuse code s) = watch s := by simp [tbRefuse]

@[simp] theorem watch_tbRateWrite (n : Nat) (v : Word) (s : State) : watch (tbRateWrite n v s) = watch s := by
  unfold tbRateWrite
  split <;> simp

@[simp] theorem watch_tbStepLoWrite (n : Nat) (v : Word) (s : State) : watch (tbStepLoWrite n v s) = watch s := (rfl)
@[simp] theorem watch_stkStep (fwd : Bool) (s : State) : watch (stkStep fwd s) = watch s := by simp [stkStep]
@[simp] theorem watch_tb0Stepped (old : DWord) (s : State) : watch (tb0Stepped old s) = watch s := by simp [tb0Stepped]
@[simp] theorem watch_shiftBase (n : Nat) (d : Int) (s : State) : watch (shiftBase n d s) = watch s := by simp [shiftBase]

@[simp] theorem watch_tbStep (n : Nat) (v : DWord) (abs : Bool) (s : State) : watch (tbStep n v abs s).2 = watch s := by
  unfold tbStep
  dsimp only
  repeat' split
  all_goals simp

@[simp] theorem watch_tbStepWrite (n : Nat) (v : Word) (s : State) : watch (tbStepWrite n v s) = watch s := by simp [tbStepWrite]
@[simp] theorem watch_tbWrite (k : Nat) (v : Word) (s : State) : watch (tbWrite k v s) = watch s := by simp [tbWrite]

/-! ## Strokes -/

@[simp] theorem watch_stkCommit (s : State) : watch (stkCommit s) = watch s := by
  unfold stkCommit
  dsimp only
  split <;> simp

@[simp] theorem watch_stkStop (s : State) : watch (stkStop s) = watch s := by simp [stkStop]
@[simp] theorem watch_stkStart (s : State) : watch (stkStart s) = watch s := by simp [stkStart]
@[simp] theorem watch_stkCtlWrite (v : Word) (s : State) : watch (stkCtlWrite v s) = watch s := by simp [stkCtlWrite]

end Sys2Proof.Proofs
end

section
/-! SUPPORT. What leaves the queues, the active set and HUB_STRAP as they are: lanes, mailboxes, unit starts and requests. -/
namespace Sys2Proof.Proofs
open Sys2Proof Sys2Proof.Machine Sys2Proof.Laws

/-! ## Lanes and links -/

@[simp] theorem watch_setJobs (m : Nat) (l : List Job) (s : State) : watch (setJobs m l s) = watch s := by simp [setJobs]
@[simp] theorem watch_dropJob (m i : Nat) (s : State) : watch (dropJob m i s) = watch s := by simp [dropJob]
@[simp] theorem watch_freeOutcome (s : State) : watch (freeOutcome s).2.2 = watch s := (rfl)
@[simp] theorem watch_putLaneBit (l i : Nat) (b : Bool) (s : State) : watch (putLaneBit l i b s) = watch s := by simp [putLaneBit]
@[simp] theorem watch_setLane (l : Nat) (v : LaneSt) (s : State) : watch (setLane l v s) = watch s := (rfl)
@[simp] theorem watch_laneNotice (l code : Nat) (info : Word) (s : State) : watch (laneNotice l code info s) = watch s := (rfl)
@[simp] theorem watch_raiseFree (n : Nat) (s : State) : watch (raiseFree n s) = watch s := by simp [raiseFree]
@[simp] theorem watch_disown (l : Nat) (s : State) : watch (disown l s) = watch s := (rfl)
@[simp] theorem watch_copyLost (o : OutFrame) (s : State) : watch (copyLost o s) = watch s := by simp [copyLost]

@[simp] theorem watch_poolLeave (o : OutFrame) (s : State) : watch (poolLeave o s) = watch s := by
  unfold poolLeave
  split <;> simp

@[simp] theorem watch_cntRing (o r n : Nat) (s : State) : watch (cntRing o r n s) = watch s := by simp [cntRing]
@[simp] theorem watch_broken (f : Frame) (s : State) : watch (broken f s) = watch s := by simp [broken]

@[simp] theorem watch_breakFrames (l : List OutFrame) (s : State) : watch (breakFrames l s) = watch s := by
  induction l generalizing s with
  | nil => rfl
  | cons x t ih => simp [breakFrames, ih]

@[simp] theorem watch_breakAll (l : Nat) (s : State) : watch (breakAll l s) = watch s := by simp [breakAll]
@[simp] theorem watch_lineSend (l : Nat) (bs : List Block) (s : State) : watch (lineSend l bs s) = watch s := (rfl)
@[simp] theorem watch_closeWire (l id : Nat) (f : Frame) (bs : List Block) (s : State) :
    watch (closeWire l id f bs s) = watch s := by simp [closeWire]

@[simp] theorem watch_spoilWire (l id blocks : Nat) (s : State) : watch (spoilWire l id blocks s) = watch s := by
  unfold spoilWire
  split <;> simp

@[simp] theorem watch_spoilCopy (l id blocks : Nat) (s : State) : watch (spoilCopy l id blocks s) = watch s := by simp [spoilCopy]

@[simp] theorem watch_badEnd (l blocks : Nat) (s : State) : watch (badEnd l blocks s) = watch s := by
  unfold badEnd
  split <;> simp

@[simp] theorem watch_linkLeave (l : Nat) (s : State) : watch (linkLeave l s) = watch s := by simp [linkLeave]
@[simp] theorem watch_laneTo (l st : Nat) (s : State) : watch (laneTo l st s) = watch s := by simp [laneTo]
@[simp] theorem watch_lockLost (l : Nat) (s : State) : watch (lockLost l s) = watch s := by simp [lockLost]
@[simp] theorem watch_dropLocks (l : Nat) (s : State) : watch (dropLocks l s) = watch s := by simp [dropLocks]
@[simp] theorem watch_laneUnlock (l : Nat) (rate : Bool) (s : State) : watch (laneUnlock l rate s) = watch s := by simp [laneUnlock]
@[simp] theorem watch_laneClear (l : Nat) (s : State) : watch (laneClear l s) = watch s := by simp [laneClear]
@[simp] theorem watch_toPrbs (l : Nat) (s : State) : watch (toPrbs l s) = watch s := by simp [toPrbs]
@[simp] theorem watch_toDetect (l : Nat) (s : State) : watch (toDetect l s) = watch s := by simp [toDetect]

@[simp] theorem watch_linkDown (l cause : Nat) (s : State) : watch (linkDown l cause s) = watch s := by
  unfold linkDown
  split <;> simp

@[simp] theorem watch_prbsCtlWrite (l : Nat) (v : Word) (s : State) : watch (prbsCtlWrite l v s) = watch s := by simp [prbsCtlWrite]

/-! ## Mailboxes, jobs and leases -/

@[simp] theorem watch_setRoles (v : RolesSt) (s : State) : watch (setRoles v s) = watch s := (rfl)
@[simp] theorem watch_setRole (r : Nat) (v : RoleSt) (s : State) : watch (setRole r v s) = watch s := (rfl)

@[simp] theorem watch_cutJob (k : JobKind) (s : State) : watch (cutJob k s) = watch s := by
  unfold cutJob
  split <;> simp

@[simp] theorem watch_putJob (m : Nat) (j : Job) (s : State) : watch (putJob m j s) = watch s := by simp [putJob]
@[simp] theorem watch_sessionNotice (m ev : Nat) (info : Word) (s : State) : watch (sessionNotice m ev info s) = watch s := (rfl)

@[simp] theorem watch_endJob (m i state st reason : Nat) (result : List Word) (s : State) :
    watch (endJob m i state st reason result s) = watch s := by
  unfold endJob
  split <;> simp

@[simp] theorem watch_cancelJob (m : Nat) (j : Job) (s : State) : watch (cancelJob m j s) = watch s := by simp [cancelJob]
@[simp] theorem watch_leaveJob (m : Nat) (j : Job) (s : State) : watch (leaveJob m j s) = watch s := by simp [leaveJob]

@[simp] theorem watch_leaveJobs (m : Nat) (l : List Job) (s : State) : watch (leaveJobs m l s) = watch s := by
  induction l generalizing s with
  | nil => rfl
  | cons x t ih => simp [leaveJobs, ih]

@[simp] theorem watch_dropWait (m : Nat) (s : State) : watch (dropWait m s) = watch s := (rfl)
@[simp] theorem watch_kcSignal (m st : Nat) (raw : List Byte) (s : State) :
    watch (kcSignal m st raw s) = watch s := by simp [kcSignal]
@[simp] theorem watch_kcWrite (m : Nat) (hw : Bool) (st : Nat) (reply raw : List Byte) (s : State) :
    watch (kcWrite m hw st reply raw s) = watch s := by simp [kcWrite]

@[simp] theorem watch_kcReply (m st reason : Nat) (job : Word) (result : List Word) (s : State) :
    watch (kcReply m st reason job result s) = watch s := by
  unfold kcReply
  split <;> simp

@[simp] theorem watch_kcOk (m : Nat) (result : List Word) (s : State) : watch (kcOk m result s) = watch s := by simp [kcOk]

@[simp] theorem watch_leaseGranted (src : Nat) (f : Frame) (s : State) : watch (leaseGranted src f s) = watch s := by
  unfold leaseGranted
  split <;> simp

@[simp] theorem watch_kcRefuse (m reason : Nat) (result : List Word) (s : State) :
    watch (kcRefuse m reason result s) = watch s := by simp [kcRefuse]
@[simp] theorem watch_kcDenied (m : Nat) (result : List Word) (s : State) :
    watch (kcDenied m result s) = watch s := by simp [kcDenied]

@[simp] theorem watch_leaseRefused (src : Nat) (f : Frame) (s : State) : watch (leaseRefused src f s) = watch s := by
  unfold leaseRefused
  split <;> simp

@[simp] theorem watch_takeCtr (k : Nat) (s : State) : watch (takeCtr k s).2 = watch s := by simp [takeCtr]

@[simp] theorem watch_sendAuth (f : Frame) (s : State) : watch (sendAuth f s).2 = watch s := by
  unfold sendAuth
  dsimp only
  repeat' split
  all_goals simp

@[simp] theorem watch_leaseAnswer (src op tag : Nat) (body : List Byte) (s : State) :
    watch (leaseAnswer src op tag body s) = watch s := by simp [leaseAnswer]
@[simp] theorem watch_dropLease (res : Word) (s : State) : watch (dropLease res s) = watch s := (rfl)

@[simp] theorem watch_leaseEnd (res : Word) (s : State) : watch (leaseEnd res s) = watch s := by
  unfold leaseEnd
  split <;> simp

@[simp] theorem watch_leaseNow (res : Word) (s : State) : watch (leaseNow res s).2 = watch s := by
  unfold leaseNow
  split
  · rfl
  · split <;> simp

@[simp] theorem watch_answerGrant (l : LeaseEnt) (src tag d : Nat) (s : State) :
    watch (answerGrant l src tag d s) = watch s := by simp [answerGrant]
@[simp] theorem watch_sendRole (dst sub n : Nat) (body : List Byte) (s : State) :
    watch (sendRole dst sub n body s) = watch s := by simp [sendRole]
@[simp] theorem watch_sendSeg (r dst n i : Nat) (d : List Byte) (s : State) :
    watch (sendSeg r dst n i d s) = watch s := by simp [sendSeg]

@[simp] theorem watch_sendSegs (r dst n : Nat) (d : List Byte) (l : List Nat) (s : State) :
    watch (sendSegs r dst n d l s) = watch s := by
  induction l generalizing s with
  | nil => rfl
  | cons x t ih => simp [sendSegs, ih]

@[simp] theorem watch_sendTable (r : Nat) (s : State) : watch (sendTable r s) = watch s := by simp [sendTable]
@[simp] theorem watch_putLease (l : LeaseEnt) (s : State) : watch (putLease l s) = watch s := (rfl)

@[simp] theorem watch_leaseGive (src tag : Nat) (res : Word) (node sess d : Nat) (s : State) :
    watch (leaseGive src tag res node sess d s) = watch s := by
  unfold leaseGive
  dsimp only
  repeat' split
  all_goals simp

@[simp] theorem watch_leaseRequest (op src tag : Nat) (f : Frame) (s : State) : watch (leaseRequest op src tag f s) = watch s := by
  unfold leaseRequest
  dsimp only
  repeat' split
  all_goals simp

@[simp] theorem watch_leaseSend (w : LeaseWait) (s : State) : watch (leaseSend w s) = watch s := by simp [leaseSend]

@[simp] theorem watch_releaseList (m : Nat) (l : List (Word × Nat × Nat)) (s : State) : watch (releaseList m l s) = watch s := by
  induction l generalizing s with
  | nil => rfl
  | cons x t ih => simp [releaseList, ih]

@[simp] theorem watch_releaseLeases (m : Nat) (s : State) : watch (releaseLeases m s) = watch s := by simp [releaseLeases]
@[simp] theorem watch_closeSession (m : Nat) (notice : Bool) (s : State) :
    watch (closeSession m notice s) = watch s := by simp [closeSession]
@[simp] theorem watch_kcCtlWrite (m : Nat) (o : Origin) (v : Word) (s : State) :
    watch (kcCtlWrite m o v s) = watch s := by simp [kcCtlWrite]
@[simp] theorem watch_kcArm (m : Nat) (s : State) : watch (kcArm m s) = watch s := (rfl)
@[simp] theorem watch_kcHwBusy (m : Nat) (raw : List Byte) (s : State) : watch (kcHwBusy m raw s) = watch s := by simp [kcHwBusy]
@[simp] theorem watch_kcRepeat (m : Nat) (raw : List Byte) (s : State) : watch (kcRepeat m raw s) = watch s := by simp [kcRepeat]
@[simp] theorem watch_kcDoorbell (m : Nat) (o : Origin) (v : Word) (s : State) :
    watch (kcDoorbell m o v s) = watch s := by simp [kcDoorbell]

/-! ## Lane registers, the blotter and the monitors -/

@[simp] theorem watch_laneCtlWrite (l : Nat) (v : Word) (s : State) : watch (laneCtlWrite l v s) = watch s := by simp [laneCtlWrite]
@[simp] theorem watch_txeqWrite (l : Nat) (v : Word) (s : State) : watch (txeqWrite l v s) = watch s := by simp [txeqWrite]
@[simp] theorem watch_laneWrite (k : Nat) (v : Word) (s : State) : watch (laneWrite k v s) = watch s := by simp [laneWrite]
@[simp] theorem watch_bltClear (s : State) : watch (bltClear s) = watch s := by simp [bltClear]
@[simp] theorem watch_bltClrWrite (v : Word) (s : State) : watch (bltClrWrite v s) = watch s := by simp [bltClrWrite]
@[simp] theorem watch_setMon (m : Nat) (v : MonSt) (s : State) : watch (setMon m v s) = watch s := (rfl)

theorem watch_wrAll (v : Word) (l : List Nat) (s : State) (h : ∀ k ∈ l, k ≠ 4) : watch (wrAll v l s) = watch s := by
  induction l generalizing s with
  | nil => rfl
  | cons k t ih =>
    rw [wrAll, ih _ (fun j m => h j (List.mem_cons_of_mem _ m)), watch_wr _ _ (h k List.mem_cons_self)]

@[simp] theorem watch_monClear (m : Nat) (s : State) : watch (monClear m s) = watch s := by
  simp [monClear, watch_wrAll]
@[simp] theorem watch_monArm (m : Nat) (s : State) : watch (monArm m s) = watch s := by simp [monArm]
@[simp] theorem watch_monStop (m : Nat) (s : State) : watch (monStop m s) = watch s := by simp [monStop]
@[simp] theorem watch_monCtlWrite (m : Nat) (v : Word) (s : State) : watch (monCtlWrite m v s) = watch s := by simp [monCtlWrite]

/-! ## Keys -/

@[simp] theorem watch_nvFail (s : State) : watch (nvFail s) = watch s := by simp [nvFail]
@[simp] theorem watch_cphEvt (p i : Nat) (info : Word) (s : State) : watch (cphEvt p i info s) = watch s := by simp [cphEvt]

@[simp] theorem watch_keyLoad (p k ksize : Nat) (persist nvOk : Bool) (who : Word) (s : State) :
    watch (keyLoad p k ksize persist nvOk who s).2 = watch s := by
  unfold keyLoad
  dsimp only
  repeat' split
  all_goals simp

@[simp] theorem watch_goneOn (k : Nat) (s : State) : watch (goneOn k s) = watch s := by
  unfold goneOn
  split <;> simp

@[simp] theorem watch_eraseSlot (k : Nat) (s : State) : watch (eraseSlot k s) = watch s := by simp [eraseSlot]

@[simp] theorem watch_keyErase (p k : Nat) (who : Word) (s : State) : watch (keyErase p k who s).2 = watch s := by
  unfold keyErase
  split <;> simp

@[simp] theorem watch_cphCmd (p : Nat) (v : Word) (nvOk : Bool) (who : Word) (s : State) :
    watch (cphCmd p v nvOk who s) = watch s := by simp [cphCmd]
@[simp] theorem watch_keyinWrite (p i : Nat) (v : Word) (s : State) : watch (keyinWrite p i v s) = watch s := (rfl)
@[simp] theorem watch_slotOwnWrite (k : Nat) (v : Word) (s : State) : watch (slotOwnWrite k v s) = watch s := by simp [slotOwnWrite]

/-! ## Units started -/

@[simp] theorem watch_canFallback (k cause : Nat) (s : State) : watch (canFallback k cause s) = watch s := by simp [canFallback]
@[simp] theorem watch_canLeave (k : Nat) (s : State) : watch (canLeave k s) = watch s := by simp [canLeave]
@[simp] theorem watch_canRejoin (k : Nat) (s : State) : watch (canRejoin k s) = watch s := by simp [canRejoin]
@[simp] theorem watch_canStart (k : Nat) (s : State) : watch (canStart k s) = watch s := by simp [canStart]
@[simp] theorem watch_canWdogStart (k : Nat) (s : State) : watch (canWdogStart k s) = watch s := (rfl)
@[simp] theorem watch_canKick (k : Nat) (o : Origin) (s : State) : watch (canKick k o s) = watch s := by simp [canKick]
@[simp] theorem watch_canWdogWrite (k : Nat) (o : Origin) (v : Word) (s : State) :
    watch (canWdogWrite k o v s) = watch s := by simp [canWdogWrite]

@[simp] theorem watch_canCancelBits (k w : Nat) (v : Word) (l : List Nat) (s : State) :
    watch (canCancelBits k w v l s) = watch s := by
  induction l generalizing s with
  | nil => rfl
  | cons x t ih => simp [canCancelBits, ih]

@[simp] theorem watch_canTxcan (k w : Nat) (v : Word) (s : State) : watch (canTxcan k w v s) = watch s := by simp [canTxcan]

@[simp] theorem watch_claimSlots (n : Nat) (l : List Nat) (s : State) : watch (claimSlots n l s) = watch s := by
  induction l generalizing s with
  | nil => rfl
  | cons x t ih => simp [claimSlots, ih]

@[simp] theorem watch_nibStart (n : Nat) (s : State) : watch (nibStart n s) = watch s := by simp [nibStart]
@[simp] theorem watch_qlDoSwap (q : Nat) (s : State) : watch (qlDoSwap q s) = watch s := by simp [qlDoSwap]

@[simp] theorem watch_wpClaim (q : Nat) (l : List Nat) (s : State) : watch (wpClaim q l s) = watch s := by
  induction l generalizing s with
  | nil => rfl
  | cons x t ih => simp [wpClaim, ih]

/-! ## Discrete lines -/

@[simp] theorem watch_stormCut (p : Nat) (s : State) : watch (stormCut p s) = watch s := by simp [stormCut]
@[simp] theorem watch_dfltWrite (p : Nat) (v : Word) (s : State) : watch (dfltWrite p v s) = watch s := by simp [dfltWrite]
@[simp] theorem watch_ddetWrite (p : Nat) (v : Word) (s : State) : watch (ddetWrite p v s) = watch s := by simp [ddetWrite]
@[simp] theorem watch_dlimWrite (p : Nat) (v : Word) (s : State) : watch (dlimWrite p v s) = watch s := by simp [dlimWrite]
@[simp] theorem watch_safeWrite (p : Nat) (v : Word) (s : State) : watch (safeWrite p v s) = watch s := by simp [safeWrite]
@[simp] theorem watch_valWrite (p : Nat) (v : Bool) (s : State) : watch (valWrite p v s) = watch s := by simp [valWrite]
@[simp] theorem watch_doutRelease (p : Nat) (s : State) : watch (doutRelease p s) = watch s := by simp [doutRelease]
@[simp] theorem watch_doutWrite (p : Nat) (v : Word) (s : State) : watch (doutWrite p v s) = watch s := by simp [doutWrite]
@[simp] theorem watch_xbWrite (k : Nat) (v : Word) (s : State) : watch (xbWrite k v s) = watch s := by simp [xbWrite]

/-! ## Bridge windows -/

@[simp] theorem watch_claimAll (l : List Nat) (s : State) : watch (claimAll l s) = watch s := by
  induction l generalizing s with
  | nil => rfl
  | cons x t ih => simp [claimAll, ih]

@[simp] theorem watch_pbpStart (s : State) : watch (pbpStart s) = watch s := by simp [pbpStart]

@[simp] theorem watch_winStart (inb : Bool) (w : Nat) (s : State) : watch (winStart inb w s) = watch s := by
  unfold winStart
  split <;> simp

@[simp] theorem watch_winStop (inb : Bool) (w : Nat) (s : State) : watch (winStop inb w s) = watch s := by simp [winStop]
@[simp] theorem watch_winCtlWrite (inb : Bool) (w : Nat) (v : Word) (s : State) :
    watch (winCtlWrite inb w v s) = watch s := by simp [winCtlWrite]

/-! ## Presence -/

@[simp] theorem watch_closedChange (r : Nat) (b : Bool) (s : State) : watch (closedChange r b s) = watch s := by simp [closedChange]
@[simp] theorem watch_isolate (dev : Word) (s : State) : watch (isolate dev s) = watch s := by simp [isolate]
@[simp] theorem watch_ownPresence (r : Nat) (f : Frame) (s : State) : watch (ownPresence r f s) = watch s := by simp [ownPresence]
@[simp] theorem watch_putSeen (n r : Nat) (b : Bool) (s : State) : watch (putSeen n r b s) = watch s := by simp [putSeen]
@[simp] theorem watch_seenChange (n r : Nat) (b : Bool) (s : State) : watch (seenChange n r b s) = watch s := by simp [seenChange]
@[simp] theorem watch_presenceFrame (r : Nat) (f : Frame) (s : State) :
    watch (presenceFrame r f s) = watch s := by simp [presenceFrame]

/-! ## Requests -/

@[simp] theorem watch_setTag (t : Nat) (v : Tag) (s : State) : watch (setTag t v s) = watch s := (rfl)
@[simp] theorem watch_freeTag (t : Nat) (s : State) : watch (freeTag t s) = watch s := (rfl)

theorem watch_takeTag {key n : Nat} {v : Tag} {s : State} {r : Nat × State} (h : takeTag key n v s = some r) :
    watch r.2 = watch s := by
  unfold takeTag at h
  split at h
  · cases h
  · split at h
    · cases h
      rfl
    · cases h

@[simp] theorem watch_sendReq (t : Nat) (s : State) : watch (sendReq t s) = watch s := by simp [sendReq]

theorem watch_tryIssue {o : Origin} {node : Nat} {a : Access} {s t : State} (h : tryIssue o node a s = some t) :
    watch t = watch s := by
  unfold tryIssue at h
  split at h
  · cases h
  split at h
  · cases h
    simp
  · split at h
    · cases h
    next one =>
      cases h
      rw [watch_sendReq]
      exact watch_takeTag one

@[simp] theorem watch_issueRemote (o : Origin) (node : Nat) (a : Access) (s : State) :
    watch (issueRemote o node a s) = watch s := by
  unfold issueRemote
  dsimp only
  split
  · rfl
  · cases h : tryIssue o node a s with
    | none => rfl
    | some t => exact watch_tryIssue h

/-! ## The end of settling -/

@[simp] theorem watch_lingerEnd (s : State) : watch (lingerEnd s) = watch s := (rfl)
@[simp] theorem watch_shSettle (l : Nat) (s : State) : watch (shSettle l s) = watch s := by simp [shSettle]
@[simp] theorem watch_noticePinSettle (s : State) : watch (noticePinSettle s) = watch s := (rfl)

@[simp] theorem watch_bridgeDrive (l : List Nat) (s : State) : watch (bridgeDrive l s) = watch s := by
  induction l generalizing s with
  | nil => rfl
  | cons x t ih => simp [bridgeDrive, ih]

@[simp] theorem watch_bridgeSettle (s : State) : watch (bridgeSettle s) = watch s := by simp [bridgeSettle]
@[simp] theorem watch_inflightSettle (s : State) : watch (inflightSettle s) = watch s := (rfl)

end Sys2Proof.Proofs
end

section
/-! SUPPORT. The invariant of the refutation of O40: while no totals check can pass and the active set is shut, queue 0 stays still.
What takes a queue on keeps it. -/
namespace Sys2Proof.Proofs
open Sys2Proof Sys2Proof.Machine Sys2Proof.Laws

/-- An active set in which queue 0 admits nothing, and every port and every subscription is off. -/
def shutSet : Tbl Word := [(qReg 0 0x08, 0)]

/-- So much data stands open in queue 2 that no totals check passes (R172). -/
def BigPush (k : Queue) : Prop := ∃ i, k.push = some i ∧ 6400000 ≤ i.bytes.length

/-- A queue that holds nothing but a pending fragment, whose tail timer has fired. -/
structure Still (k : Queue) : Prop where
  items : k.items = []
  push  : k.push = none
  prod  : k.prod = none
  held  : k.held = []
  fired : k.pend ≠ none → k.fired = true

/-- The active set is shut, and stays so: every totals check fails. -/
def Frozen (w : Watch) : Prop := w.active = shutSet ∧ BigPush (tget (fun _ => {}) w.queues 2)

/-- What every part of settling keeps: the node has no number, and while the active set is frozen queue 0 is still. -/
structure Guard (w : Watch) : Prop where
  strap : w.strap = 0
  still : Frozen w → Still (tget (fun _ => {}) w.queues 0)

section

variable {s : State}

theorem Guard.queue0 (h : Guard (watch s)) (fz : Frozen (watch s)) : Still (queue 0 s) := h.still fz
theorem Guard.ne_of_items {q : Nat} (h : Guard (watch s)) (hi : (queue q s).items ≠ []) (fz : Frozen (watch s)) : q ≠ 0 :=
  fun e => hi (e ▸ (h.queue0 fz).items)
theorem Guard.ne_of_prod {q : Nat} (h : Guard (watch s)) (hi : (queue q s).prod ≠ none) (fz : Frozen (watch s)) : q ≠ 0 :=
  fun e => hi (e ▸ (h.queue0 fz).prod)
theorem Guard.ne_of_held {q : Nat} (h : Guard (watch s)) (hi : (queue q s).held ≠ []) (fz : Frozen (watch s)) : q ≠ 0 :=
  fun e => hi (e ▸ (h.queue0 fz).held)
theorem guard_congr {t : State} (e : watch t = watch s) (h : Guard (watch s)) : Guard (watch t) := e ▸ h

/-! ## Putting a queue -/

theorem queue_putQueue_same (q : Nat) (v : Queue) (s : State) :
    queue q (putQueue q v s) = { v with fired := v.fired && queueCells v != 0 } :=
  tget_tset_same _ _ _ _

theorem queue_putQueue_other {p q : Nat} (v : Queue) (s : State) (h : p ≠ q) : queue p (putQueue q v s) = queue p s :=
  tget_tset_other _ _ _ h

/-- A queue whose pushed item stays is put. -/
theorem frozen_putQueue {q : Nat} {v : Queue} (push : v.push = (queue q s).push) (fz : Frozen (watch (putQueue q v s))) :
    Frozen (watch s) := by
  obtain ⟨act, big⟩ := fz
  refine ⟨act, ?_⟩
  by_cases e : 2 = q
  · subst e
    have big' : BigPush (queue 2 (putQueue 2 v s)) := big
    rw [queue_putQueue_same] at big'
    obtain ⟨i, hi, len⟩ := big'
    exact ⟨i, push ▸ hi, len⟩
  · have big' : BigPush (queue 2 (putQueue q v s)) := big
    rw [queue_putQueue_other v s e] at big'
    exact big'

@[simp] theorem guard_putQueue {q : Nat} {v : Queue} (h : Guard (watch s)) (push : v.push = (queue q s).push)
    (zero : Frozen (watch s) → q ≠ 0) : Guard (watch (putQueue q v s)) := by
  refine ⟨h.strap, fun fz => ?_⟩
  have fz' := frozen_putQueue push fz
  show Still (queue 0 (putQueue q v s))
  rw [queue_putQueue_other v s (zero fz').symm]
  exact h.queue0 fz'

/-- A fragment is pending no longer. -/
@[simp] theorem guard_pendNone (q : Nat) (h : Guard (watch s)) : Guard (watch (putQueue q { queue q s with pend := none } s)) := by
  refine ⟨h.strap, fun fz => ?_⟩
  have still := h.queue0 (frozen_putQueue (v := { queue q s with pend := none }) rfl fz)
  show Still (queue 0 (putQueue q { queue q s with pend := none } s))
  by_cases e : 0 = q
  · subst e
    rw [queue_putQueue_same]
    exact ⟨still.items, still.push, still.prod, still.held, fun c => absurd rfl c⟩
  · rw [queue_putQueue_other _ s e]
    exact still

/-- With another active set any queue may be put. -/
theorem guard_putQueue_open {q : Nat} (v : Queue) (h : Guard (watch s)) (other : s.ink.active ≠ shutSet) :
    Guard (watch (putQueue q v s)) := ⟨h.strap, fun fz => absurd fz.1 other⟩

/-! ## Values committed and returned -/

@[simp] theorem guard_returnOne (c : Commit) (h : Guard (watch s)) : Guard (watch (returnOne c s)) := by
  cases c with
  | frag q n => exact guard_pendNone q h
  | count | quillRx | canHp => exact h

@[simp] theorem guard_returnAll (l : List Commit) (h : Guard (watch s)) : Guard (watch (returnAll l s)) := by
  induction l generalizing s with
  | nil => exact h
  | cons c t ih => exact ih (guard_returnOne c h)

@[simp] theorem guard_subCount (off v : Nat) (h : Guard (watch s)) : Guard (watch (subCount off v s)) := by
  have low : Guard (watch (wr off (satSub (rd s off) v) s)) := by
    by_cases e : off = 4
    · subst e
      have zero : rd s 4 = 0 := h.strap
      refine ⟨?_, h.still⟩
      show rd (wr 4 _ s) 4 = 0
      rw [rd_wr_same, zero]
      simp [satSub, w32]
    · exact guard_congr (watch_wr _ s e) h
  unfold subCount
  dsimp only
  split
  · exact low
  · exact low

@[simp] theorem guard_commitFrag (q n : Nat) (h : Guard (watch s)) : Guard (watch (commitFrag q n s)) := by
  unfold commitFrag
  dsimp only
  split
  · exact guard_pendNone q h
  next i rest items =>
    have zero := h.ne_of_items (q := q) (by simp [items])
    split
    · rw [watch_headGone]
      exact guard_putQueue h rfl zero
    · exact guard_putQueue h rfl zero

@[simp] theorem guard_commitOne (c : Commit) (h : Guard (watch s)) : Guard (watch (commitOne c s)) := by
  cases c with
  | count off v => exact guard_subCount off v h
  | frag q n =>
    rw [commitOne, watch_noticeAgain]
    exact guard_commitFrag q n h
  | quillRx q => rwa [commitOne, watch_quillRxDrop]
  | canHp c => rwa [commitOne, watch_canHpDrop]

@[simp] theorem guard_commitAll (l : List Commit) (h : Guard (watch s)) : Guard (watch (commitAll l s)) := by
  induction l generalizing s with
  | nil => exact h
  | cons c t ih => exact ih (guard_commitOne c h)

@[simp] theorem guard_commitOrg (o : Origin) (h : Guard (watch s)) : Guard (watch (commitOrg o s)) := by
  unfold commitOrg
  split
  · exact h
  · exact guard_commitAll _ (by rwa [watch_dropPend])

@[simp] theorem guard_returnSilent (o : Origin) (h : Guard (watch s)) : Guard (watch (returnSilent o s)) := by
  unfold returnSilent
  split
  · exact h
  · exact guard_returnAll _ (by rwa [watch_dropPend])

@[simp] theorem guard_returnSilentIdx (id : Nat) (l : List Nat) (h : Guard (watch s)) : Guard (watch (returnSilentIdx id l s)) := by
  induction l generalizing s with
  | nil => exact h
  | cons i t ih => exact ih (guard_returnSilent _ h)

@[simp] theorem guard_returnOrg (o : Origin) (h : Guard (watch s)) : Guard (watch (returnOrg o s)) := by
  unfold returnOrg
  split
  · exact h
  · rw [watch_popUncertainAll]
    exact guard_returnAll _ (by rwa [watch_dropPend])

@[simp] theorem guard_returnOrgs (l : List Pend) (h : Guard (watch s)) : Guard (watch (returnOrgs l s)) := by
  induction l generalizing s with
  | nil => exact h
  | cons p t ih => exact ih (guard_returnOrg _ h)

@[simp] theorem guard_unitForget (lo : Nat) (qs : List Nat) (h : Guard (watch s)) : Guard (watch (unitForget lo qs s)) :=
  guard_returnOrgs _ h

/-! ## Answers -/

@[simp] theorem guard_pcieFlush (id : Nat) (h : Guard (watch s)) : Guard (watch (pcieFlush id s)) := by
  unfold pcieFlush
  split
  · exact h
  split
  · dsimp only
    rw [watch_sendAcks]
    exact guard_returnSilentIdx id _ h
  · split
    · exact h
    · exact h

@[simp] theorem guard_pcieResult (id idx : Nat) (st : Status) (d : List Byte) (ack : Option Nat) (h : Guard (watch s)) :
    Guard (watch (pcieResult id idx st d ack s)) := by
  unfold pcieResult
  split
  · exact h
  split
  · exact h
  · dsimp only
    apply guard_pcieFlush
    rw [watch_errLog]
    split <;> simpa using h

@[simp] theorem guard_complete (o : Origin) (node : Nat) (a : Access) (st : Status) (d : List Byte) (h : Guard (watch s)) :
    Guard (watch (complete o node a st d s)) := by
  have h' : Guard (watch (unserve o s)) := by rwa [watch_unserve]
  unfold complete
  cases o with
  | ring src tag =>
    dsimp only
    split <;> simpa using h
  | pcie id idx => exact guard_pcieResult id idx st d none h'
  | spi => simpa using h
  | bridge w =>
    dsimp only
    split
    · exact h'
    · exact h'
  | pairK => exact guard_commitOrg .pairK h'
  | pairM => exact guard_commitOrg .pairM h'

@[simp] theorem guard_answer (o : Origin) (a : Access) (st : Status) (d : List Byte) (h : Guard (watch s)) :
    Guard (watch (answer o a st d s)) := by
  unfold answer
  split
  · dsimp only
    split
    · apply guard_complete
      simpa using h
    · simpa using h
  · have h' : Guard (watch (if isLocal o then countStatus true st s else s)) := by simpa using h
    dsimp only
    generalize (if isLocal o then countStatus true st s else s) = t at h'
    split
    · cases again : retryOwn o t with
      | none => exact guard_complete _ _ _ _ _ h'
      | some u => exact guard_congr (watch_retryOwn again) h'
    · exact guard_complete _ _ _ _ _ h'

/-! ## Pops and moves -/

theorem guard_tryPop {q count : Nat} {o : Origin} {st : Status} {d : List Byte} {t : State} (h : Guard (watch s))
    (zero : Frozen (watch s) → q ≠ 0) (popped : tryPop q count o s = some (st, d, t)) :
    Guard (watch t) ∧ (Frozen (watch t) → Frozen (watch s)) := by
  unfold tryPop at popped
  dsimp only at popped
  split at popped
  · cases popped
  split at popped
  · split at popped
    · cases popped
      exact ⟨guard_putQueue h rfl zero, fun fz => frozen_putQueue (v := { queue q s with pend := some _ }) rfl fz⟩
    · cases popped
      rw [watch_raiseCells]
      exact ⟨h, id⟩
  · cases popped

@[simp] theorem guard_releasePops (q fuel : Nat) (h : Guard (watch s)) : Guard (watch (releasePops q fuel s)) := by
  induction fuel generalizing s with
  | zero => exact h
  | succ n ih =>
    unfold releasePops
    split
    · exact h
    next p rest held =>
      split
      · exact h
      next st d t popped =>
        have zero := h.ne_of_held (q := q) (by simp [held])
        obtain ⟨ht, back⟩ := guard_tryPop h zero popped
        exact ih (guard_complete _ _ _ _ _ (guard_putQueue ht rfl (fun fz => zero (back fz))))

@[simp] theorem guard_meetBad (q : Nat) (h : Guard (watch s)) : Guard (watch (meetBad q s)) := by
  unfold meetBad
  dsimp only
  split
  · exact h
  next i rest items =>
    split
    · exact h
    · rw [watch_raiseCells]
      exact guard_putQueue h rfl (h.ne_of_items (by simp [items]))

@[simp] theorem guard_enqueue {q : Nat} (i : Item) (h : Guard (watch s)) (zero : Frozen (watch s) → q ≠ 0) :
    Guard (watch (enqueue q i s)) := by
  unfold enqueue
  dsimp only
  split
  · rw [watch_signalQueue]
    exact guard_putQueue h rfl zero
  · exact guard_putQueue h rfl zero

end

end Sys2Proof.Proofs
end

section
/-! SUPPORT. Under the shut active set no queue has a subscriber and queue 0 takes no cell (R167, R177): items, notices and open
items keep the invariant. -/
namespace Sys2Proof.Proofs
open Sys2Proof Sys2Proof.Machine Sys2Proof.Laws

/-! ## No queue has a subscriber at reset -/

theorem findRow_place {l : List RegRow} {o : Nat} {r : RegRow} (h : findRow l o = some r) :
    r ∈ l ∧ ∃ j < r.n, o = r.off + r.stride * j := by
  induction l with
  | nil => cases h
  | cons a t ih =>
    rw [findRow] at h
    split at h
    next place =>
      cases h
      simp only [Bool.and_eq_true, decide_eq_true_eq, beq_iff_eq] at place
      obtain ⟨⟨low, on⟩, within⟩ := place
      have := Nat.div_add_mod (o - r.off) r.stride
      exact ⟨List.mem_cons_self, _, within, by omega⟩
    next =>
      obtain ⟨mem, place⟩ := ih h
      exact ⟨List.mem_cons_of_mem _ mem, place⟩

/-- No register of the table that stands at offset 4 of 32 bytes, as Q_SUB does, has bit 16 set at reset. -/
def noSub (l : List RegRow) : Bool :=
  l.all (fun r => !bit (w32 r.rst) 16 || (List.range r.n).all (fun j => (r.off + r.stride * j) % 32 != 4))

theorem noSub_find {l : List RegRow} {o : Nat} {r : RegRow} (no : noSub l = true) (h : findRow l o = some r) (al : o % 32 = 4) :
    bit (w32 r.rst) 16 = false := by
  obtain ⟨mem, j, lt, rfl⟩ := findRow_place h
  have row := List.all_eq_true.mp no r mem
  cases set : bit (w32 r.rst) 16 with
  | false => rfl
  | true =>
    simp only [set, Bool.not_true, Bool.false_or, List.all_eq_true, List.mem_range, bne_iff_ne, ne_eq] at row
    exact absurd al (row j lt)

/-- Either branch of a test, whichever gave the row. -/
theorem row_of_ite {P c : Prop} [Decidable c] {a b : Option RegRow} {r : RegRow} (yes : c → a = some r → P)
    (no : ¬ c → b = some r → P) : (if c then a else b) = some r → P := by
  split
  next hc => exact yes hc
  next hc => exact no hc

/-- Above the first queue's registers, table by table: none sets the bit at reset. -/
theorem regRow_noSub {k : Nat} {r : RegRow} (high : 0x28000 ≤ k) (al : k % 32 = 4) :
    regRow k = some r → bit (w32 r.rst) 16 = false := by
  have low {n : Nat} (hn : n ≤ 0x28000 := by decide) : ¬ k < n := by omega
  rw [regRow, if_neg (by omega), if_neg low, if_neg low, if_neg low, if_neg low, if_neg low, if_neg low, if_neg low, if_neg low]
  iterate 3 refine row_of_ite (fun _ h => noSub_find (by decide) h (by omega)) (fun _ => ?_)
  refine row_of_ite (fun _ h => by cases h) (fun _ => ?_)
  iterate 3 refine row_of_ite (fun _ h => noSub_find (by decide) h (by omega)) (fun _ => ?_)
  refine row_of_ite (fun _ h => by cases h) (fun _ => ?_)
  refine row_of_ite (fun _ h => ?_) (fun _ => ?_)
  · obtain h | ⟨-, h⟩ := Option.or_eq_some_iff.mp h
    · exact noSub_find (by decide) h (by omega)
    · exact row_of_ite (fun _ h => noSub_find (by decide) h (by omega)) (fun _ h => by cases h) h
  refine row_of_ite (fun _ h => by cases h) (fun _ => ?_)
  refine row_of_ite (fun _ h => noSub_find (by decide) h (by omega)) (fun _ => ?_)
  refine row_of_ite (fun _ h => by cases h) (fun _ => ?_)
  iterate 2 refine row_of_ite (fun _ h => noSub_find (by decide) h (by omega)) (fun _ => ?_)
  refine row_of_ite (fun _ h => by cases h) (fun _ => ?_)
  refine row_of_ite (fun _ h => noSub_find (by decide) h (by omega)) (fun _ => ?_)
  refine row_of_ite (fun _ h => by cases h) (fun _ => ?_)
  refine row_of_ite (fun _ h => noSub_find (by decide) h (by omega)) (fun _ => ?_)
  · exact fun h => by cases h

theorem resetOf_noSub {k : Nat} (high : 0x28000 ≤ k) (al : k % 32 = 4) : bit (resetOf k) 16 = false := by
  unfold resetOf
  rw [if_neg (by simp; omega), if_neg (by omega)]
  split
  · decide
  split
  next r row => exact regRow_noSub high al row
  · decide

section

variable {s : State}

@[simp] theorem guard_ite (c : Prop) [Decidable c] (a b : Watch) : Guard (if c then a else b) = if c then Guard a else Guard b :=
  apply_ite Guard c a b
theorem tget_shutSet (k : Nat) (h : k ≠ qReg 0 0x08) : tget resetOf shutSet k = resetOf k := by
  simp only [shutSet, tget, if_neg h.symm]

theorem localSub_shut (q : Nat) (act : s.ink.active = shutSet) : localSub q s = none := by
  have off : bit (tget resetOf s.ink.active (qReg q 0x04)) 16 = false := by
    rw [act, tget_shutSet _ (by simp only [qReg]; omega)]
    exact resetOf_noSub (by simp only [qReg]; omega) (by simp only [qReg]; omega)
  simp [localSub, subOf, off]

theorem open_of_localSub {q d : Nat} (h : localSub q s = some d) : s.ink.active ≠ shutSet :=
  fun act => by rw [localSub_shut q act] at h; cases h

theorem admits_shut {n : Nat} (act : s.ink.active = shutSet) (hn : n ≠ 0) : admits 0 n s = false := by
  have cap : capIn s.ink.active 0 = 0 := by rw [act]; decide
  simp only [admits, cap, Bool.and_eq_false_iff, decide_eq_false_iff_not]
  exact .inl (by omega)

@[simp] theorem guard_flow (fuel q : Nat) (h : Guard (watch s)) : Guard (watch (flow fuel q s)) := by
  induction fuel generalizing q s with
  | zero => exact h
  | succ n ih =>
    unfold flow
    dsimp only
    split
    · exact guard_releasePops _ _ h
    next d sub =>
      have other := open_of_localSub sub
      split
      · exact h
      split
      next i rest pend items =>
        split
        · exact guard_releasePops _ _ (guard_meetBad _ h)
        split
        · apply ih
          apply ih
          apply guard_enqueue _ (guard_putQueue_open _ h other)
          exact fun fz => absurd fz.1 other
        split
        · exact guard_releasePops _ _ h
        · apply guard_releasePops
          apply guard_putQueue_open
          · simpa using h
          · exact fun act => other act
      · exact h

@[simp] theorem guard_closeItem {q : Nat} (i : Item) (h : Guard (watch s)) (zero : Frozen (watch s) → q ≠ 0) :
    Guard (watch (closeItem q i s)) := guard_flow _ _ (guard_enqueue _ h zero)

@[simp] theorem guard_putItem {q : Nat} (i : Item) (h : Guard (watch s)) (zero : Frozen (watch s) → q ≠ 0) :
    Guard (watch (putItem q i s).2) := by
  unfold putItem
  split
  · exact guard_closeItem _ h zero
  · simpa using h

@[simp] theorem guard_noticeItem (n g ev unit : Nat) (info : Word) (tb : DWord) (h : Guard (watch s)) :
    Guard (watch (noticeItem n g ev unit info tb s).2) := by
  unfold noticeItem
  dsimp only [fresh]
  exact guard_putItem _ h (fun _ => by omega)

@[simp] theorem guard_coalFlush (n : Nat) (h : Guard (watch s)) : Guard (watch (coalFlush n s)) := by
  unfold coalFlush
  dsimp only [fresh]
  split
  · exact h
  · exact guard_noticeItem _ _ _ _ _ _ h

@[simp] theorem guard_noticeTo (n g ev unit : Nat) (info : Word) (tb : DWord) (h : Guard (watch s)) :
    Guard (watch (noticeTo n g ev unit info tb s)) := by
  have made := guard_noticeItem n g ev unit info tb (guard_coalFlush n h)
  unfold noticeTo
  dsimp only
  generalize noticeItem n g ev unit info tb (coalFlush n s) = r at made
  obtain ⟨ok, t⟩ := r
  cases ok with
  | true => exact made
  | false => exact guard_congr (watch_bump _ _ (by omega)) made

@[simp] theorem guard_createNotice (g ev unit : Nat) (info : Word) (tb : DWord) (h : Guard (watch s)) :
    Guard (watch (createNotice g ev unit info tb s)) := by
  unfold createNotice
  dsimp only
  split
  · exact guard_noticeTo _ _ _ _ _ _ h
  · exact h

@[simp] theorem guard_prodClose (q : Nat) (user : Word) (trunc : Bool) (h : Guard (watch s)) :
    Guard (watch (prodClose q user trunc s)) := by
  unfold prodClose
  dsimp only
  split
  · exact h
  next i prod =>
    have zero := h.ne_of_prod (q := q) (by simp [prod])
    have taken := guard_putQueue (v := { queue q s with prod := none }) h rfl zero
    exact guard_closeItem _ taken (fun fz => zero (frozen_putQueue (v := { queue q s with prod := none }) rfl fz))

@[simp] theorem guard_prodByte {q : Nat} (b : Byte) (user : Word) (h : Guard (watch s)) :
    Guard (watch (prodByte q b user s).2) := by
  unfold prodByte
  dsimp only
  split
  next room =>
    refine guard_putQueue h rfl ?_
    rintro fz rfl
    simp [(h.queue0 fz).prod, admits_shut fz.1] at room
  · simpa using h

@[simp] theorem guard_setHeadPos (q p : Nat) (h : Guard (watch s)) : Guard (watch (setHeadPos q p s)) := by
  unfold setHeadPos
  dsimp only
  split
  · exact h
  next i r items => exact guard_putQueue h rfl (h.ne_of_items (by simp [items]))

@[simp] theorem guard_freeHead (q : Nat) (h : Guard (watch s)) : Guard (watch (freeHead q s)) := by
  unfold freeHead
  dsimp only
  split
  · exact h
  next some =>
    rw [watch_headGone]
    exact guard_putQueue h rfl (h.ne_of_items (by simpa using some))

end

end Sys2Proof.Proofs
end

section
/-! SUPPORT. The nibs keep the invariant. -/
namespace Sys2Proof.Proofs
open Sys2Proof Sys2Proof.Machine Sys2Proof.Laws

section

variable {s : State}

/-- The open item of a queue, if it has one, takes another content. -/
@[simp] theorem guard_putProd {q : Nat} {i : Item} (v : Option Item) (prod : (queue q s).prod = some i) (h : Guard (watch s)) :
    Guard (watch (putQueue q { queue q s with prod := v } s)) := guard_putQueue h rfl (h.ne_of_prod (by simp [prod]))

@[simp] theorem guard_nibDrain (n fuel : Nat) (h : Guard (watch s)) : Guard (watch (nibDrain n fuel s)) := by
  induction fuel generalizing s with
  | zero => exact h
  | succ fuel ih =>
    unfold nibDrain
    dsimp only
    split
    · exact h
    · apply ih
      rw [watch_putFifo]
      split
      next i prod => exact guard_putProd _ prod h
      · exact h
    · apply ih
      simp [h]
    next b r fifo =>
      split
      · apply ih
        simpa using h
      · have made := guard_prodByte (q := 2 * n + 1) b 0 h
        generalize prodByte (2 * n + 1) b 0 s = p at made
        obtain ⟨ok, t⟩ := p
        cases ok with
        | true =>
          apply ih
          simpa using made
        | false =>
          dsimp only at made ⊢
          split
          · exact made
          · apply ih
            simp [made]

@[simp] theorem guard_nibDrainAll (n : Nat) (h : Guard (watch s)) : Guard (watch (nibDrainAll n s)) := guard_nibDrain _ _ h

@[simp] theorem guard_nibRefill (n : Nat) (h : Guard (watch s)) : Guard (watch (nibRefill n s)) := by
  unfold nibRefill
  dsimp only
  split
  · exact h
  · simp [h]

@[simp] theorem guard_rxClose (n flags : Nat) (h : Guard (watch s)) : Guard (watch (rxClose n flags s)) := by simp [rxClose, h]
@[simp] theorem guard_rxPut (n : Nat) (b : Byte) (h : Guard (watch s)) : Guard (watch (rxPut n b s)) := by simp [rxPut, h]

@[simp] theorem guard_rxPutAll (n : Nat) (l : List Byte) (h : Guard (watch s)) : Guard (watch (rxPutAll n l s)) := by
  induction l generalizing s with
  | nil => exact h
  | cons b t ih => exact ih (guard_rxPut n b h)

@[simp] theorem guard_nibRxCut (n : Nat) (got : List Byte) (h : Guard (watch s)) : Guard (watch (nibRxCut n got s)) := by
  have refilled : Guard (watch (nibRefill n (rxPutAll n got s))) := guard_nibRefill n (guard_rxPutAll n got h)
  simp [nibRxCut, refilled]

@[simp] theorem guard_rxLenClose (n : Nat) (h : Guard (watch s)) : Guard (watch (rxLenClose n s)) := by simp [rxLenClose, h]
@[simp] theorem guard_uartChar (n data : Nat) (par stop : Bool) (noise ns : Nat) (h : Guard (watch s)) :
    Guard (watch (uartChar n data par stop noise ns s)) := by simp [uartChar, h]

@[simp] theorem guard_uartLoop (n fuel : Nat) (d : List Byte) (h : Guard (watch s)) : Guard (watch (uartLoop n fuel d s)) := by
  induction fuel generalizing d s with
  | zero => exact h
  | succ fuel ih =>
    unfold uartLoop
    dsimp only
    split
    · exact h
    · apply ih
      simp [h]

@[simp] theorem guard_uartSend (n len : Nat) (h : Guard (watch s)) : Guard (watch (uartSend n len s)) := by
  unfold uartSend
  split
  · exact h
  · simp [h]

@[simp] theorem guard_nibTxDone (n : Nat) (h : Guard (watch s)) : Guard (watch (nibTxDone n s)) := by simp [nibTxDone, h]
@[simp] theorem guard_nibPoison (n : Nat) (cells : List Nat) (h : Guard (watch s)) : Guard (watch (nibPoison n cells s)) := by
  simp [nibPoison, h]

@[simp] theorem guard_streamByte (n : Nat) (h : Guard (watch s)) : Guard (watch (streamByte n s).2) := by
  unfold streamByte
  split
  · exact h
  dsimp only
  split
  · exact h
  split
  · exact guard_nibPoison _ _ h
  · simp [h]

@[simp] theorem guard_spiTargetBytes (n fuel : Nat) (h : Guard (watch s)) : Guard (watch (spiTargetBytes n fuel s)) := by
  induction fuel generalizing s with
  | zero => exact h
  | succ fuel ih =>
    have sent := guard_streamByte n h
    unfold spiTargetBytes
    generalize streamByte n s = p at sent
    obtain ⟨b, t⟩ := p
    apply ih
    cases b with
    | some b => simpa using sent
    | none => simpa using sent

@[simp] theorem guard_i2cTgtBytes (n fuel : Nat) (h : Guard (watch s)) : Guard (watch (i2cTgtBytes n fuel s)) := by
  induction fuel generalizing s with
  | zero => exact h
  | succ fuel ih =>
    have sent := guard_streamByte n h
    unfold i2cTgtBytes
    generalize streamByte n s = p at sent
    obtain ⟨b, t⟩ := p
    cases b with
    | some b =>
      apply ih
      simpa using sent
    | none => exact sent

@[simp] theorem guard_nibTxCut (n sent : Nat) (h : Guard (watch s)) : Guard (watch (nibTxCut n sent s)) := by simp [nibTxCut, h]
@[simp] theorem guard_nibCut (n sent : Nat) (got : List Byte) (h : Guard (watch s)) : Guard (watch (nibCut n sent got s)) := by
  simp [nibCut, h]
@[simp] theorem guard_returnWhere (p : Commit → Bool) (h : Guard (watch s)) : Guard (watch (returnWhere p s)) :=
  guard_returnOrgs _ h

@[simp] theorem guard_nibReset (n sent : Nat) (got : List Byte) (h : Guard (watch s)) : Guard (watch (nibReset n sent got s)) := by
  have cut := guard_nibCut n sent got (guard_unitForget (nibReg n 0) [2 * n, 2 * n + 1] h)
  simp [nibReset, h, cut]

@[simp] theorem guard_nibQuar (n : Nat) (h : Guard (watch s)) : Guard (watch (nibQuar n s)) := by
  simp [nibQuar, h]

end

end Sys2Proof.Proofs
end

section
/-! SUPPORT. The quills keep the invariant. -/
namespace Sys2Proof.Proofs
open Sys2Proof Sys2Proof.Machine Sys2Proof.Laws

section

variable {s : State}

/-- What holds of a result's state holds of the state by name. -/
theorem Guard.of_pair {α : Type} {r : α × State} {a : α} {t : State} (e : r = (a, t)) (h : Guard (watch r.2)) :
    Guard (watch t) := by
  subst e
  exact h

@[simp] theorem guard_qlCloseItem (q tag : Nat) (more trunc : Bool) (h : Guard (watch s)) :
    Guard (watch (qlCloseItem q tag more trunc s)) := guard_prodClose _ _ _ h

@[simp] theorem guard_qlMarkClose (q : Nat) (h : Guard (watch s)) : Guard (watch (qlMarkClose q s)) := by
  unfold qlMarkClose
  split
  · exact h
  dsimp only
  split
  · simp [h]
  · simp [h]

@[simp] theorem guard_qlMoveRx (q : Nat) (count : Bool) (fuel : Nat) (h : Guard (watch s)) :
    Guard (watch (qlMoveRx q count fuel s)) := by
  induction fuel generalizing s with
  | zero => exact h
  | succ fuel ih =>
    unfold qlMoveRx
    dsimp only
    split
    · exact h
    next e r fifo =>
      split
      next room =>
        have zero (fz : Frozen (watch s)) : qlRxq q s ≠ 0 := by
          intro e
          simp [e, (h.queue0 fz).prod, admits_shut fz.1] at room
        have put {i : Item} : Guard (watch (putQueue (qlRxq q s) { queue (qlRxq q s) s with prod := some i } s)) :=
          guard_putQueue h rfl zero
        apply ih
        simp [put]
      · simp [h]

@[simp] theorem guard_qlStore (q : Nat) (close : Bool) (h : Guard (watch s)) : Guard (watch (qlStore q close s).2) := by
  unfold qlStore
  dsimp only
  split
  · simp [h]
  split
  · split
    · simpa using h
    · simp [h]
  · simp [h]

@[simp] theorem guard_qlTakeTx (q : Nat) (h : Guard (watch s)) : Guard (watch (qlTakeTx q s).2) := by
  unfold qlTakeTx
  dsimp only
  split
  · exact h
  split
  · simpa using h
  split
  · simpa using h
  split
  · simp [h]
  · simpa using h

@[simp] theorem guard_qlLoad (q n : Nat) (h : Guard (watch s)) : Guard (watch (qlLoad q n s).2) := by
  have taken := guard_qlTakeTx q h
  unfold qlLoad
  generalize qlTakeTx q s = p at taken
  obtain ⟨w, t⟩ := p
  cases w with
  | none => simpa using taken
  | some w => simpa using taken

@[simp] theorem guard_qlSlotStart (q act : Nat) (w : Word) (h : Guard (watch s)) : Guard (watch (qlSlotStart q act w s).2) := by
  have loaded : Guard (watch (if (act == 1 || act == 3) && qlFill q s == 0 then qlLoad q 31 s else (true, s)).2) := by
    split
    · exact guard_qlLoad q 31 h
    · exact h
  unfold qlSlotStart
  dsimp only
  generalize (if (act == 1 || act == 3) && qlFill q s == 0 then qlLoad q 31 s else (true, s)) = p at loaded
  obtain ⟨ok, t⟩ := p
  cases ok with
  | false => exact loaded
  | true => simpa using loaded

@[simp] theorem guard_qlSlot (q act : Nat) (w : Word) (smp : Bool) (h : Guard (watch s)) :
    Guard (watch (qlSlot q act w smp s).2) := by
  unfold qlSlot
  dsimp only
  split
  · simp [h]
  · simp [apply_ite Prod.snd, h]

@[simp] theorem guard_qlSlots (q act : Nat) (w : Word) (n : Nat) (smp : List Bool) (h : Guard (watch s)) :
    Guard (watch (qlSlots q act w n smp s).2) := by
  induction n generalizing smp s with
  | zero => exact h
  | succ n ih =>
    have slot := guard_qlSlot q act w (smp.headD false) h
    unfold qlSlots
    generalize qlSlot q act w (smp.headD false) s = p at slot
    obtain ⟨ok, t⟩ := p
    cases ok with
    | false => exact slot
    | true =>
      apply ih
      simpa using slot

@[simp] theorem guard_qlAction (q : Nat) (w : Word) (smp : List Bool) (h : Guard (watch s)) :
    Guard (watch (qlAction q w smp s).2) := by
  unfold qlAction
  dsimp only
  split <;> simp [h]

@[simp] theorem guard_qlPartial (q : Nat) (c : QlCut) (h : Guard (watch s)) : Guard (watch (qlPartial q c s).2) := by
  unfold qlPartial
  dsimp only
  generalize qlStep q (qlBank q s) (qlCur q s) s = w
  have asked : Guard (watch (if !stWait w || (stCond w == 2 || stCond w == 3) then (true, s) else qlCond q w false s).2) := by
    split <;> simp [h]
  generalize (if !stWait w || (stCond w == 2 || stCond w == 3) then (true, s) else qlCond q w false s) = p at asked
  obtain ⟨go, t⟩ := p
  dsimp only at asked ⊢
  split
  · exact h
  split
  · exact h
  split
  · exact asked
  split
  · split
    next u ran => exact Guard.of_pair ran (guard_qlSlots _ _ _ _ _ (by simpa using asked))
    next u ran =>
      have slots : Guard (watch u) := Guard.of_pair ran (guard_qlSlots _ _ _ _ _ (by simpa using asked))
      simp [slots]
  · simp [asked]

@[simp] theorem guard_qlReset (q : Nat) (c : QlCut) (h : Guard (watch s)) : Guard (watch (qlReset q c s)) := by
  unfold qlReset
  split
  · exact h
  extract_lets cut k head t ended moved left closed released cleared zeroed
  have hcut : Guard (watch cut) := guard_qlPartial q c (guard_unitForget _ _ h)
  have hended : Guard (watch ended) := by
    unfold ended
    split
    · split
      · exact hcut
      next i r items => exact guard_putQueue hcut rfl (hcut.ne_of_items (by simp [items]))
    · exact hcut
  have hclosed : Guard (watch closed) := by simp [closed, moved, hended]
  simp [zeroed, cleared, released, hclosed]

@[simp] theorem guard_qlQuar (q : Nat) (h : Guard (watch s)) : Guard (watch (qlQuar q s)) := by simp [qlQuar, h]
@[simp] theorem guard_qlHoldIdle (q : Nat) (h : Guard (watch s)) : Guard (watch (qlHoldIdle q s)) := by simp [qlHoldIdle, h]

end

end Sys2Proof.Proofs
end

section
/-! SUPPORT. CAN controllers, the bridge, the check engine, quarantine and safe state keep the invariant. -/
namespace Sys2Proof.Proofs
open Sys2Proof Sys2Proof.Machine Sys2Proof.Laws

section

variable {s : State}

@[simp] theorem guard_canAdmit (k : Nat) (h : Guard (watch s)) : Guard (watch (canAdmit k s)) := by
  unfold canAdmit
  dsimp only
  split
  · exact h
  next u r t stage =>
    have made := guard_putItem (q := 513 + 2 * k) { bytes := r, user := u } h (fun _ => by omega)
    split
    next v e => simpa using Guard.of_pair e made
    next v e => exact Guard.of_pair e made

@[simp] theorem guard_canAdmitN (k n : Nat) (h : Guard (watch s)) : Guard (watch (canAdmitN k n s)) := by
  induction n generalizing s with
  | zero => exact h
  | succ n ih => exact ih (guard_canAdmit k h)

@[simp] theorem guard_canReturn (k : Nat) (l : List Nat) (h : Guard (watch s)) : Guard (watch (canReturn k l s)) := by
  induction l generalizing s with
  | nil => exact h
  | cons i t ih =>
    unfold canReturn
    split
    · exact ih h
    · apply ih
      simp [h]

@[simp] theorem guard_canReset (k : Nat) (h : Guard (watch s)) : Guard (watch (canReset k s)) := by
  unfold canReset
  split
  · exact h
  have cut : Guard (watch (canAdmitN k 4 (canCutBus k (unitForget (canReg k 0) [512 + 2 * k, 513 + 2 * k] s)))) := by simp [h]
  simp [cut]

@[simp] theorem guard_canQuar (k : Nat) (h : Guard (watch s)) : Guard (watch (canQuar k s)) := by simp [canQuar, h]

@[simp] theorem guard_outEnd (st : Status) (h : Guard (watch s)) : Guard (watch (outEnd st s)) := by
  unfold outEnd
  split
  · exact h
  next q t todo =>
    extract_lets ran low told popped freed noted
    have hpopped : Guard (watch popped) := by simp [popped, told, low, h]
    split
    · exact hpopped
    split
    · simp [freed, hpopped]
    · apply guard_answer
      unfold noted
      split <;> simp [hpopped]

@[simp] theorem guard_pbpRelease (h : Guard (watch s)) : Guard (watch (pbpRelease s)) := by simp [pbpRelease, h]

@[simp] theorem guard_outBusy (l : List OutReq) (h : Guard (watch s)) : Guard (watch (outBusy l s)) := by
  induction l generalizing s with
  | nil => exact h
  | cons q t ih =>
    apply ih
    simp [h]

@[simp] theorem guard_pbpReset (h : Guard (watch s)) : Guard (watch (pbpReset s)) := by
  unfold pbpReset
  extract_lets returned dropped waiting kept ended answered regs cleared
  have hdropped : Guard (watch dropped) := by simp [dropped, returned, h]
  have hended : Guard (watch ended) := by simp [ended, kept, hdropped]
  have windows : watch cleared = watch regs := by
    refine watch_winClear _ _ fun k mem => ?_
    obtain mem | mem := List.mem_append.mp mem
    · obtain ⟨w, -, rfl⟩ := List.mem_map.mp mem
      simp only [winO]
      omega
    · obtain ⟨w, -, rfl⟩ := List.mem_map.mp mem
      simp only [winI]
      omega
  simp [windows, regs, answered, hended]

@[simp] theorem guard_pbpQuar (h : Guard (watch s)) : Guard (watch (pbpQuar s)) := by simp [pbpQuar, h]

@[simp] theorem guard_cphStop (p : Nat) (h : Guard (watch s)) : Guard (watch (cphStop p s)) := by
  unfold cphStop
  extract_lets direct st ended
  have hended : Guard (watch ended) := by
    unfold ended
    split
    · simp [h]
    · exact h
  unfold direct
  split
  · simp [hended]
  · exact hended

@[simp] theorem guard_cphReset (p : Nat) (h : Guard (watch s)) : Guard (watch (cphReset p s)) := by simp [cphReset, h]
@[simp] theorem guard_cphQuar (p : Nat) (h : Guard (watch s)) : Guard (watch (cphQuar p s)) := by simp [cphQuar, h]
@[simp] theorem guard_quarReset (kind i : Nat) (h : Guard (watch s)) : Guard (watch (quarReset kind i s)) := by
  simp [quarReset, h]

@[simp] theorem guard_quarantine (n : Nat) (info : Word) (inj : Bool) (h : Guard (watch s)) :
    Guard (watch (quarantine n info inj s)) := by
  unfold quarantine
  split
  · exact h
  split
  · exact h
  · simp [h]

/-! ## Reactions -/

theorem guard_overUnits {f : Nat → State → State} (l : List Nat) (keep : ∀ n t, Guard (watch t) → Guard (watch (f n t)))
    (h : Guard (watch s)) : Guard (watch (overUnits f l s)) := by
  induction l generalizing s with
  | nil => exact h
  | cons n t ih => exact ih (keep n s h)

@[simp] theorem guard_nibHoldIdle (n : Nat) (h : Guard (watch s)) : Guard (watch (nibHoldIdle n s)) := by simp [nibHoldIdle, h]
@[simp] theorem guard_pbpSafe (h : Guard (watch s)) : Guard (watch (pbpSafe s)) := by simp [pbpSafe, h]
@[simp] theorem guard_holdNibs (l : List Nat) (h : Guard (watch s)) : Guard (watch (overUnits nibHoldIdle l s)) :=
  guard_overUnits l (fun n _ => guard_nibHoldIdle n) h
@[simp] theorem guard_holdQuills (l : List Nat) (h : Guard (watch s)) : Guard (watch (overUnits qlHoldIdle l s)) :=
  guard_overUnits l (fun n _ => guard_qlHoldIdle n) h

@[simp] theorem guard_safeAll (h : Guard (watch s)) : Guard (watch (safeAll s)) := by
  refine guard_pbpSafe (guard_overUnits _ (fun k t ht => by rwa [watch_canSafe]) ?_)
  simp [h]

@[simp] theorem guard_react (p : Post) (h : Guard (watch s)) : Guard (watch (react p s)) := by
  cases p with
  | notice g ev unit info tb => exact guard_createNotice g ev unit info tb h
  | quar src info inj => exact guard_quarantine src info inj h
  | safe => exact guard_safeAll h
  | session n ev info tb => exact guard_noticeTo n 0 ev n info tb h

@[simp] theorem guard_reactAll (n : Nat) (h : Guard (watch s)) : Guard (watch (reactAll n s)) := by
  induction n generalizing s with
  | zero => exact h
  | succ n ih =>
    unfold reactAll
    split
    · exact h
    · exact ih (guard_react _ h)

end

end Sys2Proof.Proofs
end

section
/-! SUPPORT. Accesses keep the invariant: ports are disabled, and no totals check passes, so that APPLY leaves the
active set (R171, R172). -/
namespace Sys2Proof.Proofs
open Sys2Proof Sys2Proof.Machine Sys2Proof.Laws

section

variable {s : State}

@[simp] theorem guard_pfFinish (h : Guard (watch s)) : Guard (watch (pfFinish s)) := by
  unfold pfFinish
  split
  · split
    · split
      · split
        · exact guard_outEnd _ h
        split
        · exact h
        · simp [h]
      · exact h
    · exact h
  · exact h

@[simp] theorem guard_pfHits (n : Nat) (h : Guard (watch s)) : Guard (watch (pfHits n s)) := by
  induction n generalizing s with
  | zero => exact h
  | succ n ih =>
    unfold pfHits
    split
    · split
      · split
        · apply ih
          simp [h]
        · exact h
      · exact h
    · exact h

@[simp] theorem guard_outAdmit (o : Origin) (a : Access) (win : Option Nat) (h : Guard (watch s)) :
    Guard (watch (outAdmit o a win s)) := by
  unfold outAdmit
  extract_lets posted push waiting pushed
  split
  · have made := guard_putItem (q := 640 + win.getD 0) { bytes := a.data.take a.count } h (fun _ => by omega)
    split
    next t e =>
      have ht : Guard (watch t) := Guard.of_pair e made
      exact guard_answer _ _ _ _ ht
    next t e =>
      have ht : Guard (watch t) := Guard.of_pair e made
      simp [ht]
  · have hwaiting : Guard (watch waiting) := h
    simp [pushed, hwaiting]

@[simp] theorem guard_pbpRequest (o : Origin) (a : Access) (h : Guard (watch s)) : Guard (watch (pbpRequest o a s)) := by
  simp [pbpRequest, h]

@[simp] theorem guard_pushItem {q : Nat} (w0 user : Word) (data : List Byte) (h : Guard (watch s))
    (other : s.ink.active ≠ shutSet) :
    Guard (watch (pushItem q w0 user data s).2) := by
  unfold pushItem
  extract_lets n k i i' need
  split
  · exact h
  split
  · exact h
  split
  · simpa using h
  split
  · exact guard_closeItem _ (guard_putQueue_open _ h other) (fun fz => absurd fz.1 other)
  · exact guard_putQueue_open _ h other

/-- Whatever an access is answered with, the state it leaves is guarded. -/
def GuardServed : Served → Prop
  | .now _ _ _ s => Guard (watch s)
  | .held => True
  | .later s => Guard (watch s)

/-- Under the shut active set no port window is enabled. -/
theorem open_of_port {x : Nat} (lt : x < 64) (on : bit (tget resetOf s.ink.active (inkReg (0x100 + 4 * x))) 31 = true) :
    s.ink.active ≠ shutSet := by
  intro act
  have off : (List.range 64).all (fun x => !bit (resetOf (inkReg (0x100 + 4 * x))) 31) = true := by decide
  rw [act, tget_shutSet _ (by simp only [inkReg, qReg]; omega)] at on
  have := List.all_eq_true.mp off x (List.mem_range.mpr lt)
  simp [on] at this

theorem guard_portServe (o : Origin) (who : Word) {a : Access} (port : isPort a.addr = true) (h : Guard (watch s)) :
    GuardServed (portServe o who a s) := by
  have lt : (a.addr - 0x24000) / 0x100 < 64 := by
    simp only [isPort, Bool.and_eq_true, decide_eq_true_eq] at port
    omega
  unfold portServe
  extract_lets w q pushed
  split
  · exact h
  next on =>
    have other := open_of_port lt (by simpa using on)
    split
    · exact h
    split
    · split
      · exact h
      split
      · exact h
      · exact guard_flow _ _ (guard_putQueue_open _ h other)
    · split
      · exact h
      · exact guard_pushItem _ _ _ h other
    · split
      · exact h
      · exact guard_pushItem _ _ _ h other

/-! ## The active set -/

theorem le_sumN {l : List Nat} {n : Nat} (mem : n ∈ l) : n ≤ sumN l := by
  induction mem with
  | head => exact Nat.le_add_right _ _
  | tail x _ ih => exact Nat.le_trans ih (Nat.le_add_left _ _)

theorem mem_of_tget {α : Type} {d : Nat → α} {t : Tbl α} {k : Nat} (h : tget d t k ≠ d k) : (k, tget d t k) ∈ t := by
  induction t with
  | nil => exact absurd rfl h
  | cons e t ih =>
    obtain ⟨j, v⟩ := e
    by_cases e : j = k
    · subst e
      simp [tget]
    · rw [tget, if_neg e] at h ⊢
      exact List.mem_cons_of_mem _ (ih h)

/-- The cells of so much data exceed the whole of the memory, however many its queue has reserved. -/
theorem cells_of_bigPush {k : Queue} (big : BigPush k) (t : Tbl Word) (q : Nat) : 32768 < queueCells k - rsvIn t q := by
  obtain ⟨i, push, len⟩ := big
  have cells : 100000 ≤ itemCells i := by
    simp only [itemCells, ceilDiv]
    omega
  have rsv : rsvIn t q < 65536 := by
    simp only [rsvIn, fld, bitsOf]
    omega
  simp only [queueCells, push, Option.map_some, Option.getD_some]
  omega

theorem totalsCheck_big (big : BigPush (queue 2 s)) : (totalsCheck s).1 ≠ 0 := by
  have here : (2, queue 2 s) ∈ s.ink.queues := by
    refine mem_of_tget (d := fun _ => ({} : Queue)) fun none => ?_
    obtain ⟨i, push, -⟩ := big
    rw [queue, none] at push
    cases push
  have more : 32768 < sumN (s.ink.queues.map (fun e => queueCells e.2 - rsvIn s.regs e.1)) :=
    Nat.lt_of_lt_of_le (cells_of_bigPush big s.regs 2) (le_sumN (List.mem_map.mpr ⟨_, here, rfl⟩))
  have full (n : Nat) : 32768 - n < sumN (s.ink.queues.map (fun e => queueCells e.2 - rsvIn s.regs e.1)) := by omega
  unfold totalsCheck
  simp only [full, decide_true, Bool.true_or, if_true]
  repeat' split
  all_goals simp

@[simp] theorem guard_inkApply (h : Guard (watch s)) : Guard (watch (inkApply s)) := by
  have told : Guard (watch (wr inkReason (w32 ((totalsCheck s).2 * 65536 + (totalsCheck s).1)) s)) := by simpa using h
  unfold inkApply
  dsimp only
  split
  next pass =>
    exact ⟨told.strap, fun fz => absurd pass (totalsCheck_big fz.2)⟩
  · exact told

end

section

variable {s : State}

/-! ## RUN and the resets -/

@[simp] theorem guard_flownaAll (l : List Nat) (h : Guard (watch s)) : Guard (watch (overUnits nibFlowna l s)) :=
  guard_overUnits l (fun n t ht => by rwa [watch_nibFlowna]) h

@[simp] theorem guard_hubRun (h : Guard (watch s)) : Guard (watch (hubRun s)) := by
  unfold hubRun
  split
  · exact h
  extract_lets c applied told
  have happlied : Guard (watch applied) := by simp [applied, h]
  have htold : Guard (watch told) := by simp [told, happlied]
  split
  · exact htold
  · rw [watch_stkRunAgain]
    exact guard_overUnits _ (fun n t ht => by rwa [watch_canRunAgain]) (by simpa using htold)

@[simp] theorem guard_hubStop (h : Guard (watch s)) : Guard (watch (hubStop s)) := by
  unfold hubStop
  split
  · exact h
  extract_lets nibs units released todo
  have hnibs : Guard (watch nibs) := by simp [nibs, h]
  have hunits : Guard (watch units) :=
    guard_overUnits _ (fun n t ht => by rwa [watch_canHold]) (guard_holdQuills _ hnibs)
  have hreleased : Guard (watch released) := by simp [released, hunits]
  exact guard_outBusy _ hreleased

theorem watch_busyRing (l : List (Nat × Nat)) (s : State) : watch (busyRing l s) = watch s := by
  induction l generalizing s with
  | nil => rfl
  | cons e t ih => rw [busyRing, ih, watch_originate]

@[simp] theorem guard_warmReset (cause : Nat) (h : Guard (watch s)) : Guard (watch (warmReset cause s)) := by
  have returned : Guard (watch (wb hubRstCause cause true (returnOrgs s.tx.pend s))) := by simp [h]
  unfold warmReset
  extract_lets sink ended boot flt blt
  rw [watch_busyRing]
  refine ⟨?_, fun fz => ?_⟩
  · have kept : watch blt = watch ended := by simp [blt]
    have strap : rd blt 4 = 0 := (congrArg Watch.strap kept).trans returned.strap
    show tget resetOf (tkeep keptInReset blt.regs) 4 = 0
    rw [tget_tkeep]
    exact strap
  · obtain ⟨-, i, none, -⟩ := fz
    cases none

@[simp] theorem guard_hubCtlWrite (v : Word) (h : Guard (watch s)) : Guard (watch (hubCtlWrite v s)) := by
  unfold hubCtlWrite
  extract_lets cause ctl run
  have hctl : Guard (watch ctl) := by simp [ctl, cause, h]
  have hrun : Guard (watch run) := by simp [run, hctl]
  simp [hrun]

@[simp] theorem guard_hubWrite (o : Origin) (k : Nat) (v : Word) (h : Guard (watch s)) : Guard (watch (hubWrite o k v s)) := by
  simp [hubWrite, h]

/-! ## Register writes -/

@[simp] theorem guard_inkCtlWrite (v : Word) (h : Guard (watch s)) : Guard (watch (inkCtlWrite v s)) := by simp [inkCtlWrite, h]
@[simp] theorem guard_cphCtlWrite (p : Nat) (v who : Word) (h : Guard (watch s)) : Guard (watch (cphCtlWrite p v who s)) := by
  simp [cphCtlWrite, h]
@[simp] theorem guard_cphWrite (k : Nat) (who v : Word) (h : Guard (watch s)) : Guard (watch (cphWrite k who v s)) := by
  simp [cphWrite, h]
@[simp] theorem guard_canCtlWrite (k : Nat) (v : Word) (h : Guard (watch s)) : Guard (watch (canCtlWrite k v s)) := by
  simp [canCtlWrite, h]
@[simp] theorem guard_nibTxHold (n sent : Nat) (h : Guard (watch s)) : Guard (watch (nibTxHold n sent s)) := by simp [nibTxHold, h]

@[simp] theorem guard_nibCtlWrite (n : Nat) (v : Word) (sent : Nat) (got : List Byte) (h : Guard (watch s)) :
    Guard (watch (nibCtlWrite n v sent got s)) := by
  unfold nibCtlWrite
  split
  · extract_lets k held ctl
    have hctl : Guard (watch ctl) := by simp [ctl, held, k, h]
    simp [k, hctl]
  · simp [h]

@[simp] theorem guard_qlForce (q : Nat) (c : QlCut) (h : Guard (watch s)) : Guard (watch (qlForce q c s)) := by
  have part := guard_qlPartial q c h
  unfold qlForce
  split
  next t e => simpa using Guard.of_pair e part
  next t e => simpa using Guard.of_pair e part

@[simp] theorem guard_qlSwapBits (q : Nat) (v : Word) (c : QlCut) (h : Guard (watch s)) : Guard (watch (qlSwapBits q v c s)) := by
  simp [qlSwapBits, h]
@[simp] theorem guard_qlForget (q : Nat) (h : Guard (watch s)) : Guard (watch (qlForget q s)) := guard_returnWhere _ h
@[simp] theorem guard_qlStart (q : Nat) (h : Guard (watch s)) : Guard (watch (qlStart q s)) := by simp [qlStart, h]
@[simp] theorem guard_qlCtlWrite (q : Nat) (v : Word) (c : QlCut) (h : Guard (watch s)) : Guard (watch (qlCtlWrite q v c s)) := by
  simp [qlCtlWrite, h]
@[simp] theorem guard_pbpStop (h : Guard (watch s)) : Guard (watch (pbpStop s)) := by simp [pbpStop, h]
@[simp] theorem guard_pbpCtlWrite (v : Word) (h : Guard (watch s)) : Guard (watch (pbpCtlWrite v s)) := by simp [pbpCtlWrite, h]
@[simp] theorem guard_writeReg (o : Origin) (who : Word) (k : Nat) (v : Word) (h : Guard (watch s)) :
    Guard (watch (writeReg o who k v s)) := by simp [writeReg, h]

@[simp] theorem guard_writeRegs (o : Origin) (who : Word) (k : Nat) (l : List Word) (h : Guard (watch s)) :
    Guard (watch (writeRegs o who k l s)) := by
  induction l generalizing k s with
  | nil => exact h
  | cons v t ih => exact ih _ (guard_writeReg o who k v h)

/-! ## Serving an access -/

theorem guard_regRead (a : Access) (h : Guard (watch s)) : GuardServed (regRead a s) := by
  unfold regRead
  extract_lets ks c r cs
  split
  · trivial
  split
  · split
    · exact h
    · exact h
  · exact guard_congr (by simp [r]) h

theorem guard_regWrite (o : Origin) (who : Word) (a : Access) (h : Guard (watch s)) : GuardServed (regWrite o who a s) := by
  unfold regWrite
  extract_lets ks ws
  split
  next r refused => exact guard_congr (watch_burstRefuses refused) h
  split
  · have din := watch_dinWrite ((a.addr - 0x60000) / 0x1000) o a s
    split
    next st t e => exact Guard.of_pair e (by rwa [din])
    next t e => exact Guard.of_pair e (by rwa [din])
  split
  · split
    · exact h
    · exact h
  split
  · show Guard (watch _)
    simpa using h
  · exact guard_writeRegs o who _ _ h

theorem guard_regServe (o : Origin) (who : Word) (a : Access) (h : Guard (watch s)) : GuardServed (regServe o who a s) := by
  unfold regServe
  split
  next port => exact guard_portServe o who port h
  split
  · exact h
  split
  · exact h
  split
  · exact guard_regRead a h
  · exact guard_regWrite o who a h

theorem guard_finish (o : Origin) (a : Access) {r : Served} (h : Guard (watch s)) (hr : GuardServed r) :
    Guard (watch (finish o a r s)) := by
  cases r with
  | now st d cs t =>
    have ht : Guard (watch t) := hr
    unfold finish
    apply guard_answer
    split
    · exact ht
    · exact ht
  | held => exact h
  | later t => exact hr

@[simp] theorem guard_serve (o : Origin) (a : Access) (h : Guard (watch s)) : Guard (watch (serve o a s)) := by
  have ended := guard_finish o a h (guard_regServe o (holderWord o s) a h)
  simp [serve, h, ended]

@[simp] theorem guard_startServe (o : Origin) (a : Access) (h : Guard (watch s)) : Guard (watch (startServe o a s)) := by
  simp [startServe, h]
@[simp] theorem guard_arrive (o : Origin) (a : Access) (h : Guard (watch s)) : Guard (watch (arrive o a s)) := by
  simp [arrive, h]

end

end Sys2Proof.Proofs
end

section
/-! SUPPORT. Settling keeps the invariant: a node without a number only repeats frames, and the rest was shown
before. -/
namespace Sys2Proof.Proofs
open Sys2Proof Sys2Proof.Machine Sys2Proof.Laws

/-! ## A node without a number only repeats frames (R78) -/

section

variable {s : State} {f : Frame}

theorem addressed_unnumbered (f : Frame) (strap : rd s 4 = 0) : addressed f s = false := by
  have own : ownNode s = 0 := by
    show fld (rd s 4) 7 0 = 0
    rw [strap]
    rfl
  simp [addressed, repeater, own]

theorem authFrame_foreign (r : Nat) (off : addressed f s = false) : authFrame r f s = (false, s) := by simp [authFrame, off]
theorem takeFrame_foreign (r : Nat) (eff : State → State) (off : addressed f s = false) : takeFrame r f eff s = s := by
  simp [takeFrame, off]
theorem requestArrives_foreign (typ r : Nat) (off : addressed f s = false) : requestArrives typ r f s = s := by
  simp [requestArrives, takeFrame_foreign _ _ off, off]

theorem watch_mgmtArrives (r : Nat) (off : addressed f s = false) : watch (mgmtArrives r f s) = watch s := by
  have auth := authFrame_foreign r off
  unfold mgmtArrives
  split
  · simp [presenceArrives, off]
  · simp [heartbeat, auth]
  · simp [authAck, auth]
  · simp [takeReq, auth]
  · simp [takeAns, auth]
  · simp [censusRpt, auth]
  · simp [sizeSet, auth]
  · simp [table, auth]
  · simp [appoint, auth]
  · simp [swapReq, auth]
  · rw [takeFrame_foreign _ _ off]

theorem watch_deliverFrame (r : Nat) (stamp : DWord) (off : addressed f s = false) :
    watch (deliverFrame r f stamp s) = watch s := by
  have taken (eff : State → State) : takeFrame r f eff s = s := takeFrame_foreign r eff off
  unfold deliverFrame
  split
  · simp [postedArrives, taken, off]
  · rw [requestArrives_foreign _ _ off]
  · rw [requestArrives_foreign _ _ off]
  · simp [completionArrives, taken]
  · simp [completionArrives, taken]
  · simp [msgFrame, off]
  · simp [wireFrame, off]
  · simp [syncArrives, off]
  · simp [strokeArrives, taken]
  · exact watch_mgmtArrives r off
  · simp [ackArrives, taken]
  · simp [leaseOp, authFrame_foreign r off]
  · exact watch_cntRing _ _ _ _

@[simp] theorem guard_deliverHeld (f : Frame) (h : Guard (watch s)) : Guard (watch (deliverHeld f s)) := by
  have read : Guard (watch (frameAccess f s).2) := by rwa [watch_frameAccess]
  unfold deliverHeld
  split
  · dsimp only
    split
    · exact guard_arrive _ _ read
    · unfold ringRequest
      dsimp only
      split
      · exact guard_complete _ _ _ _ _ read
      · exact guard_arrive _ _ read
  · exact h

@[simp] theorem guard_sinkFrame (r : Nat) (f : Frame) (stamp : DWord) (h : Guard (watch s)) :
    Guard (watch (sinkFrame r f stamp s)) := by
  unfold sinkFrame
  split
  · exact guard_deliverHeld f h
  · exact guard_congr (watch_deliverFrame r stamp (addressed_unnumbered f h.strap)) h

@[simp] theorem guard_sinkProceed (n : Nat) (h : Guard (watch s)) : Guard (watch (sinkProceed n s)) := by
  induction n generalizing s with
  | zero => exact h
  | succ n ih =>
    unfold sinkProceed
    split
    · exact h
    split
    · exact h
    · apply ih
      apply guard_sinkFrame
      split
      · rw [watch_creditReturn]
        exact h
      · exact h

/-! ## Requests and their ends -/

@[simp] theorem guard_endRequest (t : Nat) (st : Status) (d : List Byte) (h : Guard (watch s)) :
    Guard (watch (endRequest t st d s)) := by
  unfold endRequest
  extract_lets v freed gone ack ended
  have hfreed : Guard (watch freed) := by simpa [freed] using h
  split
  · simpa using hfreed
  split
  · exact guard_pcieResult _ _ _ _ _ hfreed
  · simp [ended, hfreed]

@[simp] theorem guard_absentAll (l : List (Nat × Tag)) (h : Guard (watch s)) : Guard (watch (absentAll l s)) := by
  induction l generalizing s with
  | nil => exact h
  | cons e t ih =>
    apply ih
    simp [h]

@[simp] theorem guard_retryHeld (l : List (Origin × Access)) (h : Guard (watch s)) : Guard (watch (retryHeld l s)) := by
  induction l generalizing s with
  | nil => exact h
  | cons e t ih => exact ih (guard_finish e.1 e.2 h (guard_regServe e.1 _ e.2 h))

@[simp] theorem guard_heldProceed (h : Guard (watch s)) : Guard (watch (heldProceed s)) := by
  unfold heldProceed
  split
  · exact h
  · exact guard_retryHeld _ h

@[simp] theorem guard_serveAsk (a : Ask) (h : Guard (watch s)) : Guard (watch (serveAsk a s)) := by
  cases a with
  | move q fuel => exact guard_flow fuel q h
  | nib n => exact guard_nibRefill n h
  | quill q =>
    show Guard (watch (qlRefill q s))
    simp [qlRefill, h]

@[simp] theorem guard_serveAsks (l : List (Nat × Ask)) (h : Guard (watch s)) : Guard (watch (serveAsks l s)) := by
  induction l generalizing s with
  | nil => exact h
  | cons e t ih => exact ih (guard_serveAsk e.2 h)

@[simp] theorem guard_request (o : Origin) (node : Nat) (a : Access) (h : Guard (watch s)) :
    Guard (watch (request o node a s)) := by
  simp [request, h]

@[simp] theorem guard_pbpInboundDone (w : Nat) (st : Status) (d : List Byte) (h : Guard (watch s)) :
    Guard (watch (pbpInboundDone w st d s)) := by
  unfold pbpInboundDone
  extract_lets read p cleared late
  have hcleared : Guard (watch cleared) := h
  split
  · simp [late, hcleared]
  · simp [late, hcleared]

@[simp] theorem guard_heldIssue (h : Guard (watch s)) : Guard (watch (heldIssue s)) := by
  unfold heldIssue
  split
  · exact h
  split
  · exact h
  · exact guard_request _ _ _ h

@[simp] theorem guard_inboundStep (h : Guard (watch s)) : Guard (watch (inboundStep s)) := by
  unfold inboundStep
  split
  · exact guard_pbpInboundDone _ _ _ h
  split
  · exact h
  split
  · exact guard_heldIssue h
  · simp [h]

@[simp] theorem guard_inboundProceed (n : Nat) (h : Guard (watch s)) : Guard (watch (inboundProceed n s)) := by
  induction n generalizing s with
  | zero => exact h
  | succ n ih => exact ih (guard_inboundStep h)

@[simp] theorem guard_orderProceed (n : Nat) (h : Guard (watch s)) : Guard (watch (orderProceed n s)) := by
  induction n generalizing s with
  | zero => exact h
  | succ n ih =>
    unfold orderProceed
    split
    · exact h
    · exact ih (guard_startServe _ _ h)

@[simp] theorem guard_spiPump (n : Nat) (h : Guard (watch s)) : Guard (watch (spiPump n s)) := by
  induction n generalizing s with
  | zero => exact h
  | succ n ih =>
    unfold spiPump
    dsimp only
    split
    · exact h
    split
    · exact h
    · exact ih h
    · exact ih (guard_request _ _ _ h)

theorem guard_settle (h : Guard (watch s)) : Guard (watch (settle s)) := by
  unfold settle
  extract_lets reacted sunk absent held inbound ordered inbound' pumped lingered
  have hsunk : Guard (watch sunk) := guard_sinkProceed _ (guard_reactAll _ h)
  have hheld : Guard (watch held) := guard_heldProceed (guard_serveAsks _ (guard_absentAll _ hsunk))
  have hinbound : Guard (watch inbound) := guard_inboundProceed _ hheld
  have hinbound' : Guard (watch inbound') := guard_inboundProceed _ (guard_orderProceed _ hinbound)
  have hpumped : Guard (watch pumped) := guard_spiPump _ hinbound'
  simp [lingered, hpumped]

end

end Sys2Proof.Proofs
end

section
/-! SUPPORT. The counterexample to O40. -/
namespace Sys2Proof.Proofs
open Sys2Proof Sys2Proof.Machine Sys2Proof.Laws

/-! ## The counterexample -/

/-- Queue 0 holds pair M's read and no cell, a fragment of it is pending, and its tail timer has fired; in queue 2 the item `i` is
being pushed; the active set is shut and the node has no number. -/
def stalled (i : Item) : State :=
  { State.reset with
    regs := [],
    ink := { queues := [(0, { pend := some 5, held := [⟨.pairM, 0x24000, 64⟩], fired := true }), (2, { push := some i })],
             active := shutSet } }

/-- The same state once the read has ended EMPTY: the tail timer of the queue, which holds no cell, is armed again. -/
def expired (i : Item) : State :=
  { stalled i with
    tx := { core := [(.pairM, .empty, [])] },
    ink := { queues := [(0, { pend := some 5 }), (2, { push := some i })], active := shutSet } }

theorem stallExpire_stalled (i : Item) : stallExpire 0 .pairM (stalled i).alone = expired i := by
  rfl

theorem flow_rest {q : Nat} {s : State} (fuel : Nat) (held : (queue q s).held = []) (sub : localSub q s = none) :
    flow fuel q s = s := by
  cases fuel with
  | zero => rfl
  | succ n => simp [flow, sub, held, releasePops]

theorem expired_bridge (i : Item) : pbpRuns (expired i) = false := by
  have off : bit (resetOf pbpCtl) 0 = false := by decide
  exact Bool.and_eq_false_imp.mpr fun on => absurd (off.symm.trans on) (by decide)

theorem expired_notice (i : Item) : (expired i).noticeDue = false := by
  have off : bit (resetOf hubCtl) 4 = false := by decide
  exact Bool.and_eq_false_imp.mpr fun on => absurd (off.symm.trans on) (by decide)

/-- Neither queue has a subscriber to move to, and no read is held any more. -/
theorem expired_asks (i : Item) : ∀ e ∈ asks (expired i), serveAsk e.2 (expired i) = expired i := by
  have sub (q : Nat) : localSub q (expired i) = none := localSub_shut q rfl
  intro e mem
  have listed : (expired i).ink.queues = [(0, { pend := some 5 }), (2, { push := some i })] := rfl
  have nibs : (expired i).nibs = [] := rfl
  have quills : (expired i).quills = [] := rfl
  simp only [asks, listed, nibs, quills, mem_sortAsks, List.map_cons, List.map_nil, List.append_nil, List.mem_cons,
    List.not_mem_nil, or_false] at mem
  obtain rfl | rfl := mem
  · exact flow_rest 8 rfl (sub 0)
  · exact flow_rest 8 rfl (sub 2)

theorem settle_expired (i : Item) : settle (expired i) = expired i := by
  have posts (n : Nat) : reactAll n (expired i) = expired i := reactAll_rest n _ rfl
  have absent : absentAll (expired i).tx.tags (expired i) = expired i := rfl
  have inbound (n : Nat) : inboundProceed n (expired i) = expired i := inboundProceed_rest n _ rfl (expired_bridge i)
  simp only [settle, posts, sinkProceed_rest _ (expired i) rfl, absent, serveAsks_rest _ _ (expired_asks i),
    heldProceed_rest (expired i) rfl, inbound, orderProceed_rest _ (expired i) rfl, spiPump_rest _ (expired i) rfl,
    shSettle_rest 0 (expired i) rfl, shSettle_rest 1 (expired i) rfl, lingerEnd_rest (expired i) rfl,
    inflightSettle_rest (expired i) rfl, bridgeSettle_rest (expired i) (expired_bridge i),
    noticePinSettle_rest (expired i) (expired_notice i).symm]

/-- A state with the registers and the queues the obligation asks for is guarded. -/
theorem guard_of_kept {i : Item} {u : State} (regs : RegsKeep [] (stalled i) u)
    (here : queue 0 u = { queue 0 (stalled i) with held := [] }) : Guard (watch u) := by
  have strap : resetOf 4 = 0 := by decide
  refine ⟨(regs 4 List.not_mem_nil).trans strap, fun _ => ?_⟩
  show Still (queue 0 u)
  rw [here]
  exact ⟨rfl, rfl, rfl, rfl, fun _ => rfl⟩

/-- The state the command leaves is not guarded: the timer of queue 0 is armed with the fragment pending. -/
theorem not_guard_expired {i : Item} {w : Watch} (long : 6400000 ≤ i.bytes.length) (queues : w.queues = (expired i).ink.queues)
    (active : w.active = shutSet) : ¬ Guard w := by
  intro g
  have frozen : Frozen w := by
    refine ⟨active, i, ?_, long⟩
    rw [queues]
    rfl
  have fired := (g.still frozen).fired
  rw [queues] at fired
  exact absurd (fired (by simp [expired, tget])) (by simp [expired, tget])

/-- Refutes O40: ending the read rewrites queue 0, which holds no cell, and so arms its tail timer again (R180), while the statement
has the queue keep all but its held pops. The state left is its own rest, and no state that the statement allows leads to it. -/
theorem not_heldPopsEndEmpty : ¬ Obligations.HeldPopsEndEmpty := by
  intro holds
  let i : Item := { bytes := List.replicate 6400000 0 }
  obtain ⟨u, does, -, regs, here, -⟩ := (holds (stalled i) 0 ⟨rfl, rfl⟩ rfl).1 rfl
  obtain ⟨-, -, -, -, -, expires, -⟩ := inkwellCommandsComplete (stalled i)
  have left : Does (.stallReadExpire 0 .pairM) (stalled i) (expired i) :=
    stallExpire_stalled i ▸ expires 0 .pairM ⟨rfl, rfl⟩
  have same : carryOn u (stalled i) = carryOn (expired i) (stalled i) := by
    have := does.symm.trans left
    injection this
  have ink : (settle u).ink = (expired i).ink := by
    have := congrArg State.ink same
    rwa [carryOn, carryOn, settle_expired] at this
  exact not_guard_expired (List.length_replicate (n := 6400000)).ge (congrArg InkSt.queues ink) (congrArg InkSt.active ink)
    (guard_settle (guard_of_kept regs here))

end Sys2Proof.Proofs
end

section
/-! SUPPORT. The commands of the nibs. -/
namespace Sys2Proof.Proofs
open Sys2Proof Sys2Proof.Machine Sys2Proof.Laws

/-! ## Every command -/

/-- Settles O13: every operation of the nibs runs in the hub. -/
theorem nibCommandsComplete : Obligations.NibCommandsComplete := by
  intro s
  have hub {f : State → State} (up : s.hubUp) : hubCmd f s = .next (carryOn (f s.alone) s) := hubCmd_up f s up
  exact ⟨fun n => hubCmd_up (fun t => nibCtlWrite n (withBit (nibReg n 0) 0 t) 0 [] t) s,
    fun n sent got => hubCmd_up (fun t => nibCtlWrite n (sansBit (nibReg n 0) 0 t) sent got t) s,
    fun _ => hub, fun _ _ => hub, fun _ _ _ _ _ => hub, fun _ => hub, fun _ _ _ _ => hub, fun _ _ _ => hub, fun _ => hub,
    fun _ => hub, fun _ _ _ => hub, fun _ => hub, fun _ _ => hub, fun _ _ _ => hub, fun _ _ _ _ => hub, fun _ _ _ => hub,
    fun _ _ _ => hub, fun _ => hub, fun _ => hub, fun _ _ => hub, fun _ _ _ _ => hub, fun _ _ _ _ _ => hub, fun _ _ => hub,
    fun _ _ => hub, fun _ _ _ _ => hub, fun _ _ => hub, fun _ => hub, fun _ => hub, fun _ => hub, fun _ _ => hub, fun _ _ => hub⟩

end Sys2Proof.Proofs
end

section
/-! SUPPORT. The bits of a synchronous line and of a CAN frame: what is inserted when they are sent is taken out again (R218, R321). -/
namespace Sys2Proof.Proofs
open Sys2Proof Sys2Proof.Machine Sys2Proof.Laws

/-! ## Zeros inserted (R218) -/

/-- Past the closing flag a frame gives the bits collected before it. -/
theorem deframe_flag (acc rest : List Bool) {ones : Nat} (few : ones < 5) :
    deframe ones acc ([false, true, true, true, true, true, true, false] ++ rest) = some (acc.reverse, false) := by
  have h5 : ones ≠ 5 := by omega
  have h6 : ones ≠ 6 := by omega
  simp [deframe, h5, h6]

/-- With fewer than five 1s before it, what has zeros inserted gives its bits behind those already collected. -/
theorem deframe_stuffBits (d acc rest : List Bool) {ones : Nat} (few : ones < 5) :
    deframe ones acc (stuffBits ones d ++ [false, true, true, true, true, true, true, false] ++ rest) =
      some (acc.reverse ++ d, false) := by
  induction d generalizing ones acc with
  | nil => simpa [stuffBits] using deframe_flag acc rest few
  | cons b t ih =>
    cases b with
    | false =>
      have h5 : ones ≠ 5 := by omega
      have h6 : ones ≠ 6 := by omega
      simpa [stuffBits, deframe, h5, h6] using ih (false :: acc) (ones := 0) (by omega)
    | true =>
      have h6 : ones ≠ 6 := by omega
      by_cases h4 : ones = 4
      · subst h4
        simpa [stuffBits, deframe] using ih (true :: acc) (ones := 0) (by omega)
      · simpa [stuffBits, deframe, h4, h6] using ih (true :: acc) (ones := ones + 1) (by omega)

/-! ## Levels of NRZI (log entry 31) -/

theorem nrziDec_nrziEnc (p : Bool) (d : List Bool) : nrziDec p (nrziEnc p d) = d := by
  induction d generalizing p with
  | nil => rfl
  | cons b t ih => cases b <;> cases p <;> simp [nrziEnc, nrziDec, ih]

/-! ## Stuff bits of CAN (log entry 38) -/

/-- With fewer than five equal bits before them, stuffed bits give the bits. -/
theorem canDestuff_canStuff (tail : Bool) (last : Option Bool) (d : List Bool) {n : Nat} (few : n < 5) :
    canDestuff last n (canStuff tail last n d) = some d := by
  induction d generalizing last n with
  | nil => rfl
  | cons b t ih =>
    have n5 : n ≠ 5 := by omega
    by_cases same : last = some b
    · by_cases full : n = 4
      · subst same full
        by_cases stuffed : (tail || !t.isEmpty) = true
        · simp [canStuff, canDestuff, stuffed, ih (some !b) (n := 1) (by omega)]
        · obtain ⟨plain, rfl⟩ : tail = false ∧ t = [] := by simpa using stuffed
          simp [canStuff, canDestuff, plain]
      · have n4 : ¬ n + 1 = 5 := by omega
        subst same
        simp [canStuff, canDestuff, full, n5, ih (some b) (n := n + 1) (by omega)]
    · simp [canStuff, canDestuff, same, n5, ih (some b) (n := 1) (by omega)]

/-- Settles O33: each receiver is followed along the bits, with the run of equal bits that stands before them. -/
theorem lineBitsRoundTrip : Obligations.LineBitsRoundTrip :=
  ⟨fun d rest => deframe_stuffBits d [] rest (by omega), nrziDec_nrziEnc, fun tail d => canDestuff_canStuff tail none d (by omega)⟩

end Sys2Proof.Proofs
end

section
/-! SUPPORT. A nanosecond on an empty queue: the bases that are not slaved advance (R400, R401), and due PWM outputs fall (R229). -/
namespace Sys2Proof.Proofs
open Sys2Proof Sys2Proof.Machine Sys2Proof.Laws

/-! ## The bases advance -/

theorem base_setBase (j n : Nat) (v : BaseSt) (s : State) : base j (setBase n v s) = if j = n then v else base j s := by
  by_cases h : j = n
  · subst h; rw [if_pos rfl]; exact tget_tset_same _ _ _ _
  · rw [if_neg h]; exact tget_tset_other _ _ _ h

/-- A nanosecond of the bases of the list touches no state but theirs. -/
theorem tickBases_rest (l : List Nat) (s : State) : { tickBases l s with time := s.time } = s ∧
    { (tickBases l s).time with bases := s.time.bases } = s.time := by
  induction l generalizing s with
  | nil => exact ⟨rfl, rfl⟩
  | cons n t ih =>
    rw [tickBases]
    split
    · exact ih s
    · obtain ⟨rest, time⟩ := ih (setBase n (advance (base n s) (4294967296 + sgn (rd s (tbBase n 0x0C)))) s)
      exact ⟨congrArg (fun u : State => { u with time := s.time }) rest,
        congrArg (fun u : TimeSt => { u with bases := s.time.bases }) time⟩

/-- What base `n` holds a nanosecond later. -/
def ticked (n : Nat) (s : State) : BaseSt :=
  if slaved n s then base n s else advance (base n s) (4294967296 + sgn (rd s (tbBase n 0x0C)))

theorem ticked_congr {n : Nat} {s t : State} (regs : t.regs = s.regs) (same : base n t = base n s) : ticked n t = ticked n s := by
  have held : slaved n t = slaved n s := by simp only [slaved, rb, rd_congr regs]
  rw [ticked, ticked, held, same, rd_congr regs]

theorem base_tickBases {l : List Nat} (once : l.Nodup) (n : Nat) (s : State) :
    base n (tickBases l s) = if n ∈ l then ticked n s else base n s := by
  induction l generalizing s with
  | nil => rfl
  | cons j t ih =>
    obtain ⟨new, once⟩ := List.nodup_cons.mp once
    rw [tickBases, ih once]
    by_cases here : n = j
    · subst here
      rw [if_neg new, if_pos List.mem_cons_self, ticked]
      split
      · rfl
      · rw [base_setBase, if_pos rfl]
    · have later : n ∈ j :: t ↔ n ∈ t := by simp [here]
      simp only [later]
      split <;> split
      · rfl
      · exact ticked_congr rfl (by rw [base_setBase, if_neg here])
      · rfl
      · rw [base_setBase, if_neg here]

/-! ## Outputs fall -/

/-- From `s` to `t` no more has happened than that PWM outputs have fallen that were due. -/
structure Fallen (s t : State) : Prop where
  rest : { t with nibs := s.nibs, pins := s.pins } = s
  pins : ∀ p, owner p s ≠ 1 → pin p t = pin p s
  nibs : ∀ n, { nib n t with fall := (nib n s).fall } = nib n s
  due  : ∀ n, (nib n s).fall = none ∨ (∃ x, (nib n s).fall = some x ∧ s.hub.now < x) → nib n t = nib n s

theorem Fallen.refl (s : State) : Fallen s s := ⟨rfl, fun _ _ => rfl, fun _ => rfl, fun _ _ => rfl⟩

theorem Fallen.regs {s t : State} (a : Fallen s t) : t.regs = s.regs := (congrArg (fun u : State => u.regs) a.rest :)
theorem Fallen.hub {s t : State} (a : Fallen s t) : t.hub = s.hub := (congrArg (fun u : State => u.hub) a.rest :)
theorem Fallen.time {s t : State} (a : Fallen s t) : t.time = s.time := (congrArg (fun u : State => u.time) a.rest :)
theorem Fallen.owner {s t : State} (a : Fallen s t) (p : Nat) : owner p t = owner p s := by
  simp only [Machine.owner, rf, rd_congr a.regs]

theorem Fallen.trans {s t u : State} (a : Fallen s t) (b : Fallen t u) : Fallen s u where
  rest := (congrArg (fun v : State => { v with nibs := s.nibs, pins := s.pins }) b.rest :).trans a.rest
  pins p h := (b.pins p (by rwa [a.owner])).trans (a.pins p h)
  nibs n := (congrArg (fun v : NibSt => { v with fall := (nib n s).fall }) (b.nibs n) :).trans (a.nibs n)
  due n h := by
    have kept := a.due n h
    exact (b.due n (by rwa [kept, a.hub])).trans kept

theorem nib_setNib (j n : Nat) (v : NibSt) (s : State) : nib j (setNib n v s) = if j = n then v else nib j s := by
  by_cases h : j = n
  · subst h; rw [if_pos rfl]; exact tget_tset_same _ _ _ _
  · rw [if_neg h]; exact tget_tset_other _ _ _ h

/-- The fall of nib `n` is struck off once it is due. -/
theorem fallen_struck {n x : Nat} {s : State} (fall : (nib n s).fall = some x) (due : x ≤ s.hub.now) :
    Fallen s (setNib n { nib n s with fall := none } s) where
  rest := rfl
  pins _ _ := rfl
  nibs j := by
    rw [nib_setNib]
    split
    case isTrue h => subst h; rfl
    case isFalse => rfl
  due j h := by
    rw [nib_setNib, if_neg]
    rintro rfl
    obtain none | ⟨y, some, later⟩ := h
    · simp [fall] at none
    · obtain rfl : x = y := by simpa [fall] using some
      omega

theorem fallen_slotDrive (n k : Nat) (oe lvl : Bool) {s : State} (own : owner (slotPin n k s) s = 1) :
    Fallen s (slotDrive n k oe lvl s) := by
  unfold slotDrive
  split
  · exact ⟨rfl, fun p other => pin_drivePin_other _ _ _ (fun e => other (e ▸ own)), fun _ => rfl, fun _ _ => rfl⟩
  · exact .refl s

theorem fallen_pwmFall (n : Nat) (s : State) : Fallen s (pwmFall n s) := by
  unfold pwmFall
  split
  next x fall =>
    split
    next due =>
      have struck := fallen_struck fall due
      dsimp only
      split
      next h =>
        obtain ⟨-, own⟩ : nibIn n 7 _ = true ∧ owner (slotPin n 2 _) _ = 1 := by simpa using h
        exact struck.trans (fallen_slotDrive n 2 true false own)
      next => exact struck
    next => exact .refl s
  next => exact .refl s

theorem fallen_pwmFalls (l : List (Nat × NibSt)) (s : State) : Fallen s (pwmFalls l s) := by
  induction l generalizing s with
  | nil => exact .refl s
  | cons e t ih => exact (fallen_pwmFall e.1 s).trans (ih _)

/-! ## The statement -/

theorem step_idle {s : State} (idle : s.pending = []) : step s = .next (idleTick s) := by
  unfold step
  rw [idle]

theorem idleTick_held {s : State} (held : s.hub.lporHeld = true) : idleTick s = { s with hub := { s.hub with now := s.hub.now + 1 } } :=
  if_pos held

theorem idleTick_up {s : State} (up : s.coreUp) :
    idleTick s = pwmFalls s.nibs (tickBases [0, 1, 2, 3] (setHub { s.hub with now := s.hub.now + 1 } s)) := by
  have up : s.hub.lporHeld = false := up
  simp [idleTick, setHub, up]

/-- What a nanosecond may change is as in `s`. -/
def untick (s u : State) : State := { u with time := s.time, hub := s.hub, nibs := s.nibs, pins := s.pins }

/-- Settles O3: the clock counts, then the bases advance, then due outputs fall, each beside the others. -/
theorem stepOnEmptyQueue : Obligations.StepOnEmptyQueue := by
  intro s idle
  rw [step_idle idle]
  refine ⟨fun up => ⟨idleTick s, rfl, ?_⟩, fun held => by rw [idleTick_held held]⟩
  rw [idleTick_up up]
  obtain ⟨rest, time⟩ := tickBases_rest [0, 1, 2, 3] (setHub { s.hub with now := s.hub.now + 1 } s)
  have bases (n : Nat) (lt : n < 4) := base_tickBases (l := [0, 1, 2, 3]) (by decide) n (setHub { s.hub with now := s.hub.now + 1 } s)
  generalize tickBases [0, 1, 2, 3] (setHub { s.hub with now := s.hub.now + 1 } s) = b at *
  have fell := fallen_pwmFalls s.nibs b
  generalize pwmFalls s.nibs b = t at *
  have hub : b.hub = { s.hub with now := s.hub.now + 1 } := (congrArg (fun u : State => u.hub) rest :)
  have regs : b.regs = s.regs := (congrArg (fun u : State => u.regs) rest :)
  have pins (p : Nat) : pin p b = pin p s := (congrArg (fun u : State => pin p u) rest :)
  have nibs (n : Nat) : nib n b = nib n s := (congrArg (fun u : State => nib n u) rest :)
  refine ⟨fell.hub.trans hub, ?_, by rw [fell.time]; exact time, fun n lt => ?_, fun p other => ?_, fun n => ⟨?_, fun late => ?_⟩⟩
  · exact (congrArg (untick s) fell.rest :).trans (congrArg (untick s) rest :)
  · have held : base n t = base n b := by rw [base, base, fell.time]
    rw [held, bases n lt, if_pos (by simp; omega)]
    rfl
  · rw [fell.pins p (by simpa only [owner, rf, rd_congr regs] using other), pins]
  · rw [← nibs]
    exact fell.nibs n
  · rw [fell.due n (by rwa [nibs, hub]), nibs]

end Sys2Proof.Proofs
end

section
/-! SUPPORT. O42 turns on what no write does: it never lists a register with its reset value. `Sparse` says that of
one register, and what follows shows that nothing that settling does ends it. -/
namespace Sys2Proof.Proofs
open Sys2Proof Sys2Proof.Machine Sys2Proof.Laws

/-- Register `reg` is not listed with its reset value in the table, or reads otherwise: no write lists a register that way. -/
def Sparse (reg : Nat) (t : Tbl Word) : Prop := (reg, resetOf reg) ∈ t → tget resetOf t reg ≠ resetOf reg

theorem mem_tdel {α : Type} {t : Tbl α} {k : Nat} {e : Nat × α} : e ∈ tdel t k ↔ e ∈ t ∧ e.1 ≠ k := by
  induction t with
  | nil => simp [tdel]
  | cons x t ih =>
    by_cases here : x.1 = k
    · simp only [tdel, here, if_true, ih, List.mem_cons, or_and_right]
      exact ⟨.inr, fun h => h.resolve_left fun ⟨e', ne⟩ => ne (e' ▸ here)⟩
    · simp only [tdel, here, if_false, ih, List.mem_cons, or_and_right]
      exact or_congr_left ⟨fun e' => ⟨e', e' ▸ here⟩, And.left⟩

theorem mem_tins {α : Type} {t : Tbl α} {k : Nat} {v : α} {e : Nat × α} : e ∈ tins t k v ↔ e = (k, v) ∨ e ∈ t := by
  induction t with
  | nil => simp [tins]
  | cons x t ih =>
    rw [tins]
    split
    · simp
    · simp [ih, or_left_comm]

theorem mem_tset {reg k : Nat} {t : Tbl Word} {v : Word} :
    (reg, resetOf reg) ∈ tset resetOf t k v ↔ reg ≠ k ∧ (reg, resetOf reg) ∈ t := by
  rw [tset]
  split
  · simp [mem_tdel, and_comm]
  next ne =>
    rw [mem_tins, mem_tdel, and_comm]
    exact or_iff_right fun e => ne (by rw [← (Prod.mk.inj e).1, (Prod.mk.inj e).2])

theorem sparse_tset {reg : Nat} {t : Tbl Word} (k : Nat) (v : Word) :
    Sparse reg (tset resetOf t k v) ↔ reg = k ∨ Sparse reg t := by
  rw [Sparse, mem_tset]
  by_cases here : reg = k
  · simp [here]
  · rw [tget_tset_other resetOf t v here]
    simp [here, Sparse]

theorem sparse_tkeep {reg : Nat} {t : Tbl Word} (p : Nat → Bool) (h : Sparse reg t) : Sparse reg (tkeep p t) := by
  intro mem
  obtain ⟨listed, kept⟩ := List.mem_filter.mp mem
  rw [tget_tkeep, if_pos kept]
  exact h listed

@[simp] theorem sparse_ite {reg : Nat} (c : Prop) [Decidable c] (a b : State) :
    Sparse reg (if c then a else b).regs ↔ if c then Sparse reg a.regs else Sparse reg b.regs := by split <;> rfl

theorem regs_ite (c : Prop) [Decidable c] (a b : State) :
    (if c then a else b).regs = if c then a.regs else b.regs := by split <;> rfl

/-- The state that an access leaves, whatever the access has come to, is sparse. -/
def SparseServed (reg : Nat) : Served → Prop
  | .now _ _ _ t => Sparse reg t.regs
  | .held => True
  | .later t => Sparse reg t.regs

end Sys2Proof.Proofs
end

section
/-! SUPPORT. No write lists a register with its reset value: the named operations: faults, registers, completions, queues. -/
namespace Sys2Proof.Proofs
open Sys2Proof Sys2Proof.Machine Sys2Proof.Laws

section

variable {reg : Nat} {s : State}

@[simp] theorem sparse_wr (k : Nat) (v : Word) : Sparse reg (wr k v s).regs ↔ reg = k ∨ Sparse reg s.regs :=
  sparse_tset k v
@[simp] theorem sparse_wb (k i : Nat) (b : Bool) : Sparse reg (wb k i b s).regs ↔ reg = k ∨ Sparse reg s.regs :=
  sparse_tset _ _
@[simp] theorem sparse_wf (k hi lo v : Nat) : Sparse reg (wf k hi lo v s).regs ↔ reg = k ∨ Sparse reg s.regs :=
  sparse_tset _ _
@[simp] theorem sparse_bump (k n : Nat) : Sparse reg (bump k n s).regs ↔ reg = k ∨ Sparse reg s.regs :=
  sparse_tset _ _
@[simp] theorem sparse_stm (k : Nat) (m v : Word) : Sparse reg (stm k m v s).regs ↔ reg = k ∨ Sparse reg s.regs :=
  sparse_tset _ _

/-! ## Registers -/

@[simp] theorem sparse_quillRxDrop (q : Nat) (h : Sparse reg s.regs) : Sparse reg (quillRxDrop q s).regs := by
  simp [quillRxDrop, h]

@[simp] theorem regs_canHpDrop (c : Nat) (s : State) : (canHpDrop c s).regs = s.regs := (rfl)
@[simp] theorem regs_fresh (s : State) : (fresh s).2.regs = s.regs := (rfl)

/-! ## MSI-X (R48, R49) -/

@[simp] theorem regs_sendVec (v : Nat) (s : State) : (sendVec v s).regs = s.regs := by
  unfold sendVec
  split <;> simp

/-! ## Notices and blotter records (R45, R505–R512) -/

@[simp] theorem sparse_blot (typ source : Nat) (w4 w5 w6 : Word) (h : Sparse reg s.regs) :
    Sparse reg (blot typ source w4 w5 w6 s).regs := by
  simp [blot, h]

/-! ## Raising a fault (R493–R502) -/

@[simp] theorem sparse_latchFault (n sev : Nat) (info : Word) (h : Sparse reg s.regs) :
    Sparse reg (latchFault n sev info s).regs := by
  simp [latchFault, h]

@[simp] theorem sparse_enterSafe (n : Nat) (info : Word) (h : Sparse reg s.regs) : Sparse reg (enterSafe n info s).regs := by
  simp [enterSafe, h]

@[simp] theorem sparse_raise (n : Nat) (info : Word) (h : Sparse reg s.regs) : Sparse reg (raise n info s).regs := by
  unfold raise
  split <;> simp [h]

/-! ## Register stores -/

@[simp] theorem sparse_unitEvent (ev nmask i g unit : Nat) (info : Word) (h : Sparse reg s.regs) :
    Sparse reg (unitEvent ev nmask i g unit info s).regs := by
  simp [unitEvent, h]

@[simp] theorem sparse_raiseCells (l : List Nat) (h : Sparse reg s.regs) : Sparse reg (raiseCells l s).regs := by
  induction l generalizing s with
  | nil => exact h
  | cons x t ih => simp [raiseCells, h, ih]

/-! ## Ring: origination (R86, R97, R105, R107) -/

@[simp] theorem sparse_queueCopy (f : Frame) (h : Sparse reg s.regs) : Sparse reg (queueCopy f s).regs := by
  simp [queueCopy, h]

@[simp] theorem sparse_originate (f : Frame) (h : Sparse reg s.regs) : Sparse reg (originate f s).2.regs := by
  unfold originate
  dsimp only
  repeat' split
  all_goals simp [h]

/-! ## Inkwell: accounting (R163–R172) -/

@[simp] theorem regs_putQueue (q : Nat) (v : Queue) (s : State) : (putQueue q v s).regs = s.regs := (rfl)

@[simp] theorem sparse_countRefusal (q : Nat) (h : Sparse reg s.regs) : Sparse reg (countRefusal q s).regs := by
  simp [countRefusal, h]

@[simp] theorem sparse_rxOverflow (q n : Nat) (h : Sparse reg s.regs) : Sparse reg (rxOverflow q n s).regs := by
  simp [rxOverflow, h]

/-! ## Completions (R127, R139, R148, R154, R156–R158) -/

@[simp] theorem sparse_errLog (spi : Bool) (node : Nat) (a : Access) (st : Status) (h : Sparse reg s.regs) :
    Sparse reg (errLog spi node a st s).regs := by
  simp [errLog, h]

@[simp] theorem sparse_countStatus (local_ : Bool) (st : Status) (h : Sparse reg s.regs) :
    Sparse reg (countStatus local_ st s).regs := by
  unfold countStatus
  split <;> simp [h]

@[simp] theorem regs_sinkFree (src tag : Nat) (s : State) : (sinkFree src tag s).regs = s.regs := (rfl)

@[simp] theorem sparse_subCount (off v : Nat) (h : Sparse reg s.regs) : Sparse reg (subCount off v s).regs := by
  simp [subCount, h]

@[simp] theorem regs_noticeAgain (q : Nat) (s : State) : (noticeAgain q s).regs = s.regs := by
  unfold noticeAgain
  split <;> simp

@[simp] theorem sparse_headGone (q : Nat) (h : Sparse reg s.regs) : Sparse reg (headGone q s).regs := by simp [headGone, h]

@[simp] theorem sparse_commitFrag (q n : Nat) (h : Sparse reg s.regs) : Sparse reg (commitFrag q n s).regs := by
  unfold commitFrag
  dsimp only
  repeat' split
  all_goals simp [h]

@[simp] theorem sparse_commitOne (c : Commit) (h : Sparse reg s.regs) : Sparse reg (commitOne c s).regs := by
  unfold commitOne
  split <;> simp [h]

@[simp] theorem regs_returnOne (c : Commit) (s : State) : (returnOne c s).regs = s.regs := by
  unfold returnOne
  split <;> simp

@[simp] theorem sparse_commitAll (l : List Commit) (h : Sparse reg s.regs) : Sparse reg (commitAll l s).regs := by
  induction l generalizing s with
  | nil => exact h
  | cons x t ih => simp [commitAll, h, ih]

@[simp] theorem sparse_returnAll (l : List Commit) (h : Sparse reg s.regs) : Sparse reg (returnAll l s).regs := by
  induction l generalizing s with
  | nil => exact h
  | cons x t ih => simp [returnAll, h, ih]

@[simp] theorem regs_dropPend (o : Origin) (s : State) : (dropPend o s).regs = s.regs := (rfl)

@[simp] theorem sparse_commitOrg (o : Origin) (h : Sparse reg s.regs) : Sparse reg (commitOrg o s).regs := by
  unfold commitOrg
  split <;> simp [h]

@[simp] theorem sparse_popUncertain (o : Origin) (c : Commit) (h : Sparse reg s.regs) :
    Sparse reg (popUncertain o c s).regs := by
  simp [popUncertain, h]

@[simp] theorem sparse_popUncertainAll (o : Origin) (l : List Commit) (h : Sparse reg s.regs) :
    Sparse reg (popUncertainAll o l s).regs := by
  induction l generalizing s with
  | nil => exact h
  | cons x t ih => simp [popUncertainAll, h, ih]

@[simp] theorem sparse_returnOrg (o : Origin) (h : Sparse reg s.regs) : Sparse reg (returnOrg o s).regs := by
  unfold returnOrg
  split <;> simp [h]

@[simp] theorem sparse_returnOrgs (l : List Pend) (h : Sparse reg s.regs) : Sparse reg (returnOrgs l s).regs := by
  induction l generalizing s with
  | nil => exact h
  | cons x t ih => simp [returnOrgs, h, ih]

@[simp] theorem sparse_returnWhere (p : Commit → Bool) (h : Sparse reg s.regs) : Sparse reg (returnWhere p s).regs := by
  simp [returnWhere, h]

@[simp] theorem sparse_unitForget (lo : Nat) (qs : List Nat) (h : Sparse reg s.regs) :
    Sparse reg (unitForget lo qs s).regs := by
  simp [unitForget, h]

@[simp] theorem sparse_returnSilent (o : Origin) (h : Sparse reg s.regs) : Sparse reg (returnSilent o s).regs := by
  unfold returnSilent
  split <;> simp [h]

/-! ## PCIe answers (R154) -/

@[simp] theorem sparse_returnSilentIdx (id : Nat) (l : List Nat) (h : Sparse reg s.regs) :
    Sparse reg (returnSilentIdx id l s).regs := by
  induction l generalizing s with
  | nil => exact h
  | cons x t ih => simp [returnSilentIdx, h, ih]

@[simp] theorem sparse_sendAck (node tag : Nat) (h : Sparse reg s.regs) : Sparse reg (sendAck node tag s).regs := by
  simp [sendAck, h]

@[simp] theorem sparse_sendAcks (l : List (Nat × Nat)) (h : Sparse reg s.regs) : Sparse reg (sendAcks l s).regs := by
  induction l generalizing s with
  | nil => exact h
  | cons x t ih => simp [sendAcks, h, ih]

@[simp] theorem sparse_pcieFlush (id : Nat) (h : Sparse reg s.regs) : Sparse reg (pcieFlush id s).regs := by
  unfold pcieFlush
  split <;> simp [h]

@[simp] theorem regs_padBytes (n : Nat) (l : List Byte) (s : State) : (padBytes n l s).2.regs = s.regs := by
  induction n generalizing l s with
  | zero => rfl
  | succ n ih => cases l <;> simp [padBytes, ih]

@[simp] theorem sparse_pcieResult (id idx : Nat) (st : Status) (d : List Byte) (ack : Option Nat) (h : Sparse reg s.regs) :
    Sparse reg (pcieResult id idx st d ack s).regs := by
  grind [pcieResult, sparse_errLog, regs_padBytes, sparse_pcieFlush]

/-! ## SPI answers (R156, R157) -/

@[simp] theorem sparse_spiResult (node : Nat) (a : Access) (st : Status) (d : List Byte) (h : Sparse reg s.regs) :
    Sparse reg (spiResult node a st d s).regs := by
  unfold spiResult
  split <;> simp [h]

@[simp] theorem regs_unserve (o : Origin) (s : State) : (unserve o s).regs = s.regs := (rfl)

@[simp] theorem sparse_complete (o : Origin) (node : Nat) (a : Access) (st : Status) (d : List Byte) (h : Sparse reg s.regs) :
    Sparse reg (complete o node a st d s).regs := by
  unfold complete
  dsimp only
  repeat' split
  all_goals simp [h]

/-! ## Answering a request served on this node (R127, R141, R142, R158) -/

@[simp] theorem sparse_refuseP (o : Origin) (a : Access) (st : Status) (h : Sparse reg s.regs) :
    Sparse reg (refuseP o a st s).regs := by
  unfold refuseP
  split <;> simp [h]

theorem regs_retryOwn {o : Origin} {t : State} (e : retryOwn o s = some t) : t.regs = s.regs := by grind [retryOwn]

@[simp] theorem sparse_answer (o : Origin) (a : Access) (st : Status) (d : List Byte) (h : Sparse reg s.regs) :
    Sparse reg (answer o a st d s).regs := by
  have told (local_ : Bool) : Sparse reg (if local_ then countStatus true st s else s).regs := by simp [h]
  unfold answer
  split
  · simp [h]
  · dsimp only
    split
    · cases again : retryOwn o (if isLocal o then countStatus true st s else s) with
      | none => exact sparse_complete _ _ _ _ _ (told _)
      | some t => simpa [regs_retryOwn again] using told (isLocal o)
    · exact sparse_complete _ _ _ _ _ (told _)

/-! ## Inkwell: items, pops, moves (R164, R174–R180) -/

theorem sparse_tryPop {q count : Nat} {o : Origin} {r : Status × List Byte × State} (e : tryPop q count o s = some r)
    (h : Sparse reg s.regs) : Sparse reg r.2.2.regs := by
  grind [tryPop, sparse_raiseCells, regs_putQueue]

@[simp] theorem sparse_releasePops (q n : Nat) (h : Sparse reg s.regs) : Sparse reg (releasePops q n s).regs := by
  induction n generalizing s with
  | zero => exact h
  | succ n ih =>
    unfold releasePops
    split
    · exact h
    · split
      · exact h
      next served => exact ih (sparse_complete _ _ _ _ _ (sparse_tryPop served h))

@[simp] theorem regs_signalQueue (q : Nat) (s : State) : (signalQueue q s).regs = s.regs := by simp [signalQueue, regs_ite]

@[simp] theorem regs_enqueue (q : Nat) (i : Item) (s : State) : (enqueue q i s).regs = s.regs := by
  unfold enqueue
  dsimp only
  repeat' split
  all_goals simp

@[simp] theorem sparse_meetBad (q : Nat) (h : Sparse reg s.regs) : Sparse reg (meetBad q s).regs := by
  unfold meetBad
  dsimp only
  repeat' split
  all_goals simp [h]

@[simp] theorem sparse_flow (n k : Nat) (h : Sparse reg s.regs) : Sparse reg (flow n k s).regs := by
  induction n generalizing k s with
  | zero => exact h
  | succ m ih =>
    unfold flow
    dsimp only
    repeat' split
    all_goals simp [h, ih]

@[simp] theorem sparse_closeItem (q : Nat) (i : Item) (h : Sparse reg s.regs) : Sparse reg (closeItem q i s).regs := by
  simp [closeItem, h]

@[simp] theorem sparse_putItem (q : Nat) (i : Item) (h : Sparse reg s.regs) : Sparse reg (putItem q i s).2.regs := by
  unfold putItem
  split <;> simp [h]

@[simp] theorem sparse_prodByte (q : Nat) (b : Byte) (user : Word) (h : Sparse reg s.regs) :
    Sparse reg (prodByte q b user s).2.regs := by
  unfold prodByte
  dsimp only
  repeat' split
  all_goals simp [h]

@[simp] theorem sparse_prodClose (q : Nat) (user : Word) (trunc : Bool) (h : Sparse reg s.regs) :
    Sparse reg (prodClose q user trunc s).regs := by
  unfold prodClose
  dsimp only
  repeat' split
  all_goals simp [h]

@[simp] theorem sparse_freeHead (q : Nat) (h : Sparse reg s.regs) : Sparse reg (freeHead q s).regs := by simp [freeHead, h]

@[simp] theorem sparse_raiseFree (n : Nat) (h : Sparse reg s.regs) : Sparse reg (raiseFree n s).regs := by
  simp [raiseFree, h]

end

end Sys2Proof.Proofs
end

section
/-! SUPPORT. No write lists a register with its reset value: the CAN FD controllers and the pins. -/
namespace Sys2Proof.Proofs
open Sys2Proof Sys2Proof.Machine Sys2Proof.Laws

section

variable {reg : Nat} {s : State}

@[simp] theorem sparse_canEvt (k i : Nat) (h : Sparse reg s.regs) : Sparse reg (canEvt k i s).regs := by simp [canEvt, h]
@[simp] theorem regs_canPut (k : Nat) (o : CanOut) (s : State) : (canPut k o s).regs = s.regs := (rfl)

/-! ## Frames and records (R328, R329) -/

@[simp] theorem sparse_canStage (k kind obj : Nat) (r : List Byte) (h : Sparse reg s.regs) :
    Sparse reg (canStage k kind obj r s).regs := by
  simp [canStage, h]

@[simp] theorem sparse_canAdmit (k : Nat) (h : Sparse reg s.regs) : Sparse reg (canAdmit k s).regs := by
  grind [canAdmit, sparse_putItem, setCan_regs]

@[simp] theorem sparse_canAdmitN (k n : Nat) (h : Sparse reg s.regs) : Sparse reg (canAdmitN k n s).regs := by
  induction n generalizing s with
  | zero => exact h
  | succ m ih => simp [canAdmitN, h, ih]

/-! ## Objects (R330–R335) -/

@[simp] theorem sparse_objClear (k i : Nat) (h : Sparse reg s.regs) : Sparse reg (objClear k i s).regs := by
  simp [objClear, h]

@[simp] theorem sparse_objCancel (k i : Nat) (h : Sparse reg s.regs) : Sparse reg (objCancel k i s).regs := by
  simp [objCancel, h]

/-! ## Error confinement (R339–R341) -/

@[simp] theorem sparse_canIntegrate (k : Nat) (h : Sparse reg s.regs) : Sparse reg (canIntegrate k s).regs := by
  simp [canIntegrate, h]

@[simp] theorem sparse_objOffBus (k : Nat) (h : Sparse reg s.regs) : Sparse reg (objOffBus k s).regs := by
  unfold objOffBus
  split <;> simp [h]

@[simp] theorem sparse_canRejoin (k : Nat) (h : Sparse reg s.regs) : Sparse reg (canRejoin k s).regs := by
  simp [canRejoin, h]

@[simp] theorem sparse_canFrameEnd (k : Nat) (h : Sparse reg s.regs) : Sparse reg (canFrameEnd k s).regs := by
  simp [canFrameEnd, h]

@[simp] theorem sparse_canOffBus (k : Nat) (h : Sparse reg s.regs) : Sparse reg (canOffBus k s).regs := by
  simp [canOffBus, h]

@[simp] theorem regs_canSentBits (k n : Nat) (f : CanFrame) (s : State) : (canSentBits k n f s).regs = s.regs := by
  unfold canSentBits
  split <;> simp

@[simp] theorem sparse_canFailed (k : Nat) (b : CanBus) (h : Sparse reg s.regs) : Sparse reg (canFailed k b s).regs := by
  unfold canFailed
  split <;> simp [h]

@[simp] theorem sparse_canCutBus (k : Nat) (h : Sparse reg s.regs) : Sparse reg (canCutBus k s).regs := by
  unfold canCutBus
  split <;> simp [h]

@[simp] theorem sparse_canBreak (k : Nat) (h : Sparse reg s.regs) : Sparse reg (canBreak k s).regs := by
  grind [canBreak, sparse_canCutBus, sparse_canFailed, sparse_canFrameEnd]

/-! ## Outcome of a frame sent (R324, R330, R333, R334, R346) -/

@[simp] theorem sparse_canCancelBits (k w : Nat) (v : Word) (l : List Nat) (h : Sparse reg s.regs) :
    Sparse reg (canCancelBits k w v l s).regs := by
  induction l generalizing s with
  | nil => exact h
  | cons x t ih => simp [canCancelBits, h, ih]

@[simp] theorem sparse_canTxcan (k w : Nat) (v : Word) (h : Sparse reg s.regs) : Sparse reg (canTxcan k w v s).regs := by
  simp [canTxcan, h]

/-! ## Fall-back (R343–R348) -/

@[simp] theorem sparse_canFallback (k cause : Nat) (h : Sparse reg s.regs) : Sparse reg (canFallback k cause s).regs := by
  simp [canFallback, h]

@[simp] theorem sparse_canLeave (k : Nat) (h : Sparse reg s.regs) : Sparse reg (canLeave k s).regs := by simp [canLeave, h]
@[simp] theorem regs_canWdogStart (k : Nat) (s : State) : (canWdogStart k s).regs = s.regs := (rfl)

@[simp] theorem regs_canKick (k : Nat) (o : Origin) (s : State) : (canKick k o s).regs = s.regs := by
  unfold canKick
  split <;> simp

/-! ## Stroke, clock, safe state (R327, R335, R342, R349) -/

@[simp] theorem regs_canSafe (k : Nat) (s : State) : (canSafe k s).regs = s.regs := by
  unfold canSafe
  dsimp only
  repeat' split
  all_goals simp

@[simp] theorem regs_canSafeEnd (k : Nat) (s : State) : (canSafeEnd k s).regs = s.regs := by
  unfold canSafeEnd
  split <;> simp

@[simp] theorem sparse_canHold (k : Nat) (h : Sparse reg s.regs) : Sparse reg (canHold k s).regs := by simp [canHold, h]

@[simp] theorem sparse_canRunAgain (k : Nat) (h : Sparse reg s.regs) : Sparse reg (canRunAgain k s).regs := by
  simp [canRunAgain, h]

/-! ## Enable and unit reset (R323, R350–R353) -/

@[simp] theorem sparse_canStart (k : Nat) (h : Sparse reg s.regs) : Sparse reg (canStart k s).regs := by simp [canStart, h]

@[simp] theorem sparse_canReturn (k : Nat) (l : List Nat) (h : Sparse reg s.regs) : Sparse reg (canReturn k l s).regs := by
  induction l generalizing s with
  | nil => exact h
  | cons i t ih =>
    unfold canReturn
    split
    · exact ih h
    · exact ih (sparse_canAdmitN _ _ (sparse_canStage _ _ _ _ (sparse_objClear _ _ h)))

@[simp] theorem sparse_canUnstage (k : Nat) (l : List (Word × List Byte)) (h : Sparse reg s.regs) :
    Sparse reg (canUnstage k l s).regs := by
  induction l generalizing s with
  | nil => exact h
  | cons e t ih =>
    apply ih
    simp [h]

@[simp] theorem sparse_canReset (k : Nat) (h : Sparse reg s.regs) : Sparse reg (canReset k s).regs := by
  unfold canReset
  split
  · exact h
  extract_lets admitted returned unstaged left
  have hadmitted : Sparse reg admitted.regs := sparse_canAdmitN _ _ (sparse_canCutBus _ (sparse_unitForget _ _ h))
  have hunstaged : Sparse reg unstaged.regs := sparse_canUnstage _ _ (sparse_canReturn _ _ hadmitted)
  simp [left, hunstaged]

@[simp] theorem sparse_canQuar (k : Nat) (h : Sparse reg s.regs) : Sparse reg (canQuar k s).regs := by simp [canQuar, h]

@[simp] theorem sparse_canCtlWrite (k : Nat) (v : Word) (h : Sparse reg s.regs) : Sparse reg (canCtlWrite k v s).regs := by
  grind [canCtlWrite, sparse_canFallback, sparse_canLeave, sparse_canReset, sparse_canStart, sparse_stm]

@[simp] theorem sparse_canWdogWrite (k : Nat) (o : Origin) (v : Word) (h : Sparse reg s.regs) :
    Sparse reg (canWdogWrite k o v s).regs := by
  simp [canWdogWrite, h]

/-! ## Reads (R338, R356, R358) -/

@[simp] theorem sparse_claimPin (p own slot idx : Nat) (h : Sparse reg s.regs) :
    Sparse reg (claimPin p own slot idx s).regs := by
  simp [claimPin, h]

@[simp] theorem sparse_releasePin (p : Nat) (h : Sparse reg s.regs) : Sparse reg (releasePin p s).regs := by
  simp [releasePin, h]

@[simp] theorem regs_drivePin (p : Nat) (oe out : Bool) (s : State) : (drivePin p oe out s).regs = s.regs := (rfl)

/-! ## Discrete lines -/

@[simp] theorem regs_stormCut (p : Nat) (s : State) : (stormCut p s).regs = s.regs := by
  unfold stormCut
  dsimp only
  repeat' split
  all_goals simp

@[simp] theorem sparse_dfltWrite (p : Nat) (v : Word) (h : Sparse reg s.regs) : Sparse reg (dfltWrite p v s).regs := by
  simp [dfltWrite, h]

@[simp] theorem sparse_ddetWrite (p : Nat) (v : Word) (h : Sparse reg s.regs) : Sparse reg (ddetWrite p v s).regs := by
  simp [ddetWrite, h]

@[simp] theorem sparse_dlimWrite (p : Nat) (v : Word) (h : Sparse reg s.regs) : Sparse reg (dlimWrite p v s).regs := by
  simp [dlimWrite, h]

/-! ## Discrete outputs (R255–R258) -/

@[simp] theorem sparse_safeWrite (p : Nat) (v : Word) (h : Sparse reg s.regs) : Sparse reg (safeWrite p v s).regs := by
  simp [safeWrite, h]

@[simp] theorem sparse_valWrite (p : Nat) (v : Bool) (h : Sparse reg s.regs) : Sparse reg (valWrite p v s).regs := by
  simp [valWrite, h]

@[simp] theorem sparse_pulseEnd (p : Nat) (h : Sparse reg s.regs) : Sparse reg (pulseEnd p s).regs := by simp [pulseEnd, h]

@[simp] theorem sparse_doutRelease (p : Nat) (h : Sparse reg s.regs) : Sparse reg (doutRelease p s).regs := by
  simp [doutRelease, h]

@[simp] theorem sparse_doutWrite (p : Nat) (v : Word) (h : Sparse reg s.regs) : Sparse reg (doutWrite p v s).regs := by
  unfold doutWrite
  extract_lets fields pulse put c told
  have hput : Sparse reg put.regs := by simp [put, fields, h]
  have htold : Sparse reg told.regs := by simp [told, hput]
  simp [fields, h, htold]

@[simp] theorem sparse_endPulses (l : List Nat) (h : Sparse reg s.regs) : Sparse reg (endPulses l s).regs := by
  induction l generalizing s with
  | nil => exact h
  | cons x t ih => simp [endPulses, h, ih]

end

end Sys2Proof.Proofs
end

section
/-! SUPPORT. No write lists a register with its reset value: the nibs. -/
namespace Sys2Proof.Proofs
open Sys2Proof Sys2Proof.Machine Sys2Proof.Laws

section

variable {reg : Nat} {s : State}

/-! ## Access -/

@[simp] theorem sparse_nibEvt (n i : Nat) (h : Sparse reg s.regs) : Sparse reg (nibEvt n i s).regs := by simp [nibEvt, h]
@[simp] theorem sparse_nibErr (n k : Nat) (h : Sparse reg s.regs) : Sparse reg (nibErr n k s).regs := by simp [nibErr, h]

/-! ## Slots (R193, R197) -/

@[simp] theorem regs_slotDrive (n k : Nat) (oe lvl : Bool) (s : State) : (slotDrive n k oe lvl s).regs = s.regs := by
  unfold slotDrive
  split <;> simp

@[simp] theorem regs_slotAct (n k : Nat) (oe lvl : Bool) (s : State) : (slotAct n k oe lvl s).regs = s.regs := by
  unfold slotAct
  split <;> simp

@[simp] theorem regs_nibIdle (n : Nat) (s : State) : (nibIdle n s).regs = s.regs := by
  unfold nibIdle
  dsimp only
  repeat' split
  all_goals simp

/-! ## The enable check (R194, R199, R201, R204, R209, R211, R228) -/

@[simp] theorem sparse_claimSlots (n : Nat) (l : List Nat) (h : Sparse reg s.regs) : Sparse reg (claimSlots n l s).regs := by
  induction l generalizing s with
  | nil => exact h
  | cons x t ih => simp [claimSlots, h, ih]

@[simp] theorem sparse_releaseSlots (n : Nat) (l : List Nat) (h : Sparse reg s.regs) :
    Sparse reg (releaseSlots n l s).regs := by
  induction l generalizing s with
  | nil => exact h
  | cons x t ih => simp [releaseSlots, h, ih]

@[simp] theorem sparse_nibStart (n : Nat) (h : Sparse reg s.regs) : Sparse reg (nibStart n s).regs := by simp [nibStart, h]

/-! ## The receive path (R183, R207–R209) -/

@[simp] theorem sparse_putFifo (n : Nat) (l : List RxEnt) (h : Sparse reg s.regs) : Sparse reg (putFifo n l s).regs := by
  simp [putFifo, h]

@[simp] theorem sparse_nibLose (n cnt : Nat) (first : Bool) (h : Sparse reg s.regs) :
    Sparse reg (nibLose n cnt first s).regs := by
  simp [nibLose, h]

@[simp] theorem sparse_nibDrain (n fuel : Nat) (h : Sparse reg s.regs) : Sparse reg (nibDrain n fuel s).regs := by
  induction fuel generalizing s with
  | zero => exact h
  | succ fuel ih =>
    unfold nibDrain
    dsimp only
    split
    · exact h
    · refine ih (sparse_putFifo _ _ ?_)
      split <;> simp [h]
    · refine ih (sparse_putFifo _ _ ?_)
      simp [h]
    next b r fifo =>
      split
      · exact ih (sparse_putFifo _ _ (sparse_nibLose _ _ _ h))
      · have made := sparse_prodByte (2 * n + 1) b 0 h
        generalize prodByte (2 * n + 1) b 0 s = p at made
        obtain ⟨ok, t⟩ := p
        cases ok with
        | true => exact ih (sparse_putFifo _ _ ((sparse_bump _ _).mpr (.inr made)))
        | false =>
          dsimp only at made ⊢
          split
          · exact made
          · refine ih (sparse_putFifo _ _ (sparse_nibLose _ _ _ ?_))
            simp [made]

@[simp] theorem sparse_nibDrainAll (n : Nat) (h : Sparse reg s.regs) : Sparse reg (nibDrainAll n s).regs := by
  simp [nibDrainAll, h]

@[simp] theorem sparse_nibHoldStart (n : Nat) (h : Sparse reg s.regs) : Sparse reg (nibHoldStart n s).regs := by
  simp [nibHoldStart, h]

@[simp] theorem sparse_rxClose (n flags : Nat) (h : Sparse reg s.regs) : Sparse reg (rxClose n flags s).regs := by
  grind [rxClose, sparse_nibDrainAll, sparse_putFifo, setNib_regs]

@[simp] theorem sparse_rxPut (n : Nat) (b : Byte) (h : Sparse reg s.regs) : Sparse reg (rxPut n b s).regs := by
  grind [rxPut, sparse_bump, sparse_nibDrainAll, sparse_nibEvt, sparse_nibHoldStart, sparse_nibLose, sparse_putFifo,
    sparse_rxClose, setNib_regs]

@[simp] theorem sparse_rxPutAll (n : Nat) (l : List Byte) (h : Sparse reg s.regs) : Sparse reg (rxPutAll n l s).regs := by
  induction l generalizing s with
  | nil => exact h
  | cons x t ih => simp [rxPutAll, h, ih]

@[simp] theorem sparse_rxLenClose (n : Nat) (h : Sparse reg s.regs) : Sparse reg (rxLenClose n s).regs := by
  simp [rxLenClose, h]

@[simp] theorem regs_rxTag (n ns : Nat) (s : State) : (rxTag n ns s).regs = s.regs := (rfl)

@[simp] theorem sparse_nibRefill (n : Nat) (h : Sparse reg s.regs) : Sparse reg (nibRefill n s).regs := by
  unfold nibRefill
  split <;> simp [h]

/-! ## Transmitting -/

@[simp] theorem regs_nibPush (n : Nat) (o : List NibOut) (s : State) : (nibPush n o s).regs = s.regs := by
  unfold nibPush
  split <;> simp

@[simp] theorem regs_setHeadPos (q p : Nat) (s : State) : (setHeadPos q p s).regs = s.regs := by
  unfold setHeadPos
  dsimp only
  repeat' split
  all_goals simp

@[simp] theorem sparse_txShow (n : Nat) (busy : Bool) (rest : Nat) (h : Sparse reg s.regs) :
    Sparse reg (txShow n busy rest s).regs := by
  simp [txShow, h]

@[simp] theorem sparse_nibTxDone (n : Nat) (h : Sparse reg s.regs) : Sparse reg (nibTxDone n s).regs := by
  grind [nibTxDone, sparse_bump, sparse_freeHead, setNib_regs, sparse_txShow]

@[simp] theorem sparse_spiCsHigh (n : Nat) (h : Sparse reg s.regs) : Sparse reg (spiCsHigh n s).regs := by
  simp [spiCsHigh, h]

@[simp] theorem sparse_nibPoison (n : Nat) (cells : List Nat) (h : Sparse reg s.regs) :
    Sparse reg (nibPoison n cells s).regs := by
  grind [nibPoison, regs_nibPush, sparse_raise, sparse_raiseCells, sparse_rxClose, setNib_regs, sparse_spiCsHigh,
    sparse_txShow, sparse_wb]

/-! ## UART (R213–R217) -/

@[simp] theorem sparse_uartNoise (n k : Nat) (h : Sparse reg s.regs) : Sparse reg (uartNoise n k s).regs := by
  induction k generalizing s with
  | zero => exact h
  | succ m ih => simp [uartNoise, h, ih]

@[simp] theorem sparse_uartChar (n data : Nat) (par stop : Bool) (noise ns : Nat) (h : Sparse reg s.regs) :
    Sparse reg (uartChar n data par stop noise ns s).regs := by
  grind [uartChar, sparse_nibErr, sparse_rxClose, sparse_rxLenClose, sparse_rxPutAll, regs_rxTag, sparse_uartNoise]

@[simp] theorem sparse_uartLoop (n k : Nat) (l : List Byte) (h : Sparse reg s.regs) : Sparse reg (uartLoop n k l s).regs := by
  induction k generalizing n l s with
  | zero => exact h
  | succ m ih => simp [uartLoop, h, ih]

@[simp] theorem sparse_uartSend (n len : Nat) (h : Sparse reg s.regs) : Sparse reg (uartSend n len s).regs := by
  unfold uartSend
  split <;> simp [h]

/-! ## Streams: SPI target and I2C target (R223, R228) -/

@[simp] theorem sparse_streamShow (n : Nat) (h : Sparse reg s.regs) : Sparse reg (streamShow n s).regs := by
  unfold streamShow
  split <;> simp [h]

@[simp] theorem sparse_streamByte (n : Nat) (h : Sparse reg s.regs) : Sparse reg (streamByte n s).2.regs := by
  unfold streamByte
  dsimp only
  repeat' split
  all_goals simp [h]

@[simp] theorem regs_misoSend (n : Nat) (b : Byte) (s : State) : (misoSend n b s).regs = s.regs := by
  simp [misoSend]

@[simp] theorem sparse_spiTargetBytes (n k : Nat) (h : Sparse reg s.regs) : Sparse reg (spiTargetBytes n k s).regs := by
  induction k generalizing s with
  | zero => exact h
  | succ k ih =>
    have sent := sparse_streamByte n h
    unfold spiTargetBytes
    generalize streamByte n s = p at sent
    obtain ⟨b, t⟩ := p
    apply ih
    cases b with
    | some b => simpa using sent
    | none => simp [show Sparse reg t.regs from sent]

@[simp] theorem sparse_i2cTgtBytes (n k : Nat) (h : Sparse reg s.regs) : Sparse reg (i2cTgtBytes n k s).regs := by
  induction k generalizing s with
  | zero => exact h
  | succ k ih =>
    have sent := sparse_streamByte n h
    unfold i2cTgtBytes
    generalize streamByte n s = p at sent
    obtain ⟨b, t⟩ := p
    cases b with
    | some b =>
      apply ih
      simpa using sent
    | none => exact sent

/-! ## Unit reset and hold (R34, R40, R196, R203, R502) -/

@[simp] theorem sparse_nibTxCut (n sent : Nat) (h : Sparse reg s.regs) : Sparse reg (nibTxCut n sent s).regs := by
  simp [nibTxCut, h]

@[simp] theorem sparse_fifoSpill (n : Nat) (counted : Bool) (cnt : Nat) (l : List RxEnt) (h : Sparse reg s.regs) :
    Sparse reg (fifoSpill n counted cnt l s).regs := by
  induction l generalizing cnt s with
  | nil => simp [fifoSpill, h]
  | cons e t ih => cases e <;> simp [fifoSpill, ih, h]

@[simp] theorem sparse_nibRxCut (n : Nat) (got : List Byte) (h : Sparse reg s.regs) : Sparse reg (nibRxCut n got s).regs := by
  grind [nibRxCut, sparse_bump, sparse_fifoSpill, sparse_nibRefill, sparse_prodClose, sparse_rxPutAll]

@[simp] theorem sparse_nibCut (n sent : Nat) (got : List Byte) (h : Sparse reg s.regs) :
    Sparse reg (nibCut n sent got s).regs := by
  simp [nibCut, h]

@[simp] theorem sparse_nibFar (h : Sparse reg s.regs) : Sparse reg (nibFar s).2.2.regs := by simp [nibFar, h]

@[simp] theorem sparse_nibHoldIdle (n : Nat) (h : Sparse reg s.regs) : Sparse reg (nibHoldIdle n s).regs := by
  simp [nibHoldIdle, h]

@[simp] theorem sparse_nibReset (n sent : Nat) (got : List Byte) (h : Sparse reg s.regs) :
    Sparse reg (nibReset n sent got s).regs := by
  grind [nibReset, sparse_nibCut, sparse_releaseSlots, sparse_unitForget, sparse_wb]

@[simp] theorem sparse_nibQuar (n : Nat) (h : Sparse reg s.regs) : Sparse reg (nibQuar n s).regs := by simp [nibQuar, h]

@[simp] theorem sparse_nibTxHold (n sent : Nat) (h : Sparse reg s.regs) : Sparse reg (nibTxHold n sent s).regs := by
  simp [nibTxHold, h]

@[simp] theorem sparse_nibCtlWrite (n : Nat) (v : Word) (sent : Nat) (got : List Byte) (h : Sparse reg s.regs) :
    Sparse reg (nibCtlWrite n v sent got s).regs := by
  simp [nibCtlWrite, h]

@[simp] theorem sparse_nibFlowna (n : Nat) (h : Sparse reg s.regs) : Sparse reg (nibFlowna n s).regs := by
  simp [nibFlowna, h]

end

end Sys2Proof.Proofs
end

section
/-! SUPPORT. No write lists a register with its reset value: the ring: lanes, link ends, the MAC. -/
namespace Sys2Proof.Proofs
open Sys2Proof Sys2Proof.Machine Sys2Proof.Laws

section

variable {reg : Nat} {s : State}

/-! ## The line of a lane (R50, R55) -/

@[simp] theorem regs_lineSend (l : Nat) (bs : List Block) (s : State) : (lineSend l bs s).regs = s.regs := (rfl)

/-! ## Counters and credits -/

@[simp] theorem sparse_cntRing (o r n : Nat) (h : Sparse reg s.regs) : Sparse reg (cntRing o r n s).regs := by
  simp [cntRing, h]

@[simp] theorem regs_creditReturn (l c n : Nat) (s : State) : (creditReturn l c n s).regs = s.regs := by
  unfold creditReturn
  split <;> simp

@[simp] theorem sparse_broken (f : Frame) (h : Sparse reg s.regs) : Sparse reg (broken f s).regs := by simp [broken, h]

@[simp] theorem sparse_poolLeave (o : OutFrame) (h : Sparse reg s.regs) : Sparse reg (poolLeave o s).regs := by
  unfold poolLeave
  split <;> simp [h]

@[simp] theorem regs_copyLost (o : OutFrame) (s : State) : (copyLost o s).regs = s.regs := by
  unfold copyLost
  dsimp only
  repeat' split
  all_goals simp

@[simp] theorem sparse_breakFrames (l : List OutFrame) (h : Sparse reg s.regs) : Sparse reg (breakFrames l s).regs := by
  induction l generalizing s with
  | nil => exact h
  | cons o t ih =>
    apply ih
    simp [h]

@[simp] theorem sparse_breakAll (l : Nat) (h : Sparse reg s.regs) : Sparse reg (breakAll l s).regs := by
  grind [breakAll, sparse_breakFrames, setLink_regs]

@[simp] theorem regs_closeWire (l id : Nat) (f : Frame) (bs : List Block) (s : State) :
    (closeWire l id f bs s).regs = s.regs := by
  unfold closeWire
  dsimp only
  repeat' split
  all_goals simp

@[simp] theorem regs_spoilWire (l id blocks : Nat) (s : State) : (spoilWire l id blocks s).regs = s.regs := by
  unfold spoilWire
  split <;> simp

@[simp] theorem regs_spoilCopy (l id blocks : Nat) (s : State) : (spoilCopy l id blocks s).regs = s.regs := by
  unfold spoilCopy
  dsimp only
  repeat' split
  all_goals simp

@[simp] theorem sparse_badEnd (l blocks : Nat) (h : Sparse reg s.regs) : Sparse reg (badEnd l blocks s).regs := by
  grind [badEnd, sparse_cntRing, regs_creditReturn, setLink_regs, regs_spoilCopy]

@[simp] theorem regs_disown (l : Nat) (s : State) : (disown l s).regs = s.regs := (rfl)

@[simp] theorem sparse_linkLeave (l : Nat) (h : Sparse reg s.regs) : Sparse reg (linkLeave l s).regs := by
  simp [linkLeave, h]

@[simp] theorem sparse_laneTo (l st : Nat) (h : Sparse reg s.regs) : Sparse reg (laneTo l st s).regs := by simp [laneTo, h]

@[simp] theorem sparse_putLaneBit (l i : Nat) (b : Bool) (h : Sparse reg s.regs) : Sparse reg (putLaneBit l i b s).regs := by
  simp [putLaneBit, h]

@[simp] theorem regs_laneNotice (l code : Nat) (info : Word) (s : State) : (laneNotice l code info s).regs = s.regs := (rfl)

@[simp] theorem sparse_laneClear (l : Nat) (h : Sparse reg s.regs) : Sparse reg (laneClear l s).regs := by
  simp [laneClear, h]

@[simp] theorem sparse_lockLost (l : Nat) (h : Sparse reg s.regs) : Sparse reg (lockLost l s).regs := by simp [lockLost, h]

@[simp] theorem sparse_dropLocks (l : Nat) (h : Sparse reg s.regs) : Sparse reg (dropLocks l s).regs := by
  grind [dropLocks, sparse_lockLost, sparse_putLaneBit, setLane_regs]

@[simp] theorem sparse_laneUnlock (l : Nat) (rate : Bool) (h : Sparse reg s.regs) :
    Sparse reg (laneUnlock l rate s).regs := by
  refine (sparse_wf _ _ _ _).mpr (.inr (sparse_putLaneBit _ _ _ (sparse_putLaneBit _ _ _ (sparse_dropLocks _ ?_))))
  simp [h]

@[simp] theorem sparse_toDetect (l : Nat) (h : Sparse reg s.regs) : Sparse reg (toDetect l s).regs := by
  grind [toDetect, sparse_laneClear, sparse_laneTo, sparse_laneUnlock]

@[simp] theorem sparse_toPrbs (l : Nat) (h : Sparse reg s.regs) : Sparse reg (toPrbs l s).regs := by
  grind [toPrbs, regs_fresh, sparse_laneClear, sparse_laneTo, sparse_laneUnlock, setLane_regs, sparse_wr]

@[simp] theorem sparse_linkDown (l cause : Nat) (h : Sparse reg s.regs) : Sparse reg (linkDown l cause s).regs := by
  grind [linkDown, sparse_bump, regs_laneNotice, sparse_linkLeave, sparse_raiseFree, sparse_toDetect, sparse_toPrbs,
    sparse_wb, sparse_wr]

/-! ## Equalisation (R68, R79, R80) -/

@[simp] theorem sparse_txeqWrite (l : Nat) (v : Word) (h : Sparse reg s.regs) : Sparse reg (txeqWrite l v s).regs := by
  simp [txeqWrite, h]

/-! ## Control registers (R72, R76, R81) -/

@[simp] theorem sparse_laneCtlWrite (l : Nat) (v : Word) (h : Sparse reg s.regs) : Sparse reg (laneCtlWrite l v s).regs := by
  simp [laneCtlWrite, h]

@[simp] theorem sparse_prbsCtlWrite (l : Nat) (v : Word) (h : Sparse reg s.regs) : Sparse reg (prbsCtlWrite l v s).regs := by
  grind [prbsCtlWrite, sparse_linkDown, sparse_putLaneBit, setLane_regs, sparse_stm, sparse_toDetect, sparse_wf]

@[simp] theorem sparse_prbsLoRead (l : Nat) (h : Sparse reg s.regs) : Sparse reg (prbsLoRead l s).regs := by
  simp [prbsLoRead, h]

/-! ## Own node, closure, presence (R106–R108, R115, R122) -/

@[simp] theorem sparse_putSeen (n r : Nat) (b : Bool) (h : Sparse reg s.regs) : Sparse reg (putSeen n r b s).regs := by
  simp [putSeen, h]

@[simp] theorem sparse_seenChange (n r : Nat) (b : Bool) (h : Sparse reg s.regs) : Sparse reg (seenChange n r b s).regs := by
  simp [seenChange, h]

@[simp] theorem sparse_closedChange (r : Nat) (b : Bool) (h : Sparse reg s.regs) : Sparse reg (closedChange r b s).regs := by
  simp [closedChange, h]

@[simp] theorem sparse_isolate (dev : Word) (h : Sparse reg s.regs) : Sparse reg (isolate dev s).regs := by
  grind [isolate, notify_regs, sparse_raise, setRing_regs, sparse_wb]

@[simp] theorem sparse_ownPresence (r : Nat) (f : Frame) (h : Sparse reg s.regs) : Sparse reg (ownPresence r f s).regs := by
  simp [ownPresence, h]

@[simp] theorem sparse_presenceFrame (r : Nat) (f : Frame) (h : Sparse reg s.regs) :
    Sparse reg (presenceFrame r f s).regs := by
  simp [presenceFrame, h]

/-! ## The duplicate filter (R98, R114) -/

@[simp] theorem regs_markWin (src q : Nat) (s : State) : (markWin src q s).regs = s.regs := (rfl)

@[simp] theorem sparse_dupFilter (r : Nat) (f : Frame) (ok : Bool) (h : Sparse reg s.regs) :
    Sparse reg (dupFilter r f ok s).2.regs := by
  grind [dupFilter, sparse_cntRing, regs_fresh, regs_markWin, sparse_wb]

/-! ## Arbitration (R94–R96) -/

@[simp] theorem regs_shSettle (l : Nat) (s : State) : (shSettle l s).regs = s.regs := by
  unfold shSettle
  dsimp only
  repeat' split
  all_goals simp

end

end Sys2Proof.Proofs
end

section
/-! SUPPORT. No write lists a register with its reset value: the inkwell and the quills. -/
namespace Sys2Proof.Proofs
open Sys2Proof Sys2Proof.Machine Sys2Proof.Laws

section

variable {reg : Nat} {s : State}

/-! ## Staged registers and the totals check (R171, R172) -/

@[simp] theorem sparse_inkApply (h : Sparse reg s.regs) : Sparse reg (inkApply s).regs := by simp [inkApply, h]

/-! ## Incoming MSG items (R100, R170) -/

@[simp] theorem sparse_dropInc (q src tag : Nat) (h : Sparse reg s.regs) : Sparse reg (dropInc q src tag s).regs := by
  simp [dropInc, h]

@[simp] theorem sparse_incAbandon (src tag : Nat) (h : Sparse reg s.regs) : Sparse reg (incAbandon src tag s).regs := by
  unfold incAbandon
  split <;> simp [h]

@[simp] theorem regs_refusedPart (f : Frame) (s : State) : (refusedPart f s).regs = s.regs := (rfl)

@[simp] theorem sparse_msgAnswer (f : Frame) (st : Status) (h : Sparse reg s.regs) : Sparse reg (msgAnswer f st s).regs := by
  simp [msgAnswer, h]

@[simp] theorem sparse_msgFill (q : Nat) (m : InMsg) (f : Frame) (h : Sparse reg s.regs) :
    Sparse reg (msgFill q m f s).regs := by
  simp [msgFill, h]

@[simp] theorem sparse_msgFirst (f : Frame) (h : Sparse reg s.regs) : Sparse reg (msgFirst f s).regs := by
  grind [msgFirst, sparse_countRefusal, sparse_incAbandon, sparse_msgAnswer, sparse_msgFill, regs_putQueue,
    regs_refusedPart, setRing_regs]

@[simp] theorem sparse_msgAccept (f : Frame) (h : Sparse reg s.regs) : Sparse reg (msgAccept f s).regs := by
  grind [msgAccept, sparse_bump, sparse_msgFill, sparse_msgFirst, regs_refusedPart]

@[simp] theorem sparse_msgFrame (r : Nat) (f : Frame) (h : Sparse reg s.regs) : Sparse reg (msgFrame r f s).regs := by
  grind [msgFrame, sparse_bump, sparse_cntRing, sparse_dupFilter, regs_fresh, sparse_msgAccept]

/-! ## Pushes and peeks (R175, R176) -/

@[simp] theorem sparse_pushItem (q : Nat) (w0 user : Word) (data : List Byte) (h : Sparse reg s.regs) :
    Sparse reg (pushItem q w0 user data s).2.regs := by
  unfold pushItem
  dsimp only
  repeat' split
  all_goals simp [h]

@[simp] theorem sparse_qlEvt (q i : Nat) (h : Sparse reg s.regs) : Sparse reg (qlEvt q i s).regs := by simp [qlEvt, h]

/-! ## Window pins (R283–R285) -/

@[simp] theorem sparse_qlDrive (q : Nat) (l : List Nat) (h : Sparse reg s.regs) : Sparse reg (qlDrive q l s).regs := by
  induction l generalizing s with
  | nil => exact h
  | cons x t ih => simp [qlDrive, h, ih]

@[simp] theorem sparse_qlPins (q : Nat) (h : Sparse reg s.regs) : Sparse reg (qlPins q s).regs := by simp [qlPins, h]
@[simp] theorem regs_qlLevel (q k : Nat) (b : Bool) (s : State) : (qlLevel q k b s).regs = s.regs := (rfl)

@[simp] theorem sparse_qlIdlePins (q : Nat) (h : Sparse reg s.regs) : Sparse reg (qlIdlePins q s).regs := by
  grind [qlIdlePins, sparse_qlPins, setQuill_regs]

/-! ## Steps (R286–R288) -/

@[simp] theorem sparse_setFill (q n : Nat) (h : Sparse reg s.regs) : Sparse reg (setFill q n s).regs := by simp [setFill, h]
@[simp] theorem sparse_qlCounts (q : Nat) (h : Sparse reg s.regs) : Sparse reg (qlCounts q s).regs := by simp [qlCounts, h]

@[simp] theorem sparse_qlSide (q side : Nat) (h : Sparse reg s.regs) : Sparse reg (qlSide q side s).regs := by
  grind [qlSide, regs_qlLevel]

@[simp] theorem regs_qlShow (q n : Nat) (s : State) : (qlShow q n s).regs = s.regs := by
  unfold qlShow
  split <;> simp

@[simp] theorem sparse_qlCond (q : Nat) (w : Word) (lvl : Bool) (h : Sparse reg s.regs) :
    Sparse reg (qlCond q w lvl s).2.regs := by
  unfold qlCond
  dsimp only
  repeat' split
  all_goals simp [h]

/-! ## Queue binding (R298–R300) -/

@[simp] theorem sparse_qlTakeTx (q : Nat) (h : Sparse reg s.regs) : Sparse reg (qlTakeTx q s).2.regs := by
  grind [qlTakeTx, sparse_freeHead, sparse_qlCounts, setQuill_regs]

@[simp] theorem sparse_qlCloseItem (q tag : Nat) (more trunc : Bool) (h : Sparse reg s.regs) :
    Sparse reg (qlCloseItem q tag more trunc s).regs := by
  simp [qlCloseItem, h]

@[simp] theorem sparse_qlMoveRx (q : Nat) (count : Bool) (fuel : Nat) (h : Sparse reg s.regs) :
    Sparse reg (qlMoveRx q count fuel s).regs := by
  induction fuel generalizing s with
  | zero => exact h
  | succ fuel ih =>
    unfold qlMoveRx
    dsimp only
    split
    · exact h
    · split
      · apply ih
        simp [h]
      · simp [h]

@[simp] theorem sparse_qlRefill (q : Nat) (h : Sparse reg s.regs) : Sparse reg (qlRefill q s).regs := by simp [qlRefill, h]

@[simp] theorem sparse_qlMarkClose (q : Nat) (h : Sparse reg s.regs) : Sparse reg (qlMarkClose q s).regs := by
  grind [qlMarkClose, sparse_qlCloseItem, regs_rxTag, setQuill_regs]

/-! ## Shifter (R292, R293, R297) -/

@[simp] theorem sparse_setShift (q : Nat) (w : Word) (fill : Nat) (h : Sparse reg s.regs) :
    Sparse reg (setShift q w fill s).regs := by
  simp [setShift, h]

@[simp] theorem sparse_qlStall (q : Nat) (tx : Bool) (h : Sparse reg s.regs) : Sparse reg (qlStall q tx s).regs := by
  simp [qlStall, h]

@[simp] theorem sparse_qlLoad (q n : Nat) (h : Sparse reg s.regs) : Sparse reg (qlLoad q n s).2.regs := by
  grind [qlLoad, sparse_qlStall, sparse_qlTakeTx, sparse_setShift, sparse_wb]

@[simp] theorem sparse_qlDrop (q n : Nat) (h : Sparse reg s.regs) : Sparse reg (qlDrop q n s).regs := by simp [qlDrop, h]

@[simp] theorem sparse_qlStore (q : Nat) (close : Bool) (h : Sparse reg s.regs) : Sparse reg (qlStore q close s).2.regs := by
  grind [qlStore, sparse_qlCounts, sparse_qlDrop, sparse_qlMarkClose, sparse_qlMoveRx, sparse_qlStall, sparse_setFill,
    setQuill_regs, sparse_wb]

@[simp] theorem sparse_qlSlotStart (q act : Nat) (w : Word) (h : Sparse reg s.regs) :
    Sparse reg (qlSlotStart q act w s).2.regs := by
  grind [qlSlotStart, regs_qlLevel, sparse_qlLoad, sparse_qlPins, sparse_qlSide]

@[simp] theorem sparse_qlSlotPins (q : Nat) (w : Word) (h : Sparse reg s.regs) : Sparse reg (qlSlotPins q w s).regs := by
  unfold qlSlotPins
  dsimp only
  repeat' split
  all_goals simp [h]

@[simp] theorem sparse_qlSlot (q act : Nat) (w : Word) (smp : Bool) (h : Sparse reg s.regs) :
    Sparse reg (qlSlot q act w smp s).2.regs := by
  grind [qlSlot, sparse_qlSlotPins, sparse_qlSlotStart, sparse_qlStore, setQuill_regs, sparse_setShift]

@[simp] theorem sparse_qlSlots (q act : Nat) (w : Word) (n : Nat) (smp : List Bool) (h : Sparse reg s.regs) :
    Sparse reg (qlSlots q act w n smp s).2.regs := by
  induction n generalizing smp s with
  | zero => exact h
  | succ n ih =>
    have slot := sparse_qlSlot q act w (smp.headD false) h
    unfold qlSlots
    generalize qlSlot q act w (smp.headD false) s = p at slot
    obtain ⟨ok, t⟩ := p
    cases ok with
    | false => exact slot
    | true =>
      apply ih
      simpa using Or.inr slot

/-! ## Executing a step (R289–R291) -/

@[simp] theorem sparse_qlAction (q : Nat) (w : Word) (smp : List Bool) (h : Sparse reg s.regs) :
    Sparse reg (qlAction q w smp s).2.regs := by
  grind [qlAction, sparse_qlIdlePins, sparse_qlLoad, sparse_qlPins, sparse_qlSlots, sparse_qlStore, setQuill_regs,
    sparse_setShift, sparse_wb, sparse_wr]

/-! ## Swaps (R301–R305) -/

@[simp] theorem sparse_qlDoSwap (q : Nat) (h : Sparse reg s.regs) : Sparse reg (qlDoSwap q s).regs := by simp [qlDoSwap, h]

@[simp] theorem sparse_qlPartial (q : Nat) (c : QlCut) (h : Sparse reg s.regs) : Sparse reg (qlPartial q c s).2.regs := by
  grind [qlPartial, sparse_qlAction, sparse_qlCond, sparse_qlPins, sparse_qlSide, sparse_qlSlotStart, sparse_qlSlots,
    setQuill_regs, sparse_wb]

@[simp] theorem sparse_qlForce (q : Nat) (c : QlCut) (h : Sparse reg s.regs) : Sparse reg (qlForce q c s).regs := by
  have cut := sparse_qlPartial q c h
  unfold qlForce
  generalize qlPartial q c s = p at cut
  obtain ⟨ended, t⟩ := p
  cases ended with
  | true =>
    have cleared : Sparse reg (setShift q 0 0 t).regs := by simp [show Sparse reg t.regs from cut]
    exact sparse_raise _ _ (sparse_qlDoSwap q (sparse_qlEvt _ _ ((sparse_bump _ _).mpr (.inr (sparse_qlIdlePins _ cleared)))))
  | false => exact sparse_qlDoSwap q cut

@[simp] theorem sparse_qlSwapBits (q : Nat) (v : Word) (c : QlCut) (h : Sparse reg s.regs) :
    Sparse reg (qlSwapBits q v c s).regs := by
  simp [qlSwapBits, h]

/-! ## Enable, reset, restart (R306–R309) -/

@[simp] theorem sparse_wpClaim (q : Nat) (l : List Nat) (h : Sparse reg s.regs) : Sparse reg (wpClaim q l s).regs := by
  induction l generalizing s with
  | nil => exact h
  | cons x t ih => simp [wpClaim, h, ih]

@[simp] theorem sparse_wpRelease (q : Nat) (l : List Nat) (h : Sparse reg s.regs) : Sparse reg (wpRelease q l s).regs := by
  induction l generalizing s with
  | nil => exact h
  | cons x t ih => simp [wpRelease, h, ih]

@[simp] theorem sparse_qlForget (q : Nat) (h : Sparse reg s.regs) : Sparse reg (qlForget q s).regs := by simp [qlForget, h]

@[simp] theorem sparse_qlStart (q : Nat) (h : Sparse reg s.regs) : Sparse reg (qlStart q s).regs := by
  unfold qlStart
  extract_lets c told claimed kept cleared shown
  have hshown : Sparse reg shown.regs := by simp [shown, cleared, kept, claimed, told, h]
  split
  · simp [told, h]
  · exact sparse_qlIdlePins q hshown

@[simp] theorem sparse_qlReset (q : Nat) (c : QlCut) (h : Sparse reg s.regs) : Sparse reg (qlReset q c s).regs := by
  unfold qlReset
  split
  · exact h
  extract_lets cut k head t ended moved left closed released cleared zeroed
  have hcut : Sparse reg cut.regs := sparse_qlPartial q c (sparse_unitForget _ _ h)
  have hended : Sparse reg ended.regs := by grind [regs_putQueue]
  have hmoved : Sparse reg moved.regs := sparse_qlMoveRx q false 4 hended
  have hclosed : Sparse reg closed.regs := by
    unfold closed
    split
    · exact sparse_qlCloseItem _ _ _ _ (sparse_qlDrop _ _ hmoved)
    · exact hended
  simp [zeroed, cleared, released, hclosed]

@[simp] theorem regs_qlFar (s : State) : (qlFar s).2.regs = s.regs := (rfl)
@[simp] theorem sparse_qlQuar (q : Nat) (h : Sparse reg s.regs) : Sparse reg (qlQuar q s).regs := by simp [qlQuar, h]

@[simp] theorem sparse_qlHoldIdle (q : Nat) (h : Sparse reg s.regs) : Sparse reg (qlHoldIdle q s).regs := by
  simp [qlHoldIdle, h]

@[simp] theorem sparse_qlCtlWrite (q : Nat) (v : Word) (c : QlCut) (h : Sparse reg s.regs) :
    Sparse reg (qlCtlWrite q v c s).regs := by
  simp [qlCtlWrite, h]

@[simp] theorem sparse_qlTxWrite (q : Nat) (v : Word) (h : Sparse reg s.regs) : Sparse reg (qlTxWrite q v s).2.regs := by
  grind [qlTxWrite, sparse_bump, sparse_qlCounts, sparse_qlEvt, setQuill_regs]

@[simp] theorem sparse_qlStepWrite (q b i : Nat) (v : Word) (h : Sparse reg s.regs) :
    Sparse reg (qlStepWrite q b i v s).2.regs := by
  unfold qlStepWrite
  split <;> simp [h]

end

end Sys2Proof.Proofs
end

section
/-! SUPPORT. No write lists a register with its reset value: the stroke and the time unit. -/
namespace Sys2Proof.Proofs
open Sys2Proof Sys2Proof.Machine Sys2Proof.Laws

section

variable {reg : Nat} {s : State}

@[simp] theorem sparse_putNext (t : Nat) (h : Sparse reg s.regs) : Sparse reg (putNext t s).regs := by simp [putNext, h]

/-! ## Output sets (R264) -/

@[simp] theorem sparse_putOarm (v : List Word) (l : List Nat) (h : Sparse reg s.regs) : Sparse reg (putOarm v l s).regs := by
  induction l generalizing s with
  | nil => exact h
  | cons x t ih => simp [putOarm, h, ih]

@[simp] theorem sparse_stkCommit (h : Sparse reg s.regs) : Sparse reg (stkCommit s).regs := by
  unfold stkCommit
  dsimp only
  repeat' split
  all_goals simp [h]

@[simp] theorem sparse_stkForget (h : Sparse reg s.regs) : Sparse reg (stkForget s).regs := sparse_putOarm _ _ h

/-! ## Schedule changes (R261, R269–R272) -/

@[simp] theorem sparse_stkStep (fwd : Bool) (h : Sparse reg s.regs) : Sparse reg (stkStep fwd s).regs := by
  grind [stkStep, sparse_bump, notify_regs, sparse_putNext, setStk_regs, sparse_wb]

@[simp] theorem sparse_stkUnlock (h : Sparse reg s.regs) : Sparse reg (stkUnlock s).regs := by simp [stkUnlock, h]

@[simp] theorem sparse_stkPend (eff period phase : Nat) (stop : Bool) (h : Sparse reg s.regs) :
    Sparse reg (stkPend eff period phase stop s).regs := by
  simp [stkPend, h]

@[simp] theorem sparse_stkFrame (src eff period phase : Nat) (stop : Bool) (h : Sparse reg s.regs) :
    Sparse reg (stkFrame src eff period phase stop s).regs := by
  simp [stkFrame, h]

/-! ## Enable (R260, R272) -/

@[simp] theorem sparse_stkStart (h : Sparse reg s.regs) : Sparse reg (stkStart s).regs := by
  grind [stkStart, sparse_putNext, setStk_regs, sparse_wb, sparse_wr]

@[simp] theorem sparse_stkStop (h : Sparse reg s.regs) : Sparse reg (stkStop s).regs := by simp [stkStop, h]

@[simp] theorem sparse_stkRunAgain (h : Sparse reg s.regs) : Sparse reg (stkRunAgain s).regs := by
  grind [stkRunAgain, sparse_putNext, setStk_regs]

@[simp] theorem sparse_stkCtlWrite (v : Word) (h : Sparse reg s.regs) : Sparse reg (stkCtlWrite v s).regs := by
  simp [stkCtlWrite, h]

/-! ## Bases (R400–R405) -/

@[simp] theorem sparse_tbEvent (i : Nat) (h : Sparse reg s.regs) : Sparse reg (tbEvent i s).regs := by simp [tbEvent, h]

@[simp] theorem sparse_tb0Stepped (old : DWord) (h : Sparse reg s.regs) : Sparse reg (tb0Stepped old s).regs := by
  grind [tb0Stepped, setTime_regs, sparse_stkStep, sparse_tbEvent]

@[simp] theorem sparse_tbRefuse (code : Nat) (h : Sparse reg s.regs) : Sparse reg (tbRefuse code s).regs := by
  simp [tbRefuse, h]

@[simp] theorem sparse_shiftBase (n : Nat) (d : ℤ) (h : Sparse reg s.regs) : Sparse reg (shiftBase n d s).regs := by
  grind [shiftBase, setBase_regs, sparse_tb0Stepped]

@[simp] theorem sparse_tbStep (n : Nat) (v : DWord) (abs : Bool) (h : Sparse reg s.regs) :
    Sparse reg (tbStep n v abs s).2.regs := by
  grind [tbStep, setBase_regs, sparse_shiftBase, sparse_tb0Stepped, sparse_tbRefuse]

@[simp] theorem sparse_tbStepWrite (n : Nat) (v : Word) (h : Sparse reg s.regs) : Sparse reg (tbStepWrite n v s).regs := by
  simp [tbStepWrite, h]

@[simp] theorem regs_tbStepLoWrite (n : Nat) (v : Word) (s : State) : (tbStepLoWrite n v s).regs = s.regs := (rfl)

@[simp] theorem sparse_tbRateWrite (n : Nat) (v : Word) (h : Sparse reg s.regs) : Sparse reg (tbRateWrite n v s).regs := by
  unfold tbRateWrite
  split <;> simp [h]

@[simp] theorem sparse_putSlave (n : Nat) (b : Bool) (h : Sparse reg s.regs) : Sparse reg (putSlave n b s).regs := by
  simp [putSlave, h]

@[simp] theorem sparse_tbBctlWrite (n : Nat) (v : Word) (h : Sparse reg s.regs) : Sparse reg (tbBctlWrite n v s).regs := by
  simp [tbBctlWrite, h]

@[simp] theorem regs_tbLoRead (n : Nat) (s : State) : (tbLoRead n s).regs = s.regs := (rfl)

/-! ## States of the discipline (R414, R424) -/

@[simp] theorem sparse_tbEnter (st : Nat) (h : Sparse reg s.regs) : Sparse reg (tbEnter st s).regs := by
  unfold tbEnter
  extract_lets old was shown fields fresh_ stamped rated left held entered
  have hleft : Sparse reg left.regs := by simp [left, rated, stamped, fresh_, shown, h]
  have hentered : Sparse reg entered.regs := by simp [entered, held, hleft]
  simp [h, hentered]

@[simp] theorem sparse_takeMaster (h : Sparse reg s.regs) : Sparse reg (takeMaster s).regs := by simp [takeMaster, h]

@[simp] theorem sparse_dropMaster (h : Sparse reg s.regs) : Sparse reg (dropMaster s).regs := by
  grind [dropMaster, setTime_regs, sparse_tbEnter]

@[simp] theorem sparse_tbEnable (h : Sparse reg s.regs) : Sparse reg (tbEnable s).regs := by
  grind [tbEnable, setTime_regs, sparse_tbEnter, sparse_wb, sparse_wr]

@[simp] theorem sparse_tbDisable (h : Sparse reg s.regs) : Sparse reg (tbDisable s).regs := by simp [tbDisable, h]

@[simp] theorem sparse_tbCtlWrite (v : Word) (h : Sparse reg s.regs) : Sparse reg (tbCtlWrite v s).regs := by
  simp [tbCtlWrite, h]

/-! ## Following a master (R411, R413) -/

@[simp] theorem sparse_servo (rate : Word) (h : Sparse reg s.regs) : Sparse reg (servo rate s).regs := by simp [servo, h]
@[simp] theorem sparse_stepOff (off : ℤ) (h : Sparse reg s.regs) : Sparse reg (stepOff off s).regs := by simp [stepOff, h]

@[simp] theorem sparse_useOffset (off : ℤ) (rate : Word) (h : Sparse reg s.regs) :
    Sparse reg (useOffset off rate s).regs := by
  grind [useOffset, sparse_servo, setTime_regs, sparse_tbEnter]

@[simp] theorem sparse_discipline (off : ℤ) (rate : Word) (h : Sparse reg s.regs) :
    Sparse reg (discipline off rate s).regs := by
  grind [discipline, sparse_bump, setTime_regs, sparse_stepOff, sparse_tbEnter, sparse_useOffset, sparse_wb]

@[simp] theorem sparse_formOffset (cs : List SyncCopy) (ctot : Nat) (fresh : Bool) (rate : Word) (h : Sparse reg s.regs) :
    Sparse reg (formOffset cs ctot fresh rate s).regs := by
  unfold formOffset
  dsimp only
  repeat' split
  all_goals simp [h]

@[simp] theorem sparse_adopt (src epoch : Nat) (change : Bool) (h : Sparse reg s.regs) :
    Sparse reg (adopt src epoch change s).regs := by
  simp [adopt, h]

@[simp] theorem sparse_useCopy (r : Nat) (f : Frame) (stamp : DWord) (rate : Word) (h : Sparse reg s.regs) :
    Sparse reg (useCopy r f stamp rate s).regs := by
  grind [useCopy, sparse_bump, sparse_formOffset, regs_fresh, setTime_regs, sparse_wb]

@[simp] theorem sparse_syncReceive (r : Nat) (f : Frame) (stamp : DWord) (rate : Word) (h : Sparse reg s.regs) :
    Sparse reg (syncReceive r f stamp rate s).regs := by
  simp [syncReceive, h]

end

end Sys2Proof.Proofs
end

section
/-! SUPPORT. No write lists a register with its reset value: mailboxes, requests of this hub and the check engine. -/
namespace Sys2Proof.Proofs
open Sys2Proof Sys2Proof.Machine Sys2Proof.Laws

section

variable {reg : Nat} {s : State}

/-! ## Identities and the page (R430, R432) -/

@[simp] theorem sparse_kcForeign (m : Nat) (h : Sparse reg s.regs) : Sparse reg (kcForeign m s).regs := by
  simp [kcForeign, h]

@[simp] theorem sparse_kcAreaWrite (m o : Nat) (who : Origin) (d : List Byte) (h : Sparse reg s.regs) :
    Sparse reg (kcAreaWrite m o who d s).regs := by
  simp [kcAreaWrite, h]

/-! ## Replies (R435, R438, R440) -/

@[simp] theorem regs_sessionNotice (m ev : Nat) (info : Word) (s : State) : (sessionNotice m ev info s).regs = s.regs := (rfl)

@[simp] theorem sparse_kcSignal (m st : Nat) (raw : List Byte) (h : Sparse reg s.regs) :
    Sparse reg (kcSignal m st raw s).regs := by
  simp [kcSignal, h]

@[simp] theorem sparse_kcWrite (m : Nat) (hw : Bool) (st : Nat) (reply raw : List Byte) (h : Sparse reg s.regs) :
    Sparse reg (kcWrite m hw st reply raw s).regs := by
  simp [kcWrite, h]

@[simp] theorem sparse_kcReply (m st reason : Nat) (job : Word) (result : List Word) (h : Sparse reg s.regs) :
    Sparse reg (kcReply m st reason job result s).regs := by
  unfold kcReply
  split <;> simp [h]

@[simp] theorem sparse_kcOk (m : Nat) (result : List Word) (h : Sparse reg s.regs) : Sparse reg (kcOk m result s).regs := by
  simp [kcOk, h]

@[simp] theorem sparse_kcRefuse (m reason : Nat) (result : List Word) (h : Sparse reg s.regs) :
    Sparse reg (kcRefuse m reason result s).regs := by
  simp [kcRefuse, h]

@[simp] theorem sparse_kcHwBusy (m : Nat) (raw : List Byte) (h : Sparse reg s.regs) : Sparse reg (kcHwBusy m raw s).regs := by
  simp [kcHwBusy, h]

/-! ## Doorbells (R434, R436) -/

@[simp] theorem sparse_kcRepeat (m : Nat) (raw : List Byte) (h : Sparse reg s.regs) : Sparse reg (kcRepeat m raw s).regs := by
  simp [kcRepeat, h]

@[simp] theorem regs_kcArm (m : Nat) (s : State) : (kcArm m s).regs = s.regs := (rfl)

@[simp] theorem sparse_kcDoorbell (m : Nat) (o : Origin) (v : Word) (h : Sparse reg s.regs) :
    Sparse reg (kcDoorbell m o v s).regs := by
  simp [kcDoorbell, h]

/-! ## Jobs (R446–R450) -/

@[simp] theorem sparse_setJobs (m : Nat) (l : List Job) (h : Sparse reg s.regs) : Sparse reg (setJobs m l s).regs := by
  simp [setJobs, h]

@[simp] theorem sparse_putJob (m : Nat) (j : Job) (h : Sparse reg s.regs) : Sparse reg (putJob m j s).regs := by
  simp [putJob, h]

@[simp] theorem sparse_dropJob (m i : Nat) (h : Sparse reg s.regs) : Sparse reg (dropJob m i s).regs := by simp [dropJob, h]

@[simp] theorem sparse_endJob (m i state st reason : Nat) (result : List Word) (h : Sparse reg s.regs) :
    Sparse reg (endJob m i state st reason result s).regs := by
  unfold endJob
  split <;> simp [h]

/-! ## Tags and completion cells (R130, R131, R169) -/

theorem regs_takeTag {key n : Nat} {v : Tag} {r : Nat × State} (e : takeTag key n v s = some r) : r.2.regs = s.regs := by
  grind [takeTag, setTag_regs]

@[simp] theorem regs_freeTag (t : Nat) (s : State) : (freeTag t s).regs = s.regs := (rfl)
@[simp] theorem regs_quarTag (t : Nat) (s : State) : (quarTag t s).regs = s.regs := (rfl)

/-! ## Frames of requests and items (R100, R125, R126) -/

@[simp] theorem sparse_sendReq (t : Nat) (h : Sparse reg s.regs) : Sparse reg (sendReq t s).regs := by simp [sendReq, h]

/-! ## Requests (R131, R132, R133) -/

theorem sparse_tryIssue {o : Origin} {node : Nat} {a : Access} {t : State} (e : tryIssue o node a s = some t)
    (h : Sparse reg s.regs) : Sparse reg t.regs := by
  unfold tryIssue at e
  split at e
  · cases e
  split at e
  · cases e
    exact sparse_originate _ h
  · split at e
    · cases e
    next taken =>
      cases e
      exact sparse_sendReq _ (by rwa [regs_takeTag taken])

@[simp] theorem sparse_issueRemote (o : Origin) (node : Nat) (a : Access) (h : Sparse reg s.regs) :
    Sparse reg (issueRemote o node a s).regs := by
  unfold issueRemote
  dsimp only
  split
  · exact h
  · cases issued : tryIssue o node a s with
    | none => exact h
    | some t => exact sparse_tryIssue issued h

/-! ## Completions (R127, R142, R145, R146) -/

@[simp] theorem sparse_endRequest (t : Nat) (st : Status) (d : List Byte) (h : Sparse reg s.regs) :
    Sparse reg (endRequest t st d s).regs := by
  unfold endRequest
  dsimp only
  repeat' split
  all_goals simp [h]

@[simp] theorem sparse_itemLinger (t q : Nat) (h : Sparse reg s.regs) : Sparse reg (itemLinger t q s).regs := by
  simp [itemLinger, h]

@[simp] theorem regs_lingerEnd (s : State) : (lingerEnd s).regs = s.regs := (rfl)

@[simp] theorem sparse_msgCompletion (t : Nat) (f : Frame) (h : Sparse reg s.regs) :
    Sparse reg (msgCompletion t f s).regs := by
  simp [msgCompletion, h]

@[simp] theorem sparse_completion (f : Frame) (h : Sparse reg s.regs) : Sparse reg (completion f s).regs := by
  unfold completion
  dsimp only
  repeat' split
  all_goals simp [h]

@[simp] theorem sparse_absentAll (l : List (Nat × Tag)) (h : Sparse reg s.regs) : Sparse reg (absentAll l s).regs := by
  induction l generalizing s with
  | nil => exact h
  | cons e t ih =>
    apply ih
    simp [h]

@[simp] theorem sparse_ackFrame (f : Frame) (h : Sparse reg s.regs) : Sparse reg (ackFrame f s).regs := by
  grind [ackFrame, sparse_bump, sparse_commitOrg]

/-! ## MSG items on offer (R101, R134, R177) -/

@[simp] theorem sparse_cphEvt (p i : Nat) (info : Word) (h : Sparse reg s.regs) : Sparse reg (cphEvt p i info s).regs := by
  simp [cphEvt, h]

@[simp] theorem regs_nvWrote (s : State) : (nvWrote s).regs = s.regs := (rfl)
@[simp] theorem sparse_nvFail (h : Sparse reg s.regs) : Sparse reg (nvFail s).regs := by simp [nvFail, h]

/-! ## Loads and erases (R527–R529, R546) -/

@[simp] theorem regs_goneOn (k : Nat) (s : State) : (goneOn k s).regs = s.regs := by
  unfold goneOn
  dsimp only
  repeat' split
  all_goals simp

@[simp] theorem regs_eraseSlot (k : Nat) (s : State) : (eraseSlot k s).regs = s.regs := by
  unfold eraseSlot
  dsimp only
  repeat' split
  all_goals simp

@[simp] theorem sparse_keyLoad (p k ksize : Nat) (persist nvOk : Bool) (who : Word) (h : Sparse reg s.regs) :
    Sparse reg (keyLoad p k ksize persist nvOk who s).2.regs := by
  grind [keyLoad, sparse_blot, sparse_cphEvt, sparse_nvFail, regs_nvWrote, sparse_raise, setKeySlot_regs, setPage_regs]

@[simp] theorem sparse_keyErase (p k : Nat) (who : Word) (h : Sparse reg s.regs) :
    Sparse reg (keyErase p k who s).2.regs := by
  unfold keyErase
  split <;> simp [h]

@[simp] theorem sparse_cphCmd (p : Nat) (v : Word) (nvOk : Bool) (who : Word) (h : Sparse reg s.regs) :
    Sparse reg (cphCmd p v nvOk who s).regs := by
  simp [cphCmd, h]

@[simp] theorem regs_keyinWrite (p i : Nat) (v : Word) (s : State) : (keyinWrite p i v s).regs = s.regs := (rfl)

@[simp] theorem sparse_slotOwnWrite (k : Nat) (v : Word) (h : Sparse reg s.regs) : Sparse reg (slotOwnWrite k v s).regs := by
  simp [slotOwnWrite, h]

/-! ## Counters (R535, R538) -/

@[simp] theorem regs_takeCtr (k : Nat) (s : State) : (takeCtr k s).2.regs = s.regs := by
  unfold takeCtr
  dsimp only
  repeat' split
  all_goals simp

/-! ## Authenticated frames (R483, R484) -/

@[simp] theorem sparse_sendAuth (f : Frame) (h : Sparse reg s.regs) : Sparse reg (sendAuth f s).2.regs := by
  unfold sendAuth
  dsimp only
  repeat' split
  all_goals simp [h]

@[simp] theorem regs_authNote (f : Frame) (s : State) : (authNote f s).regs = s.regs := (rfl)

/-! ## Pages (R530–R534) -/

@[simp] theorem sparse_cphStop (p : Nat) (h : Sparse reg s.regs) : Sparse reg (cphStop p s).regs := by
  grind [cphStop, sparse_answer, setCph_regs, setPage_regs, sparse_wb]

@[simp] theorem sparse_cphReset (p : Nat) (h : Sparse reg s.regs) : Sparse reg (cphReset p s).regs := by simp [cphReset, h]
@[simp] theorem sparse_cphQuar (p : Nat) (h : Sparse reg s.regs) : Sparse reg (cphQuar p s).regs := by simp [cphQuar, h]

@[simp] theorem sparse_cphCtlWrite (p : Nat) (v who : Word) (h : Sparse reg s.regs) :
    Sparse reg (cphCtlWrite p v who s).regs := by
  simp [cphCtlWrite, h]

/-! ## Jobs (R535–R542) -/

@[simp] theorem regs_dinWrite (p : Nat) (o : Origin) (a : Access) (s : State) : (dinWrite p o a s).2.regs = s.regs := by
  unfold dinWrite
  dsimp only
  repeat' split
  all_goals simp

/-! ## Commands (R543) -/

@[simp] theorem sparse_kcDenied (m : Nat) (result : List Word) (h : Sparse reg s.regs) :
    Sparse reg (kcDenied m result s).regs := by
  simp [kcDenied, h]

end

end Sys2Proof.Proofs
end

section
/-! SUPPORT. No write lists a register with its reset value: roles and leases. -/
namespace Sys2Proof.Proofs
open Sys2Proof Sys2Proof.Machine Sys2Proof.Laws

section

variable {reg : Nat} {s : State}

@[simp] theorem regs_setRole (r : Nat) (v : RoleSt) (s : State) : (setRole r v s).regs = s.regs := (rfl)

@[simp] theorem sparse_roleEvt (i unit : Nat) (info : Word) (h : Sparse reg s.regs) :
    Sparse reg (roleEvt i unit info s).regs := by
  simp [roleEvt, h]

@[simp] theorem sparse_setOwn (r st : Nat) (h : Sparse reg s.regs) : Sparse reg (setOwn r st s).regs := by simp [setOwn, h]

@[simp] theorem sparse_roleRefresh (r : Nat) (h : Sparse reg s.regs) : Sparse reg (roleRefresh r s).regs := by
  simp [roleRefresh, h]

/-! ## Frames (R485) -/

@[simp] theorem sparse_sendRole (dst sub n : Nat) (body : List Byte) (h : Sparse reg s.regs) :
    Sparse reg (sendRole dst sub n body s).regs := by
  simp [sendRole, h]

@[simp] theorem sparse_authFrame (r : Nat) (f : Frame) (h : Sparse reg s.regs) : Sparse reg (authFrame r f s).2.regs := by
  unfold authFrame
  dsimp only
  repeat' split
  all_goals simp [h]

/-! ## Tables (R466, R472): the format of an entry is this model's -/

@[simp] theorem sparse_sendSeg (r dst n i : Nat) (d : List Byte) (h : Sparse reg s.regs) :
    Sparse reg (sendSeg r dst n i d s).regs := by
  simp [sendSeg, h]

@[simp] theorem sparse_sendSegs (r dst n : Nat) (d : List Byte) (l : List Nat) (h : Sparse reg s.regs) :
    Sparse reg (sendSegs r dst n d l s).regs := by
  induction l generalizing s with
  | nil => exact h
  | cons x t ih => simp [sendSegs, h, ih]

@[simp] theorem sparse_sendTable (r : Nat) (h : Sparse reg s.regs) : Sparse reg (sendTable r s).regs := by
  simp [sendTable, h]

/-! ## The active holder (R466, R467, R473) -/

@[simp] theorem sparse_showStby (r n : Nat) (sync : Bool) (h : Sparse reg s.regs) :
    Sparse reg (showStby r n sync s).regs := by
  simp [showStby, h]

@[simp] theorem sparse_heartbeatSend (r : Nat) (h : Sparse reg s.regs) : Sparse reg (heartbeatSend r s).regs := by
  simp [heartbeatSend, h]

@[simp] theorem sparse_fillStandby (r : Nat) (h : Sparse reg s.regs) : Sparse reg (fillStandby r s).regs := by
  unfold fillStandby
  dsimp only
  repeat' split
  all_goals simp [h]

@[simp] theorem sparse_adoptRole (r e n : Nat) (h : Sparse reg s.regs) : Sparse reg (adoptRole r e n s).regs := by
  unfold adoptRole
  extract_lets was shown raised told v hand taken dropped
  have hshown : Sparse reg shown.regs := by simp [shown, h]
  have hraised : Sparse reg raised.regs := by simp [raised, hshown]
  have htold : Sparse reg told.regs := sparse_roleEvt _ _ _ hraised
  have htaken : Sparse reg taken.regs := by simp [taken, htold]
  have hdropped : Sparse reg dropped.regs := by simp [dropped, htaken]
  simp [htaken, hdropped]

@[simp] theorem sparse_becomeActive (r e : Nat) (h : Sparse reg s.regs) : Sparse reg (becomeActive r e s).regs := by
  grind [becomeActive, sparse_adoptRole, sparse_fillStandby, sparse_heartbeatSend, sparse_setOwn, regs_setRole,
    sparse_takeMaster]

@[simp] theorem sparse_fromHolder (r e src : Nat) (h : Sparse reg s.regs) : Sparse reg (fromHolder r e src s).2.regs := by
  rw [fromHolder]
  split
  · exact sparse_adoptRole _ _ _ h
  split
  · exact h
  split
  · exact (sparse_bump _ _).mpr (.inr h)
  · exact h

/-- `fromHolder` as some function that keeps a table sparse, so that nothing evaluates its comparison of epochs. -/
theorem fromHolder_opaque : ∃ holder, fromHolder = holder ∧
    ∀ (r e src : Nat) (t : State), Sparse reg t.regs → Sparse reg (holder r e src t).2.regs :=
  ⟨fromHolder, rfl, fun _ _ _ _ => sparse_fromHolder _ _ _⟩

/-! ## Heartbeats received (R467, R469, R470, R471) -/

@[simp] theorem regs_witnessHears (r e : Nat) (f : Frame) (s : State) : (witnessHears r e f s).regs = s.regs := by
  unfold witnessHears
  dsimp only
  repeat' split
  all_goals simp

@[simp] theorem sparse_block (r : Nat) (h : Sparse reg s.regs) : Sparse reg (block r s).regs := by simp [block, h]

@[simp] theorem sparse_heartbeat (ring : Nat) (f : Frame) (h : Sparse reg s.regs) : Sparse reg (heartbeat ring f s).regs := by
  obtain ⟨holder, eq, held⟩ := fromHolder_opaque (reg := reg)
  have heard := sparse_authFrame ring f h
  unfold heartbeat
  rw [eq]
  split
  · exact h
  split
  next t bad =>
    rw [bad] at heard
    exact heard
  next t good =>
    rw [good] at heard
    extract_lets r
    split
    · exact heard
    have held := held r (frEpoch f) f.src t heard
    split
    next u old =>
      rw [old] at held
      exact held
    next u new =>
      rw [new] at held
      have shown : Sparse reg u.regs := held
      extract_lets told hears own fields noted owk mism judged
      have htold : Sparse reg told.regs := sparse_showStby _ _ _ shown
      have hhears : Sparse reg hears.regs := by simp [hears, htold]
      have hnoted : Sparse reg noted.regs := by simp [noted, hhears]
      have hown : Sparse reg owk.regs := by simp [owk, hnoted]
      have hmism : Sparse reg mism.regs := by simp [mism, hown]
      have hjudged : Sparse reg judged.regs := by simp [judged, hown, hmism]
      simp [hjudged]

/-! ## Leases at the arbiter (R473, R479–R481) -/

@[simp] theorem regs_dropLease (res : Word) (s : State) : (dropLease res s).regs = s.regs := (rfl)
@[simp] theorem regs_putLease (l : LeaseEnt) (s : State) : (putLease l s).regs = s.regs := (rfl)

@[simp] theorem sparse_leaseEnd (res : Word) (h : Sparse reg s.regs) : Sparse reg (leaseEnd res s).regs := by
  unfold leaseEnd
  split <;> simp [h]

@[simp] theorem sparse_leaseNow (res : Word) (h : Sparse reg s.regs) : Sparse reg (leaseNow res s).2.regs := by
  grind [leaseNow, sparse_leaseEnd]

@[simp] theorem regs_dropWait (m : Nat) (s : State) : (dropWait m s).regs = s.regs := (rfl)

@[simp] theorem sparse_leaseGranted (src : Nat) (f : Frame) (h : Sparse reg s.regs) :
    Sparse reg (leaseGranted src f s).regs := by
  unfold leaseGranted
  split <;> simp [h]

@[simp] theorem sparse_leaseRefused (src : Nat) (f : Frame) (h : Sparse reg s.regs) :
    Sparse reg (leaseRefused src f s).regs := by
  unfold leaseRefused
  split <;> simp [h]

@[simp] theorem sparse_leaseAnswer (src op tag : Nat) (body : List Byte) (h : Sparse reg s.regs) :
    Sparse reg (leaseAnswer src op tag body s).regs := by
  simp [leaseAnswer, h]

@[simp] theorem sparse_answerGrant (l : LeaseEnt) (src tag d : Nat) (h : Sparse reg s.regs) :
    Sparse reg (answerGrant l src tag d s).regs := by
  simp [answerGrant, h]

@[simp] theorem sparse_leaseGive (src tag : Nat) (res : Word) (node sess d : Nat) (h : Sparse reg s.regs) :
    Sparse reg (leaseGive src tag res node sess d s).regs := by
  unfold leaseGive
  dsimp only
  repeat' split
  all_goals simp [h]

@[simp] theorem sparse_leaseRequest (op src tag : Nat) (f : Frame) (h : Sparse reg s.regs) :
    Sparse reg (leaseRequest op src tag f s).regs := by
  unfold leaseRequest
  dsimp only
  repeat' split
  all_goals simp [h]

@[simp] theorem sparse_leaseOp (op ring : Nat) (f : Frame) (h : Sparse reg s.regs) :
    Sparse reg (leaseOp op ring f s).regs := by
  grind [leaseOp, sparse_authFrame, sparse_leaseGranted, sparse_leaseRefused, sparse_leaseRequest]

@[simp] theorem sparse_grantLocks (l : List LockWait) (h : Sparse reg s.regs) : Sparse reg (grantLocks l s).regs := by
  induction l generalizing s with
  | nil => exact h
  | cons x t ih => simp [grantLocks, h, ih]

@[simp] theorem sparse_locksGo (h : Sparse reg s.regs) : Sparse reg (locksGo s).regs := by
  grind [locksGo, sparse_grantLocks, setRoles_regs]

@[simp] theorem sparse_authAck (ring : Nat) (f : Frame) (h : Sparse reg s.regs) : Sparse reg (authAck ring f s).regs := by
  grind [authAck, sparse_authFrame, sparse_fillStandby, sparse_locksGo, regs_setRole]

/-! ## Takeover (R468, R469, R474) -/

@[simp] theorem sparse_sendTake (r : Nat) (swap : Bool) (h : Sparse reg s.regs) : Sparse reg (sendTake r swap s).regs := by
  simp [sendTake, h]

@[simp] theorem sparse_takeAnswer (r dst e : Nat) (ok : Bool) (h : Sparse reg s.regs) :
    Sparse reg (takeAnswer r dst e ok s).regs := by
  simp [takeAnswer, h]

@[simp] theorem sparse_witGrant (r dst : Nat) (h : Sparse reg s.regs) : Sparse reg (witGrant r dst s).regs := by
  simp [witGrant, h]

@[simp] theorem sparse_takeReq (ring : Nat) (f : Frame) (h : Sparse reg s.regs) : Sparse reg (takeReq ring f s).regs := by
  grind [takeReq, sparse_authFrame, sparse_roleEvt, regs_setRole, sparse_takeAnswer, sparse_witGrant]

@[simp] theorem sparse_takeAns (ring : Nat) (f : Frame) (h : Sparse reg s.regs) : Sparse reg (takeAns ring f s).regs := by
  grind [takeAns, sparse_authFrame, sparse_becomeActive, regs_setRole]

@[simp] theorem sparse_appoint (ring : Nat) (f : Frame) (h : Sparse reg s.regs) : Sparse reg (appoint ring f s).regs := by
  obtain ⟨holder, eq, held⟩ := fromHolder_opaque (reg := reg)
  have heard := sparse_authFrame ring f h
  unfold appoint
  rw [eq]
  split
  · exact h
  split
  next t bad =>
    rw [bad] at heard
    exact heard
  next t good =>
    rw [good] at heard
    extract_lets r
    split
    · exact heard
    have held := held r (frEpoch f) f.src t heard
    split
    next u old =>
      rw [old] at held
      exact held
    next u new =>
      rw [new] at held
      have shown : Sparse reg u.regs := held
      simp [shown]

@[simp] theorem sparse_becomeStandby (r : Nat) (h : Sparse reg s.regs) : Sparse reg (becomeStandby r s).regs := by
  unfold becomeStandby
  dsimp only
  repeat' split
  all_goals simp [h]

@[simp] theorem sparse_takeTable (r : Nat) (h : Sparse reg s.regs) : Sparse reg (takeTable r s).regs := by
  simp [takeTable, h]

@[simp] theorem sparse_tableSeg (r : Nat) (f : Frame) (h : Sparse reg s.regs) : Sparse reg (tableSeg r f s).regs := by
  simp [tableSeg, h]

@[simp] theorem sparse_tableAck (r : Nat) (f : Frame) (h : Sparse reg s.regs) : Sparse reg (tableAck r f s).regs := by
  simp [tableAck, h]

@[simp] theorem sparse_table (ring : Nat) (f : Frame) (h : Sparse reg s.regs) : Sparse reg (table ring f s).regs := by
  grind [table, sparse_authFrame, sparse_tableAck, sparse_tableSeg]

@[simp] theorem sparse_swapReq (ring : Nat) (f : Frame) (h : Sparse reg s.regs) : Sparse reg (swapReq ring f s).regs := by
  obtain ⟨holder, eq, held⟩ := fromHolder_opaque (reg := reg)
  have heard := sparse_authFrame ring f h
  unfold swapReq
  rw [eq]
  split
  · exact h
  split
  next t bad =>
    rw [bad] at heard
    exact heard
  next t good =>
    rw [good] at heard
    extract_lets r
    split
    · exact heard
    have held := held r (frEpoch f) f.src t heard
    split
    next u old =>
      rw [old] at held
      exact held
    next u new =>
      rw [new] at held
      have shown : Sparse reg u.regs := held
      split
      · exact shown
      split
      · exact sparse_block _ shown
      · exact sparse_sendTake _ _ shown

/-! ## Census and size (R476, R477) -/

@[simp] theorem regs_putCensus (n : Nat) (e : Option CensusEnt) (s : State) : (putCensus n e s).regs = s.regs := (rfl)

@[simp] theorem sparse_censusRpt (ring : Nat) (f : Frame) (h : Sparse reg s.regs) : Sparse reg (censusRpt ring f s).regs := by
  grind [censusRpt, sparse_authFrame, sparse_fillStandby, regs_putCensus, regs_setRole]

@[simp] theorem sparse_sizeSet (ring : Nat) (f : Frame) (h : Sparse reg s.regs) : Sparse reg (sizeSet ring f s).regs := by
  obtain ⟨holder, eq, held⟩ := fromHolder_opaque (reg := reg)
  have heard := sparse_authFrame ring f h
  unfold sizeSet
  rw [eq]
  split
  · exact h
  split
  next t bad =>
    rw [bad] at heard
    exact heard
  next t good =>
    rw [good] at heard
    have held := held 0 (frEpoch f) f.src t heard
    split
    next u old =>
      rw [old] at held
      exact held
    next u new =>
      rw [new] at held
      have shown : Sparse reg u.regs := held
      exact (sparse_wf _ _ _ _).mpr (.inr shown)

/-! ## Commands (R487) -/

@[simp] theorem sparse_leaseSend (w : LeaseWait) (h : Sparse reg s.regs) : Sparse reg (leaseSend w s).regs := by
  simp [leaseSend, h]

@[simp] theorem sparse_releaseList (m : Nat) (l : List (Word × Nat × Nat)) (h : Sparse reg s.regs) :
    Sparse reg (releaseList m l s).regs := by
  induction l generalizing s with
  | nil => exact h
  | cons e t ih => exact ih (sparse_leaseSend _ h)

@[simp] theorem sparse_releaseLeases (m : Nat) (h : Sparse reg s.regs) : Sparse reg (releaseLeases m s).regs := by
  simp [releaseLeases, h]

end

end Sys2Proof.Proofs
end

section
/-! SUPPORT. No write lists a register with its reset value: the bridge and the power unit. -/
namespace Sys2Proof.Proofs
open Sys2Proof Sys2Proof.Machine Sys2Proof.Laws

section

variable {reg : Nat} {s : State}

/-! ## Registers and events -/

@[simp] theorem sparse_pbpEvt (i : Nat) (h : Sparse reg s.regs) : Sparse reg (pbpEvt i s).regs := by simp [pbpEvt, h]

/-! ## Outbound requests (R370–R374) -/

@[simp] theorem sparse_setPf (w : Nat) (v : Option PfBuf) (h : Sparse reg s.regs) : Sparse reg (setPf w v s).regs := by
  simp [setPf, h]

@[simp] theorem sparse_pfDrop (w : Nat) (h : Sparse reg s.regs) : Sparse reg (pfDrop w s).regs := by
  unfold pfDrop
  split <;> simp [h]

@[simp] theorem sparse_pfDropAll (l : List Nat) (h : Sparse reg s.regs) : Sparse reg (pfDropAll l s).regs := by
  induction l generalizing s with
  | nil => exact h
  | cons x t ih => simp [pfDropAll, h, ih]

@[simp] theorem sparse_pfReturned (w addr n : Nat) (h : Sparse reg s.regs) : Sparse reg (pfReturned w addr n s).regs := by
  unfold pfReturned
  split <;> simp [h]

@[simp] theorem sparse_outPop (h : Sparse reg s.regs) : Sparse reg (outPop s).regs := by simp [outPop, h]

@[simp] theorem sparse_writeFailed (q : OutReq) (st : Status) (h : Sparse reg s.regs) :
    Sparse reg (writeFailed q st s).regs := by
  grind [writeFailed, sparse_blot, sparse_bump, sparse_errLog, sparse_pbpEvt, sparse_raise]

@[simp] theorem sparse_iackNote (a : Access) (st : Status) (id : Word) (h : Sparse reg s.regs) :
    Sparse reg (iackNote a st id s).regs := by
  simp [iackNote, h]

@[simp] theorem sparse_outEnd (st : Status) (h : Sparse reg s.regs) : Sparse reg (outEnd st s).regs := by
  unfold outEnd
  split
  · exact h
  next q t todo =>
    extract_lets ran low told popped freed noted
    have hpopped : Sparse reg popped.regs := by simp [popped, told, low, h]
    split
    · exact hpopped
    split
    · simp [freed, hpopped]
    · apply sparse_answer
      unfold noted
      split <;> simp [hpopped]

@[simp] theorem regs_pfServe (s : State) : (pfServe s).regs = s.regs := by
  unfold pfServe
  dsimp only
  repeat' split
  all_goals simp

@[simp] theorem sparse_pfFinish (h : Sparse reg s.regs) : Sparse reg (pfFinish s).regs := by
  grind [pfFinish, sparse_answer, sparse_bump, sparse_outEnd, sparse_pfReturned, setPbp_regs]

@[simp] theorem sparse_pfHits (n : Nat) (h : Sparse reg s.regs) : Sparse reg (pfHits n s).regs := by
  induction n generalizing s with
  | zero => exact h
  | succ n ih =>
    have served : Sparse reg (pfHits n (pfFinish (pfServe s))).regs := ih (sparse_pfFinish (by simpa using h))
    unfold pfHits
    split
    · split
      · split
        · exact served
        · exact h
      · exact h
    · exact h

/-! ## Inbound cycles (R377–R379) -/

@[simp] theorem sparse_endHeld (how : Nat) (lanes : Word) (h : Sparse reg s.regs) :
    Sparse reg (endHeld how lanes s).regs := by
  simp [endHeld, h]

@[simp] theorem sparse_breakHeld (h : Sparse reg s.regs) : Sparse reg (breakHeld s).regs := by simp [breakHeld, h]

@[simp] theorem sparse_pbpHoldEnd (h : Sparse reg s.regs) : Sparse reg (pbpHoldEnd s).regs := by
  grind [pbpHoldEnd, sparse_breakHeld, sparse_bump, sparse_pbpEvt, sparse_raise]

@[simp] theorem sparse_pbpInboundDone (w : Nat) (st : Status) (d : List Byte) (h : Sparse reg s.regs) :
    Sparse reg (pbpInboundDone w st d s).regs := by
  grind [pbpInboundDone, sparse_bump, sparse_commitOrg, sparse_endHeld, sparse_returnOrg, setPbp_regs]

/-! ## Outbound arrival and the crossing rule (R370–R372, R380, R381) -/

@[simp] theorem sparse_outAdmit (o : Origin) (a : Access) (win : Option Nat) (h : Sparse reg s.regs) :
    Sparse reg (outAdmit o a win s).regs := by
  unfold outAdmit
  extract_lets posted push pushed hit
  have hpushed : Sparse reg pushed.regs := h
  have put := sparse_putItem (640 + win.getD 0) { bytes := a.data.take a.count } h
  split
  · generalize putItem (640 + win.getD 0) { bytes := a.data.take a.count } s = p at put
    obtain ⟨ok, t⟩ := p
    cases ok with
    | true => exact sparse_answer _ _ _ _ put
    | false => exact sparse_answer _ _ _ _ (sparse_pbpEvt _ ((sparse_bump _ _).mpr (.inr put)))
  · simp [hit, hpushed]

@[simp] theorem sparse_pbpRequest (o : Origin) (a : Access) (h : Sparse reg s.regs) : Sparse reg (pbpRequest o a s).regs := by
  grind [pbpRequest, sparse_answer, sparse_breakHeld, sparse_bump, sparse_outAdmit, sparse_pbpEvt, sparse_raise]

/-! ## Safe state, reset, enable (R387–R390) -/

@[simp] theorem sparse_pbpRelease (h : Sparse reg s.regs) : Sparse reg (pbpRelease s).regs := by simp [pbpRelease, h]
@[simp] theorem sparse_pbpSafe (h : Sparse reg s.regs) : Sparse reg (pbpSafe s).regs := by simp [pbpSafe, h]

@[simp] theorem sparse_outBusy (l : List OutReq) (h : Sparse reg s.regs) : Sparse reg (outBusy l s).regs := by
  induction l generalizing s with
  | nil => exact h
  | cons x t ih => simp [outBusy, h, ih]

@[simp] theorem sparse_winClear (l : List Nat) (h : Sparse reg s.regs) : Sparse reg (winClear l s).regs := by
  induction l generalizing s with
  | nil => exact h
  | cons x t ih => simp [winClear, h, ih]

@[simp] theorem sparse_claimAll (l : List Nat) (h : Sparse reg s.regs) : Sparse reg (claimAll l s).regs := by
  induction l generalizing s with
  | nil => exact h
  | cons x t ih => simp [claimAll, h, ih]

@[simp] theorem sparse_releaseAll (l : List Nat) (h : Sparse reg s.regs) : Sparse reg (releaseAll l s).regs := by
  induction l generalizing s with
  | nil => exact h
  | cons x t ih => simp [releaseAll, h, ih]

@[simp] theorem sparse_pbpStart (h : Sparse reg s.regs) : Sparse reg (pbpStart s).regs := by simp [pbpStart, h]

@[simp] theorem sparse_pbpReset (h : Sparse reg s.regs) : Sparse reg (pbpReset s).regs := by
  unfold pbpReset
  refine (sparse_wb _ _ _).mpr (.inr (sparse_releaseAll _ (sparse_winClear _ ?_)))
  simp only [sparse_wr]
  refine .inr (.inr (sparse_outBusy _ ?_))
  rw [setPbp_regs]
  exact sparse_pfDropAll _ (sparse_pbpRelease (sparse_returnWhere _ h))

@[simp] theorem sparse_pbpStop (h : Sparse reg s.regs) : Sparse reg (pbpStop s).regs := by simp [pbpStop, h]

@[simp] theorem sparse_pbpCtlWrite (v : Word) (h : Sparse reg s.regs) : Sparse reg (pbpCtlWrite v s).regs := by
  simp [pbpCtlWrite, h]

@[simp] theorem sparse_pbpQuar (h : Sparse reg s.regs) : Sparse reg (pbpQuar s).regs := by simp [pbpQuar, h]

@[simp] theorem sparse_winStart (inb : Bool) (w : Nat) (h : Sparse reg s.regs) : Sparse reg (winStart inb w s).regs := by
  simp [winStart, h]

@[simp] theorem sparse_winStop (inb : Bool) (w : Nat) (h : Sparse reg s.regs) : Sparse reg (winStop inb w s).regs := by
  simp [winStop, h]

@[simp] theorem sparse_winCtlWrite (inb : Bool) (w : Nat) (v : Word) (h : Sparse reg s.regs) :
    Sparse reg (winCtlWrite inb w v s).regs := by
  simp [winCtlWrite, h]

/-! ## Interrupt levels and sideband wires (R382–R384) -/

@[simp] theorem sparse_wireAccept (f : Frame) (h : Sparse reg s.regs) : Sparse reg (wireAccept f s).regs := by
  simp [wireAccept, h]

@[simp] theorem sparse_wireFrame (r : Nat) (f : Frame) (h : Sparse reg s.regs) : Sparse reg (wireFrame r f s).regs := by
  grind [wireFrame, sparse_cntRing, sparse_dupFilter, sparse_wireAccept]

/-! ## Pins (R362, R363, R384, R386) -/

@[simp] theorem sparse_bridgeDrive (l : List Nat) (h : Sparse reg s.regs) : Sparse reg (bridgeDrive l s).regs := by
  induction l generalizing s with
  | nil => exact h
  | cons x t ih => simp [bridgeDrive, h, ih]

@[simp] theorem sparse_bridgeSettle (h : Sparse reg s.regs) : Sparse reg (bridgeSettle s).regs := by simp [bridgeSettle, h]

/-! ## The companion's registers (R550) -/

@[simp] theorem sparse_pwrEvt (i : Nat) (h : Sparse reg s.regs) : Sparse reg (pwrEvt i s).regs := by simp [pwrEvt, h]

/-! ## The boot record and the journal in MRAM (R585, R599) -/

@[simp] theorem regs_rcdStore (s : State) : (rcdStore s).regs = s.regs := (rfl)
@[simp] theorem regs_jnlStore (s : State) : (jnlStore s).regs = s.regs := (rfl)

/-! ## The NV-write inhibit and the standby counter (R570, R572, R420) -/

@[simp] theorem sparse_stbyLoad (n : Nat) (h : Sparse reg s.regs) : Sparse reg (stbyLoad n s).regs := by simp [stbyLoad, h]
@[simp] theorem sparse_stbyRefresh (h : Sparse reg s.regs) : Sparse reg (stbyRefresh s).regs := by simp [stbyRefresh, h]

@[simp] theorem sparse_nvEnter (causes : Nat) (h : Sparse reg s.regs) : Sparse reg (nvEnter causes s).regs := by
  simp [nvEnter, h]

@[simp] theorem sparse_stbyReadLo (h : Sparse reg s.regs) : Sparse reg (stbyReadLo s).2.regs := by simp [stbyReadLo, h]

end

end Sys2Proof.Proofs
end

section
/-! SUPPORT. No write lists a register with its reset value: faults, monitors, sessions and start-up. -/
namespace Sys2Proof.Proofs
open Sys2Proof Sys2Proof.Machine Sys2Proof.Laws

section

variable {reg : Nat} {s : State}

/-! ## Quarantine (R499, R522) -/

@[simp] theorem sparse_quarReset (kind i : Nat) (h : Sparse reg s.regs) : Sparse reg (quarReset kind i s).regs := by
  simp [quarReset, h]

@[simp] theorem sparse_putQuar (l : List (Nat × Nat)) (h : Sparse reg s.regs) : Sparse reg (putQuar l s).regs := by
  simp [putQuar, h]

@[simp] theorem sparse_quarRecord (n kind i : Nat) (inj : Bool) (h : Sparse reg s.regs) :
    Sparse reg (quarRecord n kind i inj s).regs := by
  grind [quarRecord, sparse_blot, setFlt_regs]

@[simp] theorem sparse_quarantine (n : Nat) (info : Word) (inj : Bool) (h : Sparse reg s.regs) :
    Sparse reg (quarantine n info inj s).regs := by
  grind [quarantine, notify_regs, sparse_putQuar, sparse_quarRecord, sparse_quarReset]

@[simp] theorem sparse_unquar (kind i : Nat) (byCmd : Bool) (h : Sparse reg s.regs) :
    Sparse reg (unquar kind i byCmd s).regs := by
  simp [unquar, h]

@[simp] theorem sparse_unquarWrite (v : Word) (h : Sparse reg s.regs) : Sparse reg (unquarWrite v s).regs := by
  simp [unquarWrite, h]

/-! ## Handling, safe state, injection (R501–R504) -/

@[simp] theorem sparse_endHandling (h : Sparse reg s.regs) : Sparse reg (endHandling s).regs := by simp [endHandling, h]

@[simp] theorem sparse_fltStatusWrite (v : Word) (h : Sparse reg s.regs) : Sparse reg (fltStatusWrite v s).regs := by
  simp [fltStatusWrite, h]

@[simp] theorem sparse_canSafeEnds (l : List Nat) (h : Sparse reg s.regs) : Sparse reg (canSafeEnds l s).regs := by
  induction l generalizing s with
  | nil => exact h
  | cons x t ih => simp [canSafeEnds, h, ih]

@[simp] theorem sparse_safeExit (h : Sparse reg s.regs) : Sparse reg (safeExit s).regs := by
  grind [safeExit, sparse_blot, sparse_canSafeEnds, notify_regs, sparse_wb]

@[simp] theorem sparse_fltCtlWrite (v : Word) (h : Sparse reg s.regs) : Sparse reg (fltCtlWrite v s).regs := by
  simp [fltCtlWrite, h]

@[simp] theorem sparse_fltSevWrite (n : Nat) (v : Word) (h : Sparse reg s.regs) : Sparse reg (fltSevWrite n v s).regs := by
  simp [fltSevWrite, h]

@[simp] theorem sparse_fltInject (v : Word) (h : Sparse reg s.regs) : Sparse reg (fltInject v s).regs := by
  grind [fltInject, sparse_raise, setFlt_regs]

/-! ## The blotter (R505–R513) -/

@[simp] theorem sparse_bltClear (h : Sparse reg s.regs) : Sparse reg (bltClear s).regs := by simp [bltClear, h]

@[simp] theorem sparse_bltClrWrite (v : Word) (h : Sparse reg s.regs) : Sparse reg (bltClrWrite v s).regs := by
  simp [bltClrWrite, h]

@[simp] theorem sparse_bltTouch (i : Nat) (h : Sparse reg s.regs) : Sparse reg (bltTouch i s).regs := by
  unfold bltTouch
  split <;> simp [h]

@[simp] theorem sparse_bltTouchAll (l : List Nat) (h : Sparse reg s.regs) : Sparse reg (bltTouchAll l s).regs := by
  induction l generalizing s with
  | nil => exact h
  | cons x t ih => simp [bltTouchAll, h, ih]

/-! ## Monitors (R514–R517) -/

@[simp] theorem sparse_wrAll (v : Word) (l : List Nat) (h : Sparse reg s.regs) : Sparse reg (wrAll v l s).regs := by
  induction l generalizing s with
  | nil => exact h
  | cons x t ih => simp [wrAll, h, ih]

@[simp] theorem sparse_monClear (m : Nat) (h : Sparse reg s.regs) : Sparse reg (monClear m s).regs := by simp [monClear, h]

@[simp] theorem sparse_monArm (m : Nat) (h : Sparse reg s.regs) : Sparse reg (monArm m s).regs := by
  grind [monArm, sparse_monClear, setMon_regs, sparse_wr]

@[simp] theorem sparse_monStop (m : Nat) (h : Sparse reg s.regs) : Sparse reg (monStop m s).regs := by simp [monStop, h]

@[simp] theorem sparse_monCtlWrite (m : Nat) (v : Word) (h : Sparse reg s.regs) : Sparse reg (monCtlWrite m v s).regs := by
  simp [monCtlWrite, h]

/-! ## Jobs cut short (R433, R449, R458) -/

@[simp] theorem sparse_cutJob (k : JobKind) (h : Sparse reg s.regs) : Sparse reg (cutJob k s).regs := by
  unfold cutJob
  split <;> simp [h]

@[simp] theorem regs_freeOutcome (s : State) : (freeOutcome s).2.2.regs = s.regs := (rfl)

@[simp] theorem sparse_cancelJob (m : Nat) (j : Job) (h : Sparse reg s.regs) : Sparse reg (cancelJob m j s).regs := by
  simp [cancelJob, h]

@[simp] theorem sparse_leaveJob (m : Nat) (j : Job) (h : Sparse reg s.regs) : Sparse reg (leaveJob m j s).regs := by
  simp [leaveJob, h]

@[simp] theorem sparse_leaveJobs (m : Nat) (l : List Job) (h : Sparse reg s.regs) : Sparse reg (leaveJobs m l s).regs := by
  induction l generalizing s with
  | nil => exact h
  | cons x t ih => simp [leaveJobs, h, ih]

/-! ## Closing (R433, R481) -/

@[simp] theorem sparse_closeSession (m : Nat) (notice : Bool) (h : Sparse reg s.regs) :
    Sparse reg (closeSession m notice s).regs := by
  simp [closeSession, h]

@[simp] theorem sparse_kcCtlWrite (m : Nat) (o : Origin) (v : Word) (h : Sparse reg s.regs) :
    Sparse reg (kcCtlWrite m o v s).regs := by
  simp [kcCtlWrite, h]

/-! ## The boot record and the journal (R585, R589, R599) -/

@[simp] theorem sparse_bootRefresh (h : Sparse reg s.regs) : Sparse reg (bootRefresh s).regs := by
  unfold bootRefresh
  extract_lets r slots counted shown front next listed
  have hlisted : Sparse reg listed.regs := by simp only [listed, front, counted, sparse_wr, sparse_wf, h, or_true]
  split <;> simp only [sparse_wr, sparse_wf, hlisted, or_true]

@[simp] theorem sparse_bootWrite (r : BootRec) (h : Sparse reg s.regs) : Sparse reg (bootWrite r s).regs := by
  simp [bootWrite, h]

@[simp] theorem regs_journalWrite (c : JCounts) (s : State) : (journalWrite c s).regs = s.regs := by
  unfold journalWrite
  dsimp only
  repeat' split
  all_goals simp

@[simp] theorem sparse_imgTo (n st : Nat) (h : Sparse reg s.regs) : Sparse reg (imgTo n st s).regs := by simp [imgTo, h]

/-! ## Choosing an image (R590, R591, R598) -/

@[simp] theorem sparse_setMode (m : Nat) (h : Sparse reg s.regs) : Sparse reg (setMode m s).regs := by simp [setMode, h]
@[simp] theorem regs_bootNotice (code slot : Nat) (s : State) : (bootNotice code slot s).regs = s.regs := (rfl)

@[simp] theorem sparse_bootBlot (typ slot code : Nat) (ver w6 : Word) (h : Sparse reg s.regs) :
    Sparse reg (bootBlot typ slot code ver w6 s).regs := by
  simp [bootBlot, h]

@[simp] theorem sparse_bootFailed (slot code : Nat) (h : Sparse reg s.regs) : Sparse reg (bootFailed slot code s).regs := by
  grind [bootFailed, sparse_bootBlot, sparse_bootWrite, sparse_raise]

@[simp] theorem sparse_recovery (cause : Nat) (h : Sparse reg s.regs) : Sparse reg (recovery cause s).regs := by
  unfold recovery
  rw [regs_bootNotice]
  refine (sparse_wb _ _ _).mpr (.inr (sparse_bootBlot _ _ _ _ _ (sparse_raise _ _ ?_)))
  simp [h]

@[simp] theorem sparse_judgeImg (n code : Nat) (h : Sparse reg s.regs) : Sparse reg (judgeImg n code s).regs := by
  simp [judgeImg, h]

@[simp] theorem sparse_bootChoose (fuel : Nat) (h : Sparse reg s.regs) : Sparse reg (bootChoose fuel s).regs := by
  induction fuel generalizing s with
  | zero => exact sparse_recovery 3 h
  | succ fuel ih =>
    unfold bootChoose
    split
    · exact sparse_recovery 1 h
    split
    · exact sparse_recovery 3 h
    · dsimp only
      have judged (n code : Nat) : Sparse reg (judgeImg n code s).regs := sparse_judgeImg n code h
      split
      · exact judged _ _
      have failed (n code : Nat) : Sparse reg (bootFailed n code (raise 248 (w32 (n + code * 256)) (judgeImg n code s))).regs :=
        sparse_bootFailed _ _ (sparse_raise _ _ (judged n code))
      split
      · exact sparse_recovery 2 (failed _ _)
      · exact ih (failed _ _)

/-! ## From the end of a reset to the choice (R588, R589) -/

@[simp] theorem sparse_seedTb0 (h : Sparse reg s.regs) : Sparse reg (seedTb0 s).regs := by
  unfold seedTb0
  dsimp only
  split
  · refine (sparse_wb _ _ _).mpr (.inr ?_)
    rw [setBase_regs]
    exact h
  · exact sparse_raise _ _ (sparse_pwrEvt _ h)

@[simp] theorem sparse_restoreKeys (l : List (Nat × KeySlot)) (h : Sparse reg s.regs) :
    Sparse reg (restoreKeys l s).regs := by
  induction l generalizing s with
  | nil => exact h
  | cons e t ih =>
    unfold restoreKeys
    refine ih ?_
    split
    · exact sparse_raise _ _ h
    · exact h

@[simp] theorem sparse_readJournal (lpor : Bool) (h : Sparse reg s.regs) : Sparse reg (readJournal lpor s).regs := by
  simp [readJournal, h]

@[simp] theorem sparse_readRecord (h : Sparse reg s.regs) : Sparse reg (readRecord s).regs := by
  grind [readRecord, sparse_bootRefresh, sparse_raise, setBoot_regs]

@[simp] theorem sparse_romBoot (lpor : Bool) (h : Sparse reg s.regs) : Sparse reg (romBoot lpor s).regs := by
  unfold romBoot
  extract_lets mode node told safe pwr low
  have hmode : Sparse reg mode.regs := by simp [mode, h]
  have hnode : Sparse reg node.regs := by simp [node, hmode]
  have hsafe : Sparse reg safe.regs := by
    unfold safe
    split
    · exact sparse_blot _ _ _ _ _ hnode
    · exact hnode
  have hpwr : Sparse reg pwr.regs := by simp [pwr, hsafe]
  have hlow : Sparse reg low.regs := by simp [low, hpwr]
  refine sparse_bootChoose 4 (sparse_readRecord (sparse_readJournal lpor ?_))
  split
  · exact sparse_restoreKeys _ (sparse_seedTb0 hlow)
  · exact sparse_seedTb0 hlow

/-! ## Resets (R32–R34, R589) -/

@[simp] theorem sparse_busyRing (l : List (Nat × Nat)) (h : Sparse reg s.regs) : Sparse reg (busyRing l s).regs := by
  induction l generalizing s with
  | nil => exact h
  | cons x t ih => simp [busyRing, h, ih]

@[simp] theorem sparse_warmReset (cause : Nat) (h : Sparse reg s.regs) : Sparse reg (warmReset cause s).regs := by
  unfold warmReset
  refine sparse_busyRing _ (sparse_tkeep keptInReset ?_)
  simp [h]

/-! ## HUB_CTL (R39–R41) -/

theorem sparse_overUnits {f : Nat → State → State} (l : List Nat)
    (keep : ∀ n t, Sparse reg t.regs → Sparse reg (f n t).regs) (h : Sparse reg s.regs) :
    Sparse reg (overUnits f l s).regs := by
  induction l generalizing s with
  | nil => exact h
  | cons n t ih => exact ih (keep n s h)

@[simp] theorem sparse_hubRun (h : Sparse reg s.regs) : Sparse reg (hubRun s).regs := by
  grind [hubRun, sparse_canRunAgain, sparse_inkApply, sparse_nibFlowna, sparse_overUnits, sparse_stkRunAgain, sparse_wb,
    sparse_wr]

@[simp] theorem sparse_hubStop (h : Sparse reg s.regs) : Sparse reg (hubStop s).regs := by
  grind [hubStop, sparse_canHold, sparse_nibHoldIdle, sparse_outBusy, sparse_overUnits, sparse_pbpRelease,
    sparse_qlHoldIdle, setPbp_regs, sparse_wb]

@[simp] theorem regs_inHand (o : Origin) (s : State) : (inHand o s).regs = s.regs := by
  unfold inHand
  split <;> simp

@[simp] theorem sparse_hubCtlWrite (v : Word) (h : Sparse reg s.regs) : Sparse reg (hubCtlWrite v s).regs := by
  grind [hubCtlWrite, sparse_hubRun, sparse_hubStop, sparse_romBoot, sparse_stm, sparse_warmReset, sparse_wr]

end

end Sys2Proof.Proofs
end

section
/-! SUPPORT. No write lists a register with its reset value: the map, accesses served and frames delivered. -/
namespace Sys2Proof.Proofs
open Sys2Proof Sys2Proof.Machine Sys2Proof.Laws

section

variable {reg : Nat} {s : State}

/-! ## Reads -/

@[simp] theorem sparse_readCapture (k : Nat) (h : Sparse reg s.regs) : Sparse reg (readCapture k s).regs := by
  simp [readCapture, h]

@[simp] theorem sparse_readReg (k : Nat) (h : Sparse reg s.regs) : Sparse reg (readReg k s).2.regs := by simp [readReg, h]

@[simp] theorem sparse_readRegs (l : List Nat) (h : Sparse reg s.regs) : Sparse reg (readRegs l s).2.regs := by
  induction l generalizing s with
  | nil => exact h
  | cons x t ih => simp [readRegs, h, ih]

/-! ## Writes -/

@[simp] theorem sparse_plainWrite (k : Nat) (v : Word) (h : Sparse reg s.regs) : Sparse reg (plainWrite k v s).regs := by
  unfold plainWrite
  dsimp only
  repeat' split
  all_goals simp [h]

@[simp] theorem sparse_hubWrite (o : Origin) (k : Nat) (v : Word) (h : Sparse reg s.regs) :
    Sparse reg (hubWrite o k v s).regs := by
  grind [hubWrite, sparse_hubCtlWrite, regs_inHand, sparse_plainWrite, sparse_roleRefresh]

@[simp] theorem sparse_inkCtlWrite (v : Word) (h : Sparse reg s.regs) : Sparse reg (inkCtlWrite v s).regs := by
  unfold inkCtlWrite
  split
  · exact sparse_overUnits _ (fun n _ => sparse_nibFlowna n) (sparse_inkApply h)
  · exact h

@[simp] theorem sparse_fltWrite (k : Nat) (v : Word) (h : Sparse reg s.regs) : Sparse reg (fltWrite k v s).regs := by
  simp [fltWrite, h]

@[simp] theorem sparse_tbWrite (k : Nat) (v : Word) (h : Sparse reg s.regs) : Sparse reg (tbWrite k v s).regs := by
  simp [tbWrite, h]

@[simp] theorem sparse_laneWrite (k : Nat) (v : Word) (h : Sparse reg s.regs) : Sparse reg (laneWrite k v s).regs := by
  simp [laneWrite, h]

@[simp] theorem sparse_cphWrite (k : Nat) (who v : Word) (h : Sparse reg s.regs) : Sparse reg (cphWrite k who v s).regs := by
  simp [cphWrite, h]

@[simp] theorem sparse_xbWrite (k : Nat) (v : Word) (h : Sparse reg s.regs) : Sparse reg (xbWrite k v s).regs := by
  simp [xbWrite, h]

@[simp] theorem sparse_writeReg (o : Origin) (who : Word) (k : Nat) (v : Word) (h : Sparse reg s.regs) :
    Sparse reg (writeReg o who k v s).regs := by
  simp [writeReg, h]

@[simp] theorem sparse_writeRegs (o : Origin) (who : Word) (n : Nat) (l : List Word) (h : Sparse reg s.regs) :
    Sparse reg (writeRegs o who n l s).regs := by
  induction l generalizing o who n s with
  | nil => exact h
  | cons x t ih => simp [writeRegs, h, ih]

theorem sparse_refuses {who v : Word} {k : Nat} {r : Status × State} (e : refuses who k v s = some r)
    (h : Sparse reg s.regs) : Sparse reg r.2.regs := by
  unfold refuses at e
  dsimp only at e
  split at e
  · split at e
    · cases e
      exact h
    · cases e
  split at e
  · split at e
    · cases e
    · cases e
      exact sparse_qlTxWrite _ _ h
  split at e
  · split at e
    · cases e
    · cases e
      exact sparse_qlStepWrite _ _ _ _ h
  · cases e

theorem sparse_burstRefuses {who : Word} {k : Nat} {l : List Word} {r : Status × State} (e : burstRefuses who k l s = some r)
    (h : Sparse reg s.regs) : Sparse reg r.2.regs := by
  induction l generalizing k with
  | nil => cases e
  | cons v t ih =>
    unfold burstRefuses at e
    split at e
    next one => cases e; exact sparse_refuses one h
    next => exact ih e

/-! ## Serving an access at this node -/

theorem sparse_portServe (o : Origin) (who : Word) (a : Access) (h : Sparse reg s.regs) :
    SparseServed reg (portServe o who a s) := by
  unfold portServe
  dsimp only
  split
  · exact h
  split
  · exact h
  split
  · split
    · exact h
    split
    · exact h
    · exact sparse_flow _ _ h
  all_goals
    split
    · exact h
    · exact sparse_pushItem _ _ _ _ h

theorem sparse_regRead (a : Access) (h : Sparse reg s.regs) : SparseServed reg (regRead a s) := by
  unfold regRead
  dsimp only
  split
  · trivial
  split
  · split
    · exact h
    · exact h
  · exact sparse_bltTouchAll _ (sparse_readRegs _ h)

theorem sparse_regWrite (o : Origin) (who : Word) (a : Access) (h : Sparse reg s.regs) :
    SparseServed reg (regWrite o who a s) := by
  unfold regWrite
  dsimp only
  split
  next refused => exact sparse_burstRefuses refused h
  split
  · have kept : Sparse reg (dinWrite ((a.addr - 0x60000) / 0x1000) o a s).2.regs := by simpa using h
    generalize dinWrite ((a.addr - 0x60000) / 0x1000) o a s = p at kept
    obtain ⟨st, t⟩ := p
    cases st <;> exact kept
  split
  · split
    · exact h
    · exact h
  split
  · exact sparse_kcAreaWrite _ _ _ _ h
  · exact sparse_writeRegs _ _ _ _ h

theorem sparse_regServe (o : Origin) (who : Word) (a : Access) (h : Sparse reg s.regs) :
    SparseServed reg (regServe o who a s) := by
  unfold regServe
  split
  · exact sparse_portServe o who a h
  split
  · exact h
  split
  · exact h
  split
  · exact sparse_regRead a h
  · exact sparse_regWrite o who a h

theorem sparse_finish (o : Origin) (a : Access) {r : Served} (h : Sparse reg s.regs) (hr : SparseServed reg r) :
    Sparse reg (finish o a r s).regs := by
  cases r with
  | now st d cs t =>
    refine sparse_answer _ _ _ _ ?_
    split
    · exact hr
    · exact hr
  | held => exact h
  | later t => exact hr

@[simp] theorem sparse_serve (o : Origin) (a : Access) (h : Sparse reg s.regs) : Sparse reg (serve o a s).regs := by
  grind [serve, sparse_answer, sparse_bump, sparse_finish, sparse_pbpRequest, sparse_regServe, setHub_regs]

/-! ## The order of requests at this node (R133) -/

@[simp] theorem sparse_startServe (o : Origin) (a : Access) (h : Sparse reg s.regs) : Sparse reg (startServe o a s).regs := by
  simp [startServe, h]

@[simp] theorem sparse_arrive (o : Origin) (a : Access) (h : Sparse reg s.regs) : Sparse reg (arrive o a s).regs := by
  simp [arrive, h]

@[simp] theorem sparse_orderProceed (n : Nat) (h : Sparse reg s.regs) : Sparse reg (orderProceed n s).regs := by
  induction n generalizing s with
  | zero => exact h
  | succ n ih =>
    unfold orderProceed
    split
    · exact h
    · exact ih (sparse_startServe _ _ h)

/-! ## Requests of this node (R123, R124, R128, R132) -/

@[simp] theorem sparse_request (o : Origin) (node : Nat) (a : Access) (h : Sparse reg s.regs) :
    Sparse reg (request o node a s).regs := by
  simp [request, h]

/-! ## Requests from the ring (R127, R140, R141) -/

@[simp] theorem sparse_ringRequest (src tag : Nat) (a : Access) (h : Sparse reg s.regs) :
    Sparse reg (ringRequest src tag a s).regs := by
  grind [ringRequest, sparse_arrive, sparse_complete, setTx_regs]

@[simp] theorem sparse_ringPosted (src : Nat) (a : Access) (h : Sparse reg s.regs) :
    Sparse reg (ringPosted src a s).regs := by
  simp [ringPosted, h]

@[simp] theorem sparse_retryHeld (l : List (Origin × Access)) (h : Sparse reg s.regs) : Sparse reg (retryHeld l s).regs := by
  induction l generalizing s with
  | nil => exact h
  | cons x t ih => exact ih (sparse_finish _ _ h (sparse_regServe _ _ _ h))

@[simp] theorem sparse_heldProceed (h : Sparse reg s.regs) : Sparse reg (heldProceed s).regs := by
  grind [heldProceed, sparse_retryHeld, setTx_regs]

/-! ## SPI (R155–R157) -/

@[simp] theorem regs_setSpi (v : SpiSt) (s : State) : (setSpi v s).regs = s.regs := (rfl)

@[simp] theorem sparse_spiPump (n : Nat) (h : Sparse reg s.regs) : Sparse reg (spiPump n s).regs := by
  induction n generalizing s with
  | zero => exact h
  | succ m ih =>
    unfold spiPump
    dsimp only
    repeat' split
    all_goals simp [h, ih]

/-! ## Accesses in frames (R125, R126) -/

@[simp] theorem sparse_frameAccess (f : Frame) (h : Sparse reg s.regs) : Sparse reg (frameAccess f s).2.regs := by
  unfold frameAccess
  dsimp only
  repeat' split
  all_goals simp [h]

/-! ## Arrival of a frame that is addressed to this node -/

theorem sparse_takeFrame (r : Nat) (f : Frame) {eff : State → State}
    (keep : ∀ t, Sparse reg t.regs → Sparse reg (eff t).regs) (h : Sparse reg s.regs) :
    Sparse reg (takeFrame r f eff s).regs := by
  have taken := sparse_dupFilter r f true h
  unfold takeFrame
  split
  · exact h
  split
  · exact sparse_cntRing _ _ _ h
  · generalize dupFilter r f true s = p at taken
    obtain ⟨ok, t⟩ := p
    cases ok with
    | true => exact keep t taken
    | false => exact taken

@[simp] theorem sparse_deliverHeld (f : Frame) (h : Sparse reg s.regs) : Sparse reg (deliverHeld f s).regs := by
  simp [deliverHeld, h]

@[simp] theorem sparse_requestArrives (typ r : Nat) (f : Frame) (h : Sparse reg s.regs) :
    Sparse reg (requestArrives typ r f s).regs := by
  unfold requestArrives
  split
  · exact h
  split
  · split
    · exact sparse_deliverHeld f h
    · exact h
  · exact sparse_takeFrame r f (fun t ht => sparse_ringRequest _ _ _ (sparse_frameAccess f ht)) h

@[simp] theorem sparse_postedArrives (r : Nat) (f : Frame) (h : Sparse reg s.regs) :
    Sparse reg (postedArrives r f s).regs := by
  unfold postedArrives
  split
  · exact h
  split
  · split
    · exact sparse_deliverHeld f h
    · exact h
  · exact sparse_takeFrame r f (fun t ht => sparse_ringPosted _ _ (sparse_frameAccess f ht)) h

@[simp] theorem sparse_completionArrives (r : Nat) (f : Frame) (h : Sparse reg s.regs) :
    Sparse reg (completionArrives r f s).regs := by
  unfold completionArrives
  split
  · exact h
  · exact sparse_takeFrame r f (fun t => sparse_completion _) h

@[simp] theorem sparse_ackArrives (r : Nat) (f : Frame) (h : Sparse reg s.regs) : Sparse reg (ackArrives r f s).regs := by
  unfold ackArrives
  split
  · exact h
  · exact sparse_takeFrame r f (fun t ht => sparse_ackFrame f ht) h

@[simp] theorem sparse_strokeArrives (r : Nat) (f : Frame) (h : Sparse reg s.regs) :
    Sparse reg (strokeArrives r f s).regs := by
  unfold strokeArrives
  split
  · exact h
  · exact sparse_takeFrame r f (fun t => sparse_stkFrame _ _ _ _ _) h

@[simp] theorem sparse_syncArrives (r : Nat) (f : Frame) (stamp : DWord) (h : Sparse reg s.regs) :
    Sparse reg (syncArrives r f stamp s).regs := by
  simp [syncArrives, h]

@[simp] theorem sparse_presenceArrives (r : Nat) (f : Frame) (h : Sparse reg s.regs) :
    Sparse reg (presenceArrives r f s).regs := by
  simp [presenceArrives, h]

@[simp] theorem sparse_mgmtArrives (r : Nat) (f : Frame) (h : Sparse reg s.regs) : Sparse reg (mgmtArrives r f s).regs := by
  unfold mgmtArrives
  split
  · exact sparse_presenceArrives r f h
  · exact sparse_heartbeat r f h
  · exact sparse_authAck r f h
  · exact sparse_takeReq r f h
  · exact sparse_takeAns r f h
  · exact sparse_censusRpt r f h
  · exact sparse_sizeSet r f h
  · exact sparse_table r f h
  · exact sparse_appoint r f h
  · exact sparse_swapReq r f h
  · exact sparse_takeFrame r f (fun _ ht => ht) h

@[simp] theorem sparse_deliverFrame (r : Nat) (f : Frame) (stamp : DWord) (h : Sparse reg s.regs) :
    Sparse reg (deliverFrame r f stamp s).regs := by
  unfold deliverFrame
  split
  · exact sparse_postedArrives r f h
  · exact sparse_requestArrives 1 r f h
  · exact sparse_requestArrives 2 r f h
  · exact sparse_completionArrives r f h
  · exact sparse_completionArrives r f h
  · exact sparse_msgFrame r f h
  · exact sparse_wireFrame r f h
  · exact sparse_syncArrives r f stamp h
  · exact sparse_strokeArrives r f h
  · exact sparse_mgmtArrives r f h
  · exact sparse_ackArrives r f h
  · exact sparse_leaseOp _ r f h
  · exact sparse_cntRing _ _ _ h

@[simp] theorem sparse_sinkFrame (r : Nat) (f : Frame) (stamp : DWord) (h : Sparse reg s.regs) :
    Sparse reg (sinkFrame r f stamp s).regs := by
  simp [sinkFrame, h]

@[simp] theorem sparse_sinkProceed (n : Nat) (h : Sparse reg s.regs) : Sparse reg (sinkProceed n s).regs := by
  induction n generalizing s with
  | zero => exact h
  | succ n ih =>
    unfold sinkProceed
    split
    · exact h
    · split
      · exact h
      · apply ih
        simp [h]

end

end Sys2Proof.Proofs
end

section
/-! SUPPORT. No write lists a register with its reset value: the end of a command. -/
namespace Sys2Proof.Proofs
open Sys2Proof Sys2Proof.Machine Sys2Proof.Laws

section

variable {reg : Nat} {s : State}

/-! ## Notices (R45–R48) -/

@[simp] theorem sparse_noticeItem (n g ev unit : Nat) (info : Word) (tb : DWord) (h : Sparse reg s.regs) :
    Sparse reg (noticeItem n g ev unit info tb s).2.regs := by
  simp [noticeItem, h]

@[simp] theorem sparse_coalFlush (n : Nat) (h : Sparse reg s.regs) : Sparse reg (coalFlush n s).regs := by
  simp [coalFlush, h]

@[simp] theorem sparse_noticeTo (n g ev unit : Nat) (info : Word) (tb : DWord) (h : Sparse reg s.regs) :
    Sparse reg (noticeTo n g ev unit info tb s).regs := by
  grind [noticeTo, sparse_bump, sparse_coalFlush, sparse_noticeItem, setHub_regs]

@[simp] theorem sparse_createNotice (g ev unit : Nat) (info : Word) (tb : DWord) (h : Sparse reg s.regs) :
    Sparse reg (createNotice g ev unit info tb s).regs := by
  simp [createNotice, h]

/-! ## Node safe state (R258, R309, R327, R387, R502) -/

@[simp] theorem sparse_safeAll (h : Sparse reg s.regs) : Sparse reg (safeAll s).regs := by
  refine sparse_pbpSafe (sparse_overUnits _ (fun k t ht => by simpa using ht) ?_)
  refine sparse_overUnits _ (fun k _ => sparse_qlHoldIdle k) (sparse_overUnits _ (fun n _ => sparse_nibHoldIdle n) ?_)
  simp [h]

/-! ## Reactions -/

@[simp] theorem sparse_react (p : Post) (h : Sparse reg s.regs) : Sparse reg (react p s).regs := by
  unfold react
  split <;> simp [h]

@[simp] theorem sparse_reactAll (n : Nat) (h : Sparse reg s.regs) : Sparse reg (reactAll n s).regs := by
  induction n generalizing s with
  | zero => exact h
  | succ n ih =>
    unfold reactAll
    split
    · exact h
    · exact ih (sparse_react _ h)

/-! ## What goes on (R147, R156, R163, R177, R178, R209, R299) -/

@[simp] theorem sparse_serveAsk (a : Ask) (h : Sparse reg s.regs) : Sparse reg (serveAsk a s).regs := by
  cases a <;> simp [serveAsk, h]

@[simp] theorem sparse_serveAsks (l : List (Nat × Ask)) (h : Sparse reg s.regs) : Sparse reg (serveAsks l s).regs := by
  induction l generalizing s with
  | nil => exact h
  | cons x t ih => simp [serveAsks, h, ih]

/-! ## The inbound side of the bridge (R377–R379) -/

@[simp] theorem sparse_heldIssue (h : Sparse reg s.regs) : Sparse reg (heldIssue s).regs := by
  grind [heldIssue, sparse_request, setPbp_regs]

@[simp] theorem sparse_inboundStep (h : Sparse reg s.regs) : Sparse reg (inboundStep s).regs := by
  grind [inboundStep, sparse_freeHead, sparse_heldIssue, sparse_meetBad, sparse_pbpInboundDone, sparse_request, setPbp_regs]

@[simp] theorem sparse_inboundProceed (n : Nat) (h : Sparse reg s.regs) : Sparse reg (inboundProceed n s).regs := by
  induction n generalizing s with
  | zero => exact h
  | succ m ih => simp [inboundProceed, h, ih]

@[simp] theorem regs_inflightSettle (s : State) : (inflightSettle s).regs = s.regs := (rfl)
@[simp] theorem regs_noticePinSettle (s : State) : (noticePinSettle s).regs = s.regs := (rfl)

theorem sparse_settle (h : Sparse reg s.regs) : Sparse reg (settle s).regs := by
  unfold settle
  extract_lets reacted sunk absent held inbound ordered inbound' pumped lingered
  have hsunk : Sparse reg sunk.regs := sparse_sinkProceed _ (sparse_reactAll _ h)
  have hheld : Sparse reg held.regs := sparse_heldProceed (sparse_serveAsks _ (sparse_absentAll _ hsunk))
  have hinbound : Sparse reg inbound.regs := sparse_inboundProceed _ hheld
  have hinbound' : Sparse reg inbound'.regs := sparse_inboundProceed _ (sparse_orderProceed _ hinbound)
  have hpumped : Sparse reg pumped.regs := sparse_spiPump _ hinbound'
  have hlingered : Sparse reg lingered.regs := by simp [lingered, hpumped]
  simp [hlingered]

end

end Sys2Proof.Proofs
end

section
/-! SUPPORT. The counterexample to O42. -/
namespace Sys2Proof.Proofs
open Sys2Proof Sys2Proof.Machine Sys2Proof.Laws

/-- Nib 0, a UART in loopback with the RTS/CTS handshake, has an item of one byte under way and shows CTS_N active; pair K's
read of the next received item is held, and what pair K has read before waits to take 0x1000 from the frame register of the
nib. NIB_EVT is listed with its reset value. -/
def looping : State :=
  { State.reset with
    regs := [(hubCtl, 1), (nibReg 0 0, 0x13), (nibReg 0 0x04, 0x04000000), (nibReg 0 0x0C, 0), (nibReg 0 0x18, 1),
      (nibReg 0 0x2C, 0x80000000), (nibReg 0 0x40, 0x1008)],
    nibs := [(0, { tx := true })],
    tx := { pend := [⟨.pairK, [.count (nibReg 0 0x40) 0x1000]⟩] },
    ink := { queues := [(0, { items := [{ bytes := [0] }] }), (1, { held := [⟨.pairK, 0, 16⟩] })] } }

/-- The same state once CTS_N has turned inactive and the byte under way has gone: received in loopback, it has answered
pair K's read, and the handshake is no longer configured. -/
def looped : State :=
  { looping with
    regs := [(hubCtl, 1), (nibReg 0 0, 0x13), (nibReg 0 0x04, 0x10000000), (nibReg 0 0x0C, 0), (nibReg 0 0x18, 1),
      (nibReg 0 0x2C, 0x80000000), (nibReg 0 0x40, 8), (nibReg 0 0xC0, 1), (nibReg 0 0xC4, 1), (nibReg 0 0xC8, 1)],
    tx := { core := [(.pairK, .ok, [1, 0, 0, 0xC0, 0, 0, 0, 0, 0, 0, 0, 0, 0, 0, 0, 0])] },
    ink := { queues := [(0, { items := [{ bytes := [0], pos := 1 }] }), (1, { items := [{ bytes := [0] }], pend := some 1 })],
             free := 32767, queued := 1 } }

theorem uartCts_looping : uartCts 0 true 1 looping.alone = looped := by
  rfl

theorem looped_bridge : pbpRuns looped = false := by
  have off : bit (resetOf pbpCtl) 0 = false := by decide
  exact Bool.and_eq_false_imp.mpr fun on => absurd (off.symm.trans on) (by decide)

theorem looped_notice : looped.noticeDue = false := by
  have off : bit (resetOf hubCtl) 4 = false := by decide
  exact Bool.and_eq_false_imp.mpr fun on => absurd (off.symm.trans on) (by decide)

/-- Neither queue has a subscriber or a held read, and the nib has nothing received left in its FIFO. -/
theorem looped_asks : ∀ e ∈ asks looped, serveAsk e.2 looped = looped := by
  have sub0 : localSub 0 looped = none := by decide
  have sub1 : localSub 1 looped = none := by decide
  have listed : asks looped = [(0, .move 0 9), (1, .move 1 9), (1, .nib 0)] := by rfl
  simp only [listed, List.mem_cons, List.not_mem_nil, or_false, forall_eq_or_imp, forall_eq]
  exact ⟨flow_rest 9 rfl sub0, flow_rest 9 rfl sub1, nibRefill_rest 0 looped rfl⟩

theorem settle_looped : settle looped = looped := by
  have posts (n : Nat) : reactAll n looped = looped := reactAll_rest n _ rfl
  have absent : absentAll looped.tx.tags looped = looped := rfl
  have inbound (n : Nat) : inboundProceed n looped = looped := inboundProceed_rest n _ rfl looped_bridge
  simp only [settle, posts, sinkProceed_rest _ looped rfl, absent, serveAsks_rest _ _ looped_asks,
    heldProceed_rest looped rfl, inbound, orderProceed_rest _ looped rfl, spiPump_rest _ looped rfl,
    shSettle_rest 0 looped rfl, shSettle_rest 1 looped rfl, lingerEnd_rest looped rfl,
    inflightSettle_rest looped rfl, bridgeSettle_rest looped looped_bridge,
    noticePinSettle_rest looped looped_notice.symm]

/-- The event register is left listed with its reset value, as no write leaves a register. -/
theorem not_sparse_looped : ¬ Sparse (nibReg 0 0x0C) looped.regs := by
  intro sparse
  exact sparse (by decide) (by decide)

/-- Refutes O42: with an item under way the byte sent is received in loopback and answers a read of pair K, and what the
answer commits may change the handshake itself before NIB_EVT.LINE is set. No read of the map leaves such a commitment, but
the statement speaks of every state. A state in which the bit had been set would not lead here, since settling never lists a
register with its reset value. -/
theorem not_clearToSendFollowsThePin : ¬ Obligations.ClearToSendFollowsThePin := by
  intro holds
  obtain ⟨u, does, -, sets, -⟩ := (holds looping 0 true 1 ⟨rfl, rfl⟩ (by decide) (by decide)).2 (by decide)
  obtain ⟨-, -, -, -, -, -, -, changes, -⟩ := nibCommandsComplete looping
  have left : Does (.uartCtsChange 0 true 1) looping looped := uartCts_looping ▸ changes 0 true 1 ⟨rfl, rfl⟩
  have same : carryOn u looping = carryOn looped looping := by
    have := does.symm.trans left
    injection this
  have regs : (settle u).regs = looped.regs := by
    have := congrArg State.regs same
    rwa [carryOn, carryOn, settle_looped] at this
  have set : rb u (nibReg 0 0x0C) 2 = true := sets (by decide)
  refine not_sparse_looped (regs ▸ sparse_settle fun _ reads => ?_)
  have clear : rb u (nibReg 0 0x0C) 2 = false := by
    rw [rb, rd, reads]
    decide
  exact absurd (set.symm.trans clear) (by decide)

end Sys2Proof.Proofs
end

section
/-! SUPPORT. The commands of discrete lines and the stroke: COMMIT of the staged outputs (R264) and the end of a pulse (R256). -/
namespace Sys2Proof.Proofs
open Sys2Proof Sys2Proof.Machine Sys2Proof.Laws

/-! ## Every command -/

/-- Settles O14: every operation of the lines and the stroke runs in the hub, STROKE_CONFIG on the packet of its mailbox. -/
theorem lineCommandsComplete : Obligations.LineCommandsComplete := by
  intro s
  have hub {f : State → State} (up : s.hubUp) : hubCmd f s = .next (carryOn (f s.alone) s) := hubCmd_up f s up
  exact ⟨fun _ _ _ => hub, fun _ => hub, fun _ => hub, fun _ => hub, fun _ => hub,
    fun _ _ _ => hub, fun _ _ => hub,
    fun p => hubCmd_up (fun t => doutWrite p (withBit (dReg p 0x0C) 31 t) t) s,
    fun p => hubCmd_up (fun t => doutWrite p (sansBit (dReg p 0x0C) 31 t) t) s,
    fun p v => hubCmd_up (fun t => doutWrite p (setBit (rd t (dReg p 0x0C)) 0 v) t) s, fun _ => hub,
    fun p v => hubCmd_up (fun t => doutWrite p (setFld (rd t (dReg p 0x0C)) 9 8 v) t) s,
    hubCmd_up (fun t => stkCtlWrite (withBit stkCtl 0 t) t) s, hubCmd_up (fun t => stkCtlWrite (sansBit stkCtl 0 t) t) s,
    hubCmd_up (fun t => stkCtlWrite (withBit stkCtl 1 t) t) s, hub, fun _ => hub, fun _ _ => hub, hub,
    fun m raw up rung => kcCmd_rung m 0x0405 _ s raw up rung⟩

/-! ## COMMIT -/

/-- Storing a word that differs from the register in one bit outside the mask stores what the register held. -/
theorem stm_setBit_outside (w mask : Word) {i : Nat} (b : Bool) (h : i < 32) (outside : mask.getLsbD i = false) :
    (w &&& ~~~mask) ||| (setBit w i b &&& mask) = w := by
  ext j hj
  rw [BitVec.getElem_or, BitVec.getElem_and, BitVec.getElem_and, BitVec.getElem_not, ← BitVec.getLsbD_eq_getElem,
    ← BitVec.getLsbD_eq_getElem, ← BitVec.getLsbD_eq_getElem, setBit_getLsbD w i j b h]
  by_cases at_i : j = i
  · simp [at_i, outside]
  · rw [if_neg at_i, ← Bool.and_or_distrib_left, Bool.not_or_self, Bool.and_true]

/-- COMMIT is the one effect of its write: EN is written as it stands, and the stored fields are written as they stand, so that
at most the layout of the register table changes before it (R264, R281). -/
theorem stkCtlWrite_commit (s : State) : ∃ table, (∀ k, rd { s with regs := table } k = rd s k) ∧
    stkCtlWrite (withBit stkCtl 1 s) s = stkCommit { s with regs := table } := by
  have com : bit (withBit stkCtl 1 s) 1 = true := bit_setBit_same _ 1 true (by decide)
  have en : bit (withBit stkCtl 1 s) 0 = stkEn s := bit_setBit_other _ true (by decide) (by decide)
  cases on : stkEn s
  case true => exact ⟨s.regs, fun _ => rfl, by simp only [stkCtlWrite, on, en, com, if_true]⟩
  case false =>
    refine ⟨(stm stkCtl 0xFF000004#32 (withBit stkCtl 1 s) s).regs, fun k => ?_, ?_⟩
    · change rd (wr stkCtl _ s) k = rd s k
      rw [withBit, stm_setBit_outside (rd s stkCtl) _ true (by decide) (by decide), rd_wr]
      split
      · next at_k => rw [at_k]
      · rfl
    · simp only [stkCtlWrite, on, en, com, if_true, Bool.false_eq_true, if_false]
      rfl

/-- The staged values become the committed set (R264). -/
def takeStaged (s : State) : State := setStk { s.stk with committed := some (ovalWords s) } s

/-- Before the cutoff COMMIT is in time, and nothing but the committed set changes (R264). -/
theorem stkCommit_inTime {s : State} (early : s.stk.cut = false) : stkCommit s = takeStaged s := if_neg (by simp [early])

/-- After the cutoff COMMIT is late, which is an event and counted (R264). -/
theorem stkCommit_late {s : State} (cut : s.stk.cut = true) :
    stkCommit s = wb stkEvt 3 true (bump (stkReg 0x30) 1 (takeStaged s)) := if_pos cut

/-- In time or late, nothing but the committed set and registers changes. -/
theorem stkCommit_frame (s : State) :
    (stkCommit s).stk = (takeStaged s).stk ∧ { stkCommit s with regs := s.regs, stk := s.stk } = s := by
  cases cut : s.stk.cut
  case false => rw [stkCommit_inTime cut]; exact ⟨rfl, rfl⟩
  case true => rw [stkCommit_late cut]; exact ⟨rfl, rfl⟩

/-- A commit in time writes no register (R264). -/
theorem stkCommit_inTime_regs {s : State} (early : s.stk.cut = false) : RegsKeep [] s (stkCommit s) := by
  rw [stkCommit_inTime early]
  exact fun _ _ => rfl

/-- A late commit writes STK_EVT and the count of late commits, and no other register (R264). -/
theorem stkCommit_late_regs {s : State} (cut : s.stk.cut = true) : rb (stkCommit s) stkEvt 3 = true ∧
    rd (stkCommit s) (stkReg 0x30) = satAdd (rd s (stkReg 0x30)) 1 ∧ RegsKeep [stkEvt, stkReg 0x30] s (stkCommit s) := by
  rw [stkCommit_late cut]
  refine ⟨rb_wb_same stkEvt 3 true _ (by decide), ?_, fun k apart => ?_⟩
  · rw [rd_wb_other _ _ _ (by decide), rd_bump_same, takeStaged, rd_setStk]
  · obtain ⟨evt, cnt⟩ : k ≠ stkEvt ∧ k ≠ stkReg 0x30 := by simpa using apart
    rw [rd_wb_other _ _ _ evt, rd_bump_other _ _ cnt, takeStaged, rd_setStk]

/-! ## The end of a pulse -/

/-- A pulse under way ends: VAL and the pulse bit read 0, and no other register changes (R256). -/
theorem pulseEnd_active {p : Nat} {s : State} (active : rb s (dReg p 0x10) 2 = true) :
    rb (pulseEnd p s) (dReg p 0x0C) 0 = false ∧ rb (pulseEnd p s) (dReg p 0x10) 2 = false ∧
      OnlyRegs [dReg p 0x0C, dReg p 0x10] s (pulseEnd p s) := by
  rw [pulseEnd, if_pos active]
  refine ⟨?_, rb_wb_same _ 2 false _ (by decide), onlyRegs_trans (onlyRegs_wb _ 0 false s) (onlyRegs_wb _ 2 false _)⟩
  rw [rb, rd_wb_other _ _ _ (by simp [dReg])]
  exact rb_wb_same _ 0 false s (by decide)

/-- A pin without a pulse is left alone (R256). -/
theorem pulseEnd_idle {p : Nat} {s : State} (idle : rb s (dReg p 0x10) 2 = false) : pulseEnd p s = s := if_neg (by simp [idle])

/-- Settles O43: the write of COMMIT is the commit alone, whose registers depend on the cutoff; the end of a pulse depends on
whether one is under way. -/
theorem commitsWaitAndPulsesEnd : Obligations.CommitsWaitAndPulsesEnd := by
  intro s up
  refine ⟨?commit, fun p => ⟨fun active => ?ends, fun idle => ?idle⟩⟩
  case commit =>
    obtain ⟨table, same, write⟩ := stkCtlWrite_commit s.alone
    have does : Does .strokeCommit s (stkCtlWrite (withBit stkCtl 1 s.alone) s.alone) :=
      hubCmd_up (fun t => stkCtlWrite (withBit stkCtl 1 t) t) s up
    rw [write] at does
    have oval : ovalWords { s.alone with regs := table } = ovalWords s := List.map_congr_left fun _ _ => same _
    obtain ⟨stk, rest⟩ := stkCommit_frame { s.alone with regs := table }
    rw [takeStaged, oval] at stk
    refine ⟨_, does, stk, fun early k apart => ?_, fun cut => ?_, congrArg (fun t : State => { t with regs := s.regs }) rest⟩
    · exact (stkCommit_inTime_regs (s := { s.alone with regs := table }) early k apart).trans (same k)
    · obtain ⟨evt, cnt, keep⟩ := stkCommit_late_regs (s := { s.alone with regs := table }) cut
      rw [same] at cnt
      exact ⟨evt, cnt, fun k apart => (keep k apart).trans (same k)⟩
  case ends =>
    obtain ⟨val, pulse, only⟩ := pulseEnd_active (p := p) (s := s.alone) active
    exact ⟨_, hubCmd_up (pulseEnd p) s up, val, pulse, onlyRegs_alone only⟩
  case idle =>
    have does : Does (.discretePulseEnd p) s (pulseEnd p s.alone) := hubCmd_up (pulseEnd p) s up
    rwa [pulseEnd_idle (s := s.alone) idle] at does

end Sys2Proof.Proofs
end

section
/-! SUPPORT. The commands of the quills: the write of QL_TX (R295), and SWAP, SWCAN and MARK of QL_CTL (R294, R302, R303, R305). -/
namespace Sys2Proof.Proofs
open Sys2Proof Sys2Proof.Machine Sys2Proof.Laws

/-! ## Every command -/

/-- Settles O15: QL_TX and QL_RXD are accesses the ring core serves, all other operations run in the hub, the two Kilco commands on
the packet of their mailbox. -/
theorem quillCommandsComplete : Obligations.QuillCommandsComplete := by
  intro s
  have hub {f : State → State} (up : s.hubUp) : hubCmd f s = .next (carryOn (f s.alone) s) := hubCmd_up f s up
  have ctl (q : Fin 64) (i : Nat) (c : QlCut) (up : s.hubUp) :=
    hubCmd_up (fun t => qlCtlWrite q (withBit (qlReg q 0) i t) c t) s up
  exact ⟨fun q => ctl q 0 _, fun q c => hubCmd_up (fun t => qlCtlWrite q (sansBit (qlReg q 0) 0 t) c t) s,
    fun q => ctl q 4 _, fun _ => hub, fun q c => ctl q 5 c, fun q => ctl q 7 _, fun q => ctl q 6 _,
    fun _ _ _ => coreCmd_up _ s, fun _ _ => coreCmd_up _ s, fun _ => hub,
    fun _ _ => hub, fun _ _ => hub, fun _ _ _ => hub, fun _ _ _ => hub, fun _ _ => hub, fun _ _ => hub, fun _ _ => hub,
    fun _ _ => hub, fun _ _ => hub, fun _ _ => hub, fun _ => hub, fun _ => hub,
    fun m raw up rung => kcCmd_rung m 0x0801 _ s raw up rung, fun m _ raw up rung => kcCmd_rung m 0x0802 _ s raw up rung⟩

/-! ## A quill's registers and its record -/

@[simp] theorem qlReg_eq_iff (q a b : Nat) : qlReg q a = qlReg q b ↔ a = b := by
  simp only [qlReg]
  omega

theorem quill_setQuill_same (q : Nat) (v : QuillSt) (s : State) : quill q (setQuill q v s) = v := tget_tset_same _ _ _ _

/-- An event of a quill changes QL_EVT and orders a notice, and nothing else (R314). -/
theorem onlyRaised_qlEvt (q i : Nat) (s : State) : OnlyRaised [qlReg q 0x0C] s (qlEvt q i s) := onlyRaised_unitEvent _ _ _ _ _ _ _

theorem rd_qlEvt_other {q i j : Nat} (s : State) (h : j ≠ qlReg q 0x0C) : rd (qlEvt q i s) j = rd s j :=
  (onlyRaised_qlEvt q i s).2 j (by simpa using h)

theorem qlEvt_bit {q i : Nat} (s : State) (h : i < 32) : rb (qlEvt q i s) (qlReg q 0x0C) i = true := unitEvent_bit _ _ _ _ _ _ _ h

theorem qlEvt_tx (q i : Nat) (s : State) : (qlEvt q i s).tx = s.tx := congrArg (fun t => t.tx) (onlyRaised_qlEvt q i s).1

theorem qlEvt_quills (q i : Nat) (s : State) : (qlEvt q i s).quills = s.quills :=
  congrArg (fun t => t.quills) (onlyRaised_qlEvt q i s).1

/-! ## What a write of QL_TX does (R295) -/

/-- TX FIFO words are written only without a bound TX queue: with TXEN = 1 the write is a mix-up, which is counted. -/
theorem qlTxWrite_mixed {q : Nat} {s : State} (v : Word) (bound : qlTxen q s = true) :
    qlTxWrite q v s = (.ok, qlEvt q 7 (bump (qlReg q 0x64) 1 s)) := if_pos bound

/-- The word comes to stand at the end of a TX FIFO with room. -/
theorem qlTxWrite_taken {q : Nat} {s : State} (v : Word) (free : qlTxen q s = false) (room : (quill q s).txf.length < 4) :
    qlTxWrite q v s = (.ok, qlCounts q (setQuill q { quill q s with txf := (quill q s).txf ++ [v] } s)) := by
  simp [qlTxWrite, free, room]

/-- A full TX FIFO refuses the word. -/
theorem qlTxWrite_full {q : Nat} {s : State} (v : Word) (free : qlTxen q s = false) (full : 4 ≤ (quill q s).txf.length) :
    qlTxWrite q v s = (.busy, bump (qlReg q 0x64) 1 s) := by
  simp [qlTxWrite, free, full]

/-- The FIFO counts stand in QL_STATUS. -/
theorem qlCounts_keeps (q : Nat) (s : State) : RegsKeep [qlStatus q] s (qlCounts q s) := fun j apart => by
  have away : j ≠ qlStatus q := by simpa using apart
  rw [qlCounts, rd_wf_other _ _ _ _ away, rd_wf_other _ _ _ _ away]

/-- A write of QL_TX leaves requests and completions alone. -/
theorem qlTxWrite_tx (q : Nat) (v : Word) (s : State) : (qlTxWrite q v s).2.tx = s.tx := by
  unfold qlTxWrite
  split
  · exact qlEvt_tx _ _ _
  · simp only
    split <;> rfl

/-! ## How a write of QL_TX is served -/

/-- Where QL_TX of a quill stands in the map (R35, R315). -/
theorem qlTx_place (q : Fin 64) : 0x200000 ≤ qlReg q 0x40 ∧ qlReg q 0x40 < 0x240000 ∧ qlReg q 0x40 % 0x1000 = 0x40 ∧
    qlReg q 0x40 / 0x1000 = 0x200 + q := by
  have := q.isLt
  simp only [qlReg]
  omega

theorem known_qlTx : ∀ q : Fin 64, known (qlReg q 0x40) = true := by decide

theorem accWords_qlTx (q : Fin 64) (d : List Byte) : accWords ⟨.wrN, qlReg q 0x40, 4, d⟩ = [qlReg q 0x40] := by
  obtain ⟨-, -, offset, -⟩ := qlTx_place q
  generalize qlReg q 0x40 = k at *
  have aligned : k % 4 = 0 := by omega
  have words : ceilDiv (k % 4 + 4) 4 = 1 := by rw [aligned]; rfl
  simp only [accWords, words, List.range_one, List.map_cons, List.map_nil]
  congr 1
  omega

theorem legalAccess_qlTx (q : Fin 64) (d : List Byte) : legalAccess ⟨.wrN, qlReg q 0x40, 4, d⟩ = true := by
  obtain ⟨-, -, offset, -⟩ := qlTx_place q
  generalize qlReg q 0x40 = k at *
  have aligned : k % 4 = 0 := by omega
  simp [legalAccess, aligned]
  omega

/-- QL_TX refuses what the FIFO does not take with OK (R129, R295). -/
theorem refuses_qlTx (who : Word) (q : Fin 64) (v : Word) (s : State) : refuses who (qlReg q 0x40) v s =
    if (qlTxWrite q v s).1 = .ok then none else some (qlTxWrite q v s) := by
  obtain ⟨lo, hi, offset, -⟩ := qlTx_place q
  have unit : (qlReg q 0x40 - 0x200000) / 0x1000 = q := by simp only [qlReg]; omega
  generalize qlReg q 0x40 = k at *
  simp (disch := omega) only [refuses, offset, unit, Bool.and_eq_true, decide_eq_true_eq, if_neg, and_true, if_pos]

theorem writeReg_qlTx (o : Origin) (who : Word) (q : Fin 64) (v : Word) (s : State) :
    writeReg o who (qlReg q 0x40) v s = (qlTxWrite q v s).2 := by
  obtain ⟨lo, hi, offset, page⟩ := qlTx_place q
  have unit : qlReg q 0x40 / 0x1000 % 0x1000 - 0x200 = q := by omega
  generalize qlReg q 0x40 = k at *
  simp (disch := omega) only [writeReg, stkCtl, offset, unit, Bool.and_eq_true, decide_eq_true_eq, if_neg, if_pos, if_true]

theorem regWrite_qlTx (o : Origin) (who : Word) (q : Fin 64) (v : Word) (s : State) :
    regWrite o who ⟨.wrN, qlReg q 0x40, 4, wordBytes v⟩ s = .now (qlTxWrite q v s).1 [] [] (qlTxWrite q v s).2 := by
  by_cases taken : (qlTxWrite q v s).1 = .ok
  case neg => simp [regWrite, bytesWords_wordBytes, burstRefuses, refuses_qlTx, taken]
  case pos =>
    obtain ⟨lo, hi, offset, -⟩ := qlTx_place q
    have plain : isDin (qlReg q 0x40) = false ∧ compSide (qlReg q 0x40) = false ∧ isKcArea (qlReg q 0x40) = false := by
      simp [isDin, compSide, compReg, isKcArea, pwrReg, pwrEvtR]
      omega
    obtain ⟨din, comp, kc⟩ := plain
    simp [regWrite, bytesWords_wordBytes, burstRefuses, refuses_qlTx, taken, accWords_qlTx, din, comp, kc, writeRegs, writeReg_qlTx]

/-- Any requester that the permissions let through is answered with what the write of QL_TX gives (R143, R295). -/
theorem serve_qlTx {o : Origin} {q : Fin 64} {v : Word} {s : State} (up : s.hubUp) (ic : s.hub.icBad = false)
    (allowed : denied o ⟨.wrN, qlReg q 0x40, 4, wordBytes v⟩ s = false) :
    serve o ⟨.wrN, qlReg q 0x40, 4, wordBytes v⟩ s =
      answer o ⟨.wrN, qlReg q 0x40, 4, wordBytes v⟩ (qlTxWrite q v s).1 [] (qlTxWrite q v s).2 := by
  obtain ⟨core, rst⟩ := up
  obtain ⟨lo, hi, -, -⟩ := qlTx_place q
  have port : isPort (qlReg q 0x40) = false := by simp [isPort]; omega
  have reg : regServe o (holderWord o s) ⟨.wrN, qlReg q 0x40, 4, wordBytes v⟩ s =
      .now (qlTxWrite q v s).1 [] [] (qlTxWrite q v s).2 := by
    simp [regServe, port, accWords_qlTx, known_qlTx, regWrite_qlTx]
  unfold serve
  rw [core, rst, ic, allowed, legalAccess_qlTx, reg, if_neg (by decide), if_neg (by decide), if_neg (by decide),
    if_neg (by decide), if_neg (show ¬ 2 ^ 41 ≤ qlReg q 0x40 by omega), if_neg (show ¬ 2 ^ 40 ≤ qlReg q 0x40 by omega), finish_silent]

/-! ## What pair M is told -/

/-- Pair M's requests are not retried (R142). -/
theorem retryOwn_pairM (s : State) : retryOwn .pairM s = none := by
  unfold retryOwn
  split <;> rfl

/-- BUSY for a request served here is counted in HUB_CNT_BUSY_IN and delivered to pair M (R148, R158). -/
theorem answer_pairM_busy {a : Access} (d : List Byte) (s : State) (na : a.kind ≠ .wrP) :
    answer .pairM a .busy d s = commitOrg .pairM (delivered .busy d (bump hubCntBusyIn 1 s)) := by
  obtain ⟨kind, addr, count, data⟩ := a
  have again := retryOwn_pairM (bump hubCntBusyIn 1 s)
  cases kind with
  | wrP => exact absurd rfl na
  | rd => simp only [answer, isLocal, countStatus, if_true, again, Option.getD_none]; rfl
  | wrN => simp only [answer, isLocal, countStatus, if_true, again, Option.getD_none]; rfl

section
variable {s : State} {q : Fin 64} {v : Word} (up : s.hubUp) (ic : s.hub.icBad = false) (np : pendOf .pairM s = none)
include up ic np

/-- The completion reaches pair M, which had read nothing that it would commit (R148). -/
theorem qlTxWrite_pairM {st : Status} {t u : State} (write : qlTxWrite q v s.alone = (st, t)) (tx : u.tx = t.tx)
    (out : answer .pairM ⟨.wrN, qlReg q 0x40, 4, wordBytes v⟩ st [] t = commitOrg .pairM (delivered st [] u)) :
    Does (.qlTxWrite .pairM q v) s (delivered st [] u) := by
  have same : t.tx = s.tx := (congrArg (fun r => r.2.tx) write).symm.trans (qlTxWrite_tx q v s.alone)
  have free : pendOf .pairM u = none := by rw [pendOf, tx, same]; exact np
  have e : serve .pairM ⟨.wrN, qlReg q 0x40, 4, wordBytes v⟩ s.alone = delivered st [] u := by
    rw [serve_qlTx (s := s.alone) (o := .pairM) up ic rfl, write, out, commitOrg_none ((pendOf_delivered _ _ _ _).trans free)]
  rw [← e]
  exact coreCmd_up _ s up.1

theorem qlTxWrite_pairM_ok {t : State} (write : qlTxWrite q v s.alone = (.ok, t)) :
    Does (.qlTxWrite .pairM q v) s (delivered .ok [] t) :=
  qlTxWrite_pairM up ic np write rfl (answer_pairM _ _ (.inl rfl) (by simp))

theorem qlTxWrite_pairM_busy {t : State} (write : qlTxWrite q v s.alone = (.busy, t)) :
    Does (.qlTxWrite .pairM q v) s (delivered .busy [] (bump hubCntBusyIn 1 t)) :=
  qlTxWrite_pairM up ic np write rfl (answer_pairM_busy _ _ (by simp))
end

/-- Settles O44: the write is one of the three cases of R295, and each is answered as it comes out. -/
theorem quillTransmitFifo : Obligations.QuillTransmitFifo := by
  intro s q v up ic np
  have told (st : Status) (u : State) (tx : u.tx = s.tx) : (delivered st [] u).tx.core = s.tx.core ++ [(.pairM, st, [])] := by
    rw [delivered_core, tx]
  refine ⟨fun free room => ?taken, fun free full => ?full, fun bound => ?mixed, fun o allowed => ?others⟩
  case taken =>
    have word : (quill q (setQuill q { quill q s with txf := (quill q s).txf ++ [v] } s.alone)).txf = (quill q s).txf ++ [v] :=
      congrArg QuillSt.txf (quill_setQuill_same q _ _)
    exact ⟨_, qlTxWrite_pairM_ok up ic np (qlTxWrite_taken v free room), word, told _ _ rfl, qlCounts_keeps q _⟩
  case full =>
    have apart : qlReg q 0x64 ≠ hubCntBusyIn := by simp only [qlReg, hubCntBusyIn]; omega
    refine ⟨_, qlTxWrite_pairM_busy up ic np (qlTxWrite_full v free full), rfl, told _ _ rfl, ?_, fun j away => ?_⟩
    · rw [rd_delivered, rd_bump_other _ _ apart, rd_bump_same, rd_alone]
    · obtain ⟨cnt, busy⟩ : j ≠ qlReg q 0x64 ∧ j ≠ hubCntBusyIn := by simpa using away
      rw [rd_delivered, rd_bump_other _ _ busy, rd_bump_other _ _ cnt, rd_alone]
  case mixed =>
    refine ⟨_, qlTxWrite_pairM_ok up ic np (qlTxWrite_mixed v bound), congrArg (tget _ · q.val) (qlEvt_quills q 7 _),
      told _ _ (qlEvt_tx q 7 _), qlEvt_bit _ (by decide), ?_, fun j away => ?_⟩
    · rw [rd_delivered, rd_qlEvt_other _ (by simp), rd_bump_same, rd_alone]
    · obtain ⟨cnt, evt⟩ : j ≠ qlReg q 0x64 ∧ j ≠ qlReg q 0x0C := by simpa using away
      rw [rd_delivered, rd_qlEvt_other _ evt, rd_bump_other _ _ cnt, rd_alone]
  case others =>
    rw [← serve_qlTx (s := s.alone) up ic allowed]
    exact coreCmd_up _ s up.1

/-! ## What a write of SWAP, SWCAN or MARK does (R294, R303, R305) -/

theorem rb_false_of_field_zero {k hi lo i : Nat} {s : State} (h : rf s k hi lo = 0) (inside : lo ≤ i ∧ i ≤ hi) :
    rb s k i = false := by
  have e : (bitsOf (rd s k).toNat hi lo).testBit (i - lo) = false := by
    rw [show bitsOf (rd s k).toNat hi lo = 0 from h, Nat.zero_testBit]
  rw [bitsOf_testBit, decide_eq_true (show i - lo < hi + 1 - lo by omega), Bool.true_and, Nat.add_sub_cancel' inside.1] at e
  rw [rb, bit, bitOf_testBit, e]

section
variable {q i : Nat} {s : State} (idle : rf s (qlReg q 0) 7 4 = 0) (wo : 4 ≤ i ∧ i ≤ 7)
include wo

/-- QL_CTL written with one write-only bit more leaves EN as it stands. -/
theorem qlCtl_en_withBit : bit (withBit (qlReg q 0) i s) 0 = qlEn q s := bit_setBit_other _ true (by omega) (by omega)

include idle

/-- Of the write-only bits the one written is the only one. -/
theorem qlCtl_writeOnly_withBit {j : Nat} (hj : 4 ≤ j ∧ j ≤ 7) : bit (withBit (qlReg q 0) i s) j = decide (j = i) := by
  by_cases at_i : j = i
  · rw [at_i, withBit, bit_setBit_same _ i true (by omega), decide_eq_true rfl]
  · rw [withBit, bit_setBit_other _ true (by omega) at_i, decide_eq_false at_i]
    exact rb_false_of_field_zero idle hj
end

/-- A quill swaps at once where it stands at a swap point, else the swap is pending (R303). -/
theorem qlCtlWrite_swap {q : Nat} {s : State} (c : QlCut) (idle : rf s (qlReg q 0) 7 4 = 0) (on : qlEn q s = true)
    (live : rb s (qlStatus q) 31 = false) : qlCtlWrite q (withBit (qlReg q 0) 4 s) c s =
      if qlAtSwap q s then qlDoSwap q (wb (qlStatus q) 29 true s) else wb (qlStatus q) 29 true s := by
  have place : qlAtSwap q (wb (qlStatus q) 29 true s) = qlAtSwap q s := by
    have other (j : Nat) (h : j ≠ 29) := rb_wb_other (qlStatus q) 29 j true s (by decide) h
    rw [qlAtSwap, other 30 (by decide), other 27 (by decide), other 25 (by decide), other 26 (by decide)]
    rfl
  simp [qlCtlWrite, qlSwapBits, on, live, qlCtl_en_withBit, qlCtl_writeOnly_withBit idle, place]

/-- A pending swap is withdrawn (R305). -/
theorem qlCtlWrite_swcan {q : Nat} {s : State} (c : QlCut) (idle : rf s (qlReg q 0) 7 4 = 0) (on : qlEn q s = true)
    (live : rb s (qlStatus q) 31 = false) : qlCtlWrite q (withBit (qlReg q 0) 7 s) c s = wb (qlStatus q) 29 false s := by
  simp [qlCtlWrite, qlSwapBits, on, live, qlCtl_en_withBit, qlCtl_writeOnly_withBit idle]

/-- The mark latch is set (R294). -/
theorem qlCtlWrite_mark {q : Nat} {s : State} (c : QlCut) (idle : rf s (qlReg q 0) 7 4 = 0) (on : qlEn q s = true) :
    qlCtlWrite q (withBit (qlReg q 0) 6 s) c s = wb (qlStatus q) 2 true s := by
  simp [qlCtlWrite, qlSwapBits, on, qlCtl_en_withBit, qlCtl_writeOnly_withBit idle]

/-- At a quill that is not enabled or in quarantine SWAP, FORCE and SWCAN have no effect (R303-R305): a quill that is not enabled
stores BANK as it stands. -/
theorem qlCtlWrite_inert {q i : Nat} {s : State} (c : QlCut) (idle : rf s (qlReg q 0) 7 4 = 0)
    (off : qlEn q s = false ∨ rb s (qlStatus q) 31 = true) (wo : 4 ≤ i ∧ i ≤ 7) (noMark : i ≠ 6) :
    OnlyRegs [] s (qlCtlWrite q (withBit (qlReg q 0) i s) c s) := by
  have en := qlCtl_en_withBit (q := q) (s := s) wo
  have mark : bit (withBit (qlReg q 0) i s) 6 = false := by
    rw [qlCtl_writeOnly_withBit idle wo (by decide), decide_eq_false noMark.symm]
  cases on : qlEn q s
  case false =>
    have e : qlCtlWrite q (withBit (qlReg q 0) i s) c s = stm (qlReg q 0) 0x2#32 (withBit (qlReg q 0) i s) s := by
      simp [qlCtlWrite, on, en, mark]
    have outside : (0x2#32).getLsbD i = false := by
      obtain rfl | rfl | rfl | rfl : i = 4 ∨ i = 5 ∨ i = 6 ∨ i = 7 := by omega
      all_goals rfl
    rw [e]
    refine ⟨rfl, regsKeep_nil_of_same (onlyRegs_stm (qlReg q 0) _ _ s).2 ?_⟩
    rw [stm, rd_wr_same, withBit, stm_setBit_outside _ _ true (by omega) outside]
  case true =>
    have quar : rb s (qlStatus q) 31 = true := off.resolve_left (by simp [on])
    have e : qlCtlWrite q (withBit (qlReg q 0) i s) c s = s := by
      simp [qlCtlWrite, qlSwapBits, on, en, mark, quar]
    rw [e]
    exact ⟨rfl, fun _ _ => rfl⟩

/-! ## The swap (R303) -/

/-- QL_STATUS after the swap: the other bank from step 0, and no halt, wait, stall, shift or swap under way. -/
def swapStatus (q : Nat) (s : State) : State :=
  wb (qlStatus q) 25 false (wb (qlStatus q) 27 false (wb (qlStatus q) 29 false (wb (qlStatus q) 30 false
    (wb (qlStatus q) 26 false (wf (qlStatus q) 28 28 (1 - qlBank q s) (wf (qlStatus q) 22 16 0 s))))))

/-- Besides QL_STATUS the swap clears the slot and the store under way, counts, and is an event. -/
theorem qlDoSwap_eq (q : Nat) (s : State) : qlDoSwap q s = qlEvt q 4 (bump (qlReg q 0x6C) 1
    (setQuill q { quill q (swapStatus q s) with slot := 0, storePend := false } (swapStatus q s))) := rfl

theorem swapStatus_keeps (q : Nat) (s : State) : RegsKeep [qlStatus q] s (swapStatus q s) := fun j apart => by
  have away : j ≠ qlStatus q := by simpa using apart
  simp only [swapStatus, rd_wb_other _ _ _ away, rd_wf_other _ _ _ _ away]

/-- Writing a bit leaves a field apart from it alone. -/
theorem rf_wb_apart (k i : Nat) {hi lo : Nat} (b : Bool) (s : State) (h : i < 32) (apart : hi < i ∨ i < lo) :
    rf (wb k i b s) k hi lo = rf s k hi lo := rf_wf_apart k _ s h apart

theorem swapStatus_shows (q : Nat) (s : State) : qlBank q (swapStatus q s) = 1 - qlBank q s ∧
    rf (swapStatus q s) (qlStatus q) 22 16 = 0 ∧ rb (swapStatus q s) (qlStatus q) 29 = false ∧
    rb (swapStatus q s) (qlStatus q) 30 = false := by
  refine ⟨?_, ?_, ?_, ?_⟩
  · simp (disch := omega) only [swapStatus, qlBank, rf_wb_apart, rf_wf_same]
    omega
  · simp (disch := omega) only [swapStatus, rf_wb_apart, rf_wf_apart, rf_wf_same, Nat.zero_mod]
  · simp (disch := omega) only [swapStatus, rb_wb_other, rb_wb_same]
  · simp (disch := omega) only [swapStatus, rb_wb_other, rb_wb_same]

/-- After a swap QL_STATUS is as `swapStatus` says, SWAPPED is set, and the swap is counted. -/
theorem qlDoSwap_regs (q : Nat) (s : State) : rd (qlDoSwap q s) (qlStatus q) = rd (swapStatus q s) (qlStatus q) ∧
    rb (qlDoSwap q s) (qlReg q 0x0C) 4 = true ∧ rd (qlDoSwap q s) (qlReg q 0x6C) = satAdd (rd s (qlReg q 0x6C)) 1 ∧
    RegsKeep [qlStatus q, qlReg q 0x0C, qlReg q 0x6C] s (qlDoSwap q s) := by
  rw [qlDoSwap_eq]
  refine ⟨?_, qlEvt_bit _ (by decide), ?_, fun j away => ?_⟩
  · rw [rd_qlEvt_other _ (by simp [qlStatus]), rd_bump_other _ _ (by simp [qlStatus]), rd_setQuill]
  · rw [rd_qlEvt_other _ (by simp), rd_bump_same]
    rw [rd_setQuill, swapStatus_keeps q s _ (by simp [qlStatus])]
  · obtain ⟨status, evt, cnt⟩ : j ≠ qlStatus q ∧ j ≠ qlReg q 0x0C ∧ j ≠ qlReg q 0x6C := by simpa using away
    rw [rd_qlEvt_other _ evt, rd_bump_other _ _ cnt, rd_setQuill, swapStatus_keeps q s j (by simpa using status)]

/-- A swap with SWPEND set ends it: the other bank runs from its step 0, and only the registers named change. -/
theorem swapNow_regs (q : Nat) (s : State) : let u := qlDoSwap q (wb (qlStatus q) 29 true s)
    qlBank q u = 1 - qlBank q s ∧ rf u (qlStatus q) 22 16 = 0 ∧ rb u (qlStatus q) 29 = false ∧ rb u (qlStatus q) 30 = false ∧
      rb u (qlReg q 0x0C) 4 = true ∧ rd u (qlReg q 0x6C) = satAdd (rd s (qlReg q 0x6C)) 1 ∧
      RegsKeep [qlStatus q, qlReg q 0x0C, qlReg q 0x6C] s u := by
  obtain ⟨status, evt, cnt, keep⟩ := qlDoSwap_regs q (wb (qlStatus q) 29 true s)
  obtain ⟨bank, step, pend, halt⟩ := swapStatus_shows q (wb (qlStatus q) 29 true s)
  have before : qlBank q (wb (qlStatus q) 29 true s) = qlBank q s := rf_wb_apart _ 29 true s (by decide) (by decide)
  rw [before] at bank
  refine ⟨?_, ?_, ?_, ?_, evt, ?_, fun j away => (keep j away).trans ?_⟩
  · rw [qlBank, rf, status]; exact bank
  · rw [rf, status]; exact step
  · rw [rb, status]; exact pend
  · rw [rb, status]; exact halt
  · rw [cnt, rd_wb_other _ _ _ (by simp [qlStatus])]
  · exact rd_wb_other _ _ _ (fun at_status => away (by simp [at_status]))

/-- Settles O45: with no other write-only bit in QL_CTL the write is the one operation its bit names. -/
theorem quillSwapAndMark : Obligations.QuillSwapAndMark := by
  intro s q up idle
  obtain ⟨-, -, swap, -, -, swcan, mark, -⟩ := quillCommandsComplete s
  refine ⟨fun on live => ⟨fun (running : qlAtSwap q s.alone = false) => ?pending, fun (atSwap : qlAtSwap q s.alone = true) => ?now,
    ?withdrawn, ?marked⟩, fun off => ⟨?noSwap, ?noSwcan⟩⟩
  case pending =>
    have does := swap q up
    rw [qlCtlWrite_swap (s := s.alone) _ idle on live, if_neg (ne_true_of_eq_false running)] at does
    exact ⟨_, does, rb_wb_same _ 29 true _ (by decide), onlyRegs_alone (onlyRegs_wb _ 29 true _)⟩
  case now =>
    have does := swap q up
    rw [qlCtlWrite_swap (s := s.alone) _ idle on live, if_pos atSwap] at does
    exact ⟨_, does, swapNow_regs q s.alone⟩
  case withdrawn =>
    have does := swcan q up
    rw [qlCtlWrite_swcan (s := s.alone) _ idle on live] at does
    exact ⟨_, does, rb_wb_same _ 29 false _ (by decide), onlyRegs_alone (onlyRegs_wb _ 29 false _)⟩
  case marked =>
    have does := mark q up
    rw [qlCtlWrite_mark (s := s.alone) _ idle on] at does
    exact ⟨_, does, rb_wb_same _ 2 true _ (by decide), onlyRegs_alone (onlyRegs_wb _ 2 true _)⟩
  case noSwap =>
    exact ⟨_, swap q up, onlyRegs_alone (qlCtlWrite_inert (s := s.alone) _ idle off (by decide) (by decide))⟩
  case noSwcan =>
    exact ⟨_, swcan q up, onlyRegs_alone (qlCtlWrite_inert (s := s.alone) _ idle off (by decide) (by decide))⟩

end Sys2Proof.Proofs
end

section
/-! SUPPORT. The commands of the CAN FD controllers (R326-R353). -/
namespace Sys2Proof.Proofs
open Sys2Proof Sys2Proof.Machine Sys2Proof.Laws

/-- Settles O16: the read of CAN_HPWIN is an access the ring core serves, all other operations run in the hub, the four writes of
CAN_CTL with the register as it stands but for the bit they name. -/
theorem canCommandsComplete : Obligations.CanCommandsComplete := by
  intro s
  have hub {f : State → State} (up : s.hubUp) : hubCmd f s = .next (carryOn (f s.alone) s) := hubCmd_up f s up
  have ctl (k : Fin 16) (i : Nat) (up : s.hubUp) := hubCmd_up (fun t => canCtlWrite k (withBit (canReg k 0) i t) t) s up
  exact ⟨fun k => ctl k 0, fun k => hubCmd_up (fun t => canCtlWrite k (sansBit (canReg k 0) 0 t) t) s, fun _ => hub, fun _ => hub,
    fun _ => hub, fun _ _ _ => hub, fun _ _ _ _ _ _ => hub, fun _ _ _ => hub, fun _ _ _ _ _ _ => hub, fun _ => hub,
    fun _ _ => coreCmd_up _ s, fun _ => hub, fun _ _ _ => hub, fun k => ctl k 5, fun _ => hub,
    fun k o => hubCmd_up (fun t => canWdogWrite k o (withBit (canReg k 0x30) 29 t) t) s, fun k => ctl k 6,
    fun _ _ _ => hub, fun _ _ _ => hub, hub, fun _ => hub, fun _ _ _ => hub⟩

end Sys2Proof.Proofs
end

section
/-! SUPPORT. The commands of the parallel backplane bridge: the received wires are lost (R384). -/
namespace Sys2Proof.Proofs
open Sys2Proof Sys2Proof.Machine Sys2Proof.Laws

/-! ## Every command -/

/-- Settles O17: every operation of the bridge runs in the hub, the writes of PBP_CTL with the register as it stands but for EN, and
those of a window's EN where the window is. -/
theorem bridgeCommandsComplete : Obligations.BridgeCommandsComplete := by
  intro s
  have hub {f : State → State} (up : s.hubUp) : hubCmd f s = .next (carryOn (f s.alone) s) := hubCmd_up f s up
  have window (inb : Bool) (w : Fin 16) (v : Word) (up : s.hubUp) :=
    hubCmd_up (fun t => if inb && 8 ≤ w.val then t else winCtlWrite inb w v t) s up
  exact ⟨hubCmd_up (fun t => pbpCtlWrite (withBit pbpCtl 0 t) t) s, hubCmd_up (fun t => pbpCtlWrite (sansBit pbpCtl 0 t) t) s,
    fun inb w => window inb w 1, fun inb w => window inb w 0, hub, hub, fun _ => hub, fun _ => hub, hub, hub, hub, fun _ => hub,
    fun _ => hub, fun _ _ _ _ _ => hub, hub, hub, hub, hub, fun _ _ => hub, hub⟩

/-! ## WIRE_LOST -/

/-- An event of the bridge changes PBP_EVT and orders a notice, and nothing else (R392). -/
theorem onlyRaised_pbpEvt (i : Nat) (s : State) : OnlyRaised [pbpEvtR] s (pbpEvt i s) := onlyRaised_unitEvent _ _ _ _ _ _ _

theorem pbpEvt_bit {i : Nat} (s : State) (h : i < 32) : rb (pbpEvt i s) pbpEvtR i = true := unitEvent_bit _ _ _ _ _ _ _ h

/-- What the bridge does with lost levels before it raises FS163: they are no longer valid, which is counted and is the event
WIRELOST (R384). -/
def levelsLost (s : State) : State := pbpEvt 1 (bump (pbpReg 0x0B4) 1 (wb (pbpReg 0x03C) 31 false s))

/-- Without valid levels there are none to lose (R384). -/
theorem wireLost_invalid {s : State} (invalid : rb s (pbpReg 0x03C) 31 = false) : wireLost s = s := if_pos (by simp [invalid])

/-- Valid levels are lost, and FS163 names the node they came from (R384, R391). -/
theorem wireLost_valid {s : State} (valid : rb s (pbpReg 0x03C) 31 = true) :
    wireLost s = raise 163 (w32 (256 * rf s (pbpReg 0x030) 15 8)) (levelsLost s) := by
  have src : rd (bump (pbpReg 0x0B4) 1 (wb (pbpReg 0x03C) 31 false s)) (pbpReg 0x030) = rd s (pbpReg 0x030) := by
    rw [rd_bump_other _ _ (by decide), rd_wb_other _ _ _ (by decide)]
  rw [wireLost, if_neg (by simp [valid])]
  simp only [rf, src, levelsLost]

theorem onlyRaised_levelsLost (s : State) : OnlyRaised [pbpReg 0x03C, pbpReg 0x0B4, pbpEvtR] s (levelsLost s) :=
  onlyRaised_trans (onlyRaised_of_onlyRegs (onlyRegs_trans (onlyRegs_wb _ 31 false s) (onlyRegs_bump _ 1 _))) (onlyRaised_pbpEvt 1 _)

/-- The lost levels read invalid, WIRELOST is set, and the loss is counted once. -/
theorem levelsLost_shows (s : State) : rb (levelsLost s) (pbpReg 0x03C) 31 = false ∧ rb (levelsLost s) pbpEvtR 1 = true ∧
    rd (levelsLost s) (pbpReg 0x0B4) = satAdd (rd s (pbpReg 0x0B4)) 1 := by
  have event {k : Nat} (h : k ∉ [pbpEvtR]) := (onlyRaised_pbpEvt 1 (bump (pbpReg 0x0B4) 1 (wb (pbpReg 0x03C) 31 false s))).2 k h
  refine ⟨?_, pbpEvt_bit _ (by decide), ?_⟩
  · rw [rb, levelsLost, event (by decide), rd_bump_other _ _ (by decide)]
    exact rb_wb_same _ 31 false s (by decide)
  · rw [levelsLost, event (by decide), rd_bump_same, rd_wb_other _ _ _ (by decide)]

/-- With no valid level a sideband output is driven to its SBLOST bit, where SBDIR makes it an output (R384). -/
theorem sidePin_invalid {s : State} (k : Nat) (invalid : rb s (pbpReg 0x03C) 31 = false) :
    sidePin k s = (rb s (pbpReg 0x034) k, rb s (pbpReg 0x034) (8 + k)) := by
  rw [rb] at invalid
  simp [sidePin, invalid]

/-- Settles O47: the loss is told in the bridge's registers before FS163 is raised, whose own registers are others, and a
sideband output depends on VALID and PBP_WIRE_SB alone. -/
theorem lostWiresShow : Obligations.LostWiresShow := by
  intro s up
  have does : Does .wireLost s (wireLost s.alone) := hubCmd_up wireLost s up
  refine ⟨fun valid => ?lost, fun invalid => ?nothing⟩
  case nothing => rwa [wireLost_invalid (s := s.alone) invalid] at does
  case lost =>
    rw [wireLost_valid (s := s.alone) valid] at does
    generalize w32 (256 * rf s.alone (pbpReg 0x030) 15 8) = info at does
    have told := onlyRaised_levelsLost s.alone
    have raised := onlyRaised_raise 163 info (levelsLost s.alone)
    have frame := onlyRaised_alone (onlyRaised_trans told raised)
    have keep {k : Nat} (apart : k ∉ faultRegs 163) := raised.2 k apart
    obtain ⟨invalid, event, count⟩ := levelsLost_shows s.alone
    have stillUp : (levelsLost s.alone).hubUp := (keepsLow_of_onlyRaised told (by decide)).hubUp up
    obtain ⟨faults, -⟩ := raise_shows 163 info (levelsLost s.alone) stillUp (by decide)
    have lost : rb (raise 163 info (levelsLost s.alone)) (pbpReg 0x03C) 31 = false := by
      rw [rb, keep (by decide)]
      exact invalid
    refine ⟨_, does, lost, ?event, ?count, ?faults, onlyRaised_mono frame ?listed, fun k _ => ?side⟩
    case event => rw [rb, keep (by decide)]; exact event
    case count => rw [keep (by decide), count, rd_alone]
    case faults => rw [faults, told.2 _ (by decide), rd_alone]
    case listed => decide
    case side =>
      rw [sidePin_invalid k lost, rb, rb, frame.2 _ (by decide)]
      rfl

end Sys2Proof.Proofs
end

section
/-! SUPPORT. The commands of the time bases: what a read of a base returns (R402), and what a step of one does (R403, R404). -/
namespace Sys2Proof.Proofs
open Sys2Proof Sys2Proof.Machine Sys2Proof.Laws

/-! ## Every command -/

/-- Settles O18: every operation of the time bases runs in the hub, the four Kilco commands on the packet of their mailbox. -/
theorem timeCommandsComplete : Obligations.TimeCommandsComplete := by
  intro s
  have hub {f : State → State} (up : s.hubUp) : hubCmd f s = .next (carryOn (f s.alone) s) := hubCmd_up f s up
  exact ⟨fun _ _ => hub, fun _ _ => hub, fun _ _ => hub, fun _ => hub,
    hubCmd_up (fun t => tbCtlWrite (withBit tbCtl 0 t) t) s, hubCmd_up (fun t => tbCtlWrite (sansBit tbCtl 0 t) t) s,
    hubCmd_up (fun t => syncSend (rd t (roleEpoch 1)) t) s, fun _ _ _ => hub, fun _ => hub, hub, hub,
    fun m => kcCmd_rung m 0x0401 _ s, fun m => kcCmd_rung m 0x0402 _ s, fun m => kcCmd_rung m 0x0403 _ s,
    fun m => kcCmd_rung m 0x0404 _ s⟩

/-! ## Reading a base -/

/-- A register of the map that is not write-only reads as it is shown. -/
theorem readVal_of_row {k : Nat} {r : RegRow} (row : regRow k = some r) (area : isKcArea k = false) (readable : r.acc ≠ .wo)
    (s : State) : readVal k s = shown k s := by
  simp [readVal, area, row, readable]

theorem regRow_tbLo : ∀ n : Fin 4, regRow (tbBase n 0x04) = some ⟨0x104, 4, 0x40, .ro, 0, 0xFFFFFFFF⟩ := by decide
theorem regRow_tbHi : ∀ n : Fin 4, regRow (tbBase n 0x08) = some ⟨0x108, 4, 0x40, .ro, 0, 0xFFFFFFFF⟩ := by decide

/-- The two words of base `n` lie in its page: TB_LO is computed from the value, TB_HI is the captured word (R402). -/
theorem shown_base (n : Fin 4) {o : Nat} (ho : o < 0x40) (s : State) : shown (tbBase n o) s =
    if o = 4 then loW (baseVal n s) else if o = 8 then (base n s).hi else rd s (tbBase n o) := by
  have page : 0x4100 ≤ tbBase n o ∧ tbBase n o < 0x4200 := by simp only [tbBase]; omega
  have unit : (tbBase n o - 0x4100) / 0x40 = n := by simp only [tbBase]; omega
  have place : tbBase n o % 0x40 = o := by simp only [tbBase]; omega
  generalize tbBase n o = k at *
  simp (disch := omega) only [shown, hubNpend, hubTxTags, ringStatus, ringReg, Bool.and_eq_true, decide_eq_true_eq, if_neg, if_pos,
    unit, place]

theorem readVal_tbLo (n : Fin 4) (s : State) : readVal (tbBase n 0x04) s = loW (baseVal n s) := by
  have area : isKcArea (tbBase n 0x04) = false := by simp [isKcArea, tbBase]; omega
  rw [readVal_of_row (regRow_tbLo n) area (by decide), shown_base n (by decide), if_pos rfl]

theorem readVal_tbHi (n : Fin 4) (s : State) : readVal (tbBase n 0x08) s = (base n s).hi := by
  have area : isKcArea (tbBase n 0x08) = false := by simp [isKcArea, tbBase]; omega
  rw [readVal_of_row (regRow_tbHi n) area (by decide), shown_base n (by decide), if_neg (by decide), if_pos rfl]

/-- Of a base only the captured word changes, which no value depends on. -/
theorem baseVal_setBase_hi (n m : Nat) (w : Word) (s : State) : baseVal m (setBase n { base n s with hi := w } s) = baseVal m s := by
  have ns (j : Nat) : (base j (setBase n { base n s with hi := w } s)).ns = (base j s).ns := by
    rw [base_setBase]
    split
    case isTrue h => rw [h]
    case isFalse => rfl
  have tb : tb0 (setBase n { base n s with hi := w } s) = tb0 s := ns 0
  simp only [baseVal, ns, tb]
  rfl

theorem advance_hi (b : BaseSt) (d : Int) : (advance b d).hi = b.hi := rfl

/-- A read of TB_LO captures for TB_HI (R402). -/
theorem readCapture_tbLo (n : Fin 4) (s : State) : readCapture (tbBase n 0x04) s = tbLoRead n s := by
  have page : 0x4100 ≤ tbBase n 0x04 ∧ tbBase n 0x04 < 0x4200 := by simp only [tbBase]; omega
  have place : tbBase n 0x04 % 0x40 = 4 := by simp only [tbBase]; omega
  have unit : (tbBase n 0x04 - 0x4100) / 0x40 = n := by simp only [tbBase]; omega
  simp [readCapture, page, place, unit]

/-- A read of TB_HI captures nothing. -/
theorem readCapture_tbHi (n : Fin 4) (s : State) : readCapture (tbBase n 0x08) s = s := by
  have place : tbBase n 0x08 % 0x40 ≠ 4 := by simp only [tbBase]; omega
  have noBits (l : Nat) : tbBase n 0x08 ≠ laneReg l 0x48 := by simp only [tbBase, laneReg]; omega
  have noStby : tbBase n 0x08 ≠ pwrReg 0x024 := by simp only [tbBase, pwrReg]; omega
  simp [readCapture, place, noBits, noStby]

/-- Settles O48: the capture of the upper word changes no base's value, and a base that advances keeps the captured word. -/
theorem timeIsReadWhole : Obligations.TimeIsReadWhole := by
  intro s n up
  have here (t : State) : (base n (tbLoRead n t)).hi = hiW (baseVal n t) := by rw [tbLoRead, base_setBase, if_pos rfl]
  have value (t : State) : baseVal n (tbLoRead n t) = baseVal n t := baseVal_setBase_hi n n _ t
  refine ⟨⟨tbLoRead n s.alone, hubCmd_up (tbLoRead n) s up, ?lo, ?hi, value s.alone, onlyRegs_alone ⟨rfl, fun _ _ => rfl⟩, ?later,
    ?others⟩, ?both⟩
  case lo => rw [readVal_tbLo, value]; rfl
  case hi => rw [readVal_tbHi, here]; rfl
  case later =>
    intro d
    rw [readVal_tbHi, base_setBase, if_pos rfl, advance_hi, here]
    rfl
  case others =>
    intro m other
    rw [tbLoRead, base_setBase, if_neg (fun e => other (Fin.ext e))]
    rfl
  case both =>
    simp only [readRegs, readReg, readCapture_tbLo, readCapture_tbHi, readVal_tbLo, readVal_tbHi, here, value]

/-! ## Stepping a base -/

/-- An advance by whole nanoseconds leaves the fraction (R400, R403). -/
theorem advance_whole (b : BaseSt) (v : DWord) : advance b (v.toInt * 4294967296) = { b with ns := b.ns + v } := by
  have wrap : v.toInt % 2 ^ 64 = v.toNat := by
    rw [BitVec.toInt_eq_toNat_bmod, show ((2 : Int) ^ 64) = (2 ^ 64 : Nat) from rfl, Int.bmod_emod]
    exact Int.emod_eq_of_lt (Int.natCast_nonneg _) (Int.ofNat_lt.mpr v.isLt)
  have small := b.frac.isLt
  have sum : (((b.ns.toNat * 4294967296 + b.frac.toNat : Nat) + v.toInt * 4294967296) % (2 ^ 96 : Int)).toNat =
      (b.ns.toNat + v.toNat) % 2 ^ 64 * 4294967296 + b.frac.toNat := by omega
  have ns : BitVec.ofNat 64 (((b.ns.toNat + v.toNat) % 2 ^ 64 * 4294967296 + b.frac.toNat) / 4294967296) = b.ns + v := by
    apply BitVec.eq_of_toNat_eq
    rw [BitVec.toNat_ofNat, BitVec.toNat_add]
    omega
  have frac : w32 ((b.ns.toNat + v.toNat) % 2 ^ 64 * 4294967296 + b.frac.toNat) = b.frac := by
    apply BitVec.eq_of_toNat_eq
    rw [w32, BitVec.toNat_ofNat]
    omega
  simp only [advance, sum, ns, frac]

/-- An event of the time unit is a unit event, whose notice carries TB_STATUS (R426). -/
theorem tbEvent_eq (i : Nat) (s : State) : tbEvent i s = unitEvent tbEvt tbNmask i 17 0 (rd s tbStatus) s := by
  have status : rd (wb tbEvt i true s) tbStatus = rd s tbStatus := rd_wb_other _ _ _ (by decide)
  simp only [tbEvent, unitEvent, status]

/-- A refusal writes its code and sets TB_EVT.REFUSED, and moves no base (R404, R405). -/
theorem tbRefuse_shows {code : Nat} (s : State) : (tbRefuse code s).time = s.time ∧ rd (tbRefuse code s) tbReason = w32 code ∧
    rb (tbRefuse code s) tbEvt 7 = true ∧ RegsKeep [tbReason, tbEvt] s (tbRefuse code s) := by
  have event := onlyRaised_unitEvent tbEvt tbNmask 7 17 0 (rd (wr tbReason (w32 code) s) tbStatus) (wr tbReason (w32 code) s)
  have frame := onlyRaised_trans (onlyRaised_of_onlyRegs (onlyRegs_wr tbReason (w32 code) s)) event
  rw [tbRefuse, tbEvent_eq]
  refine ⟨(congrArg (fun t : State => t.time) frame.1 :), ?reason, unitEvent_bit _ _ _ _ _ _ _ (by decide), frame.2⟩
  case reason =>
    rw [event.2 _ (by decide)]
    exact rd_wr_same _ _ _

theorem tbRefusal_slaved {n : Nat} {s : State} (h : slaved n s = true) : tbRefusal n s = some 0x63 := by simp [tbRefusal, h]

theorem tbRefusal_free {n : Nat} {s : State} (h : slaved n s = false) (other : n ≠ 0) : tbRefusal n s = none := by
  simp [tbRefusal, h, other]

section
variable {n : Nat} {s : State} (v : Word)

/-- A slaved base refuses steps and rates (R404). -/
theorem tbStepWrite_slaved (h : slaved n s = true) : tbStepWrite n v s = tbRefuse 0x63 s := by
  rw [tbStepWrite, tbStep, tbRefusal_slaved h]

theorem tbRateWrite_slaved (h : slaved n s = true) : tbRateWrite n v s = tbRefuse 0x63 s := by
  rw [tbRateWrite, tbRefusal_slaved h]

/-- A free base other than TB0 is stepped by the signed value (R403). -/
theorem tbStepWrite_adds (h : slaved n s = false) (other : n ≠ 0) (add : rb s (tbBase n 0) 0 = false) :
    tbStepWrite n v s = setBase n { base n s with ns := (base n s).ns + dword v (base n s).stepLo } s := by
  rw [tbStepWrite, tbStep, tbRefusal_free h other, add]
  simp only [Bool.false_eq_true, if_false, shiftBase, other, advance_whole]

/-- With ABS = 1 the value is loaded and the fraction cleared (R403). -/
theorem tbStepWrite_loads (h : slaved n s = false) (other : n ≠ 0) (abs : rb s (tbBase n 0) 0 = true) :
    tbStepWrite n v s = setBase n { base n s with ns := dword v (base n s).stepLo, frac := 0 } s := by
  rw [tbStepWrite, tbStep, tbRefusal_free h other, abs]
  simp only [if_true, other, if_false]

end

/-- A base that is set holds what was set; the other bases and every register stay. -/
theorem setBase_shows (n : Fin 4) (b : BaseSt) (s : State) : base n (setBase n b s.alone) = b ∧
    (∀ m : Fin 4, m ≠ n → base m (setBase n b s.alone) = base m s) ∧
    OnlyRegs [] { s with time := (setBase n b s.alone).time } (setBase n b s.alone) := by
  refine ⟨?here, fun m other => ?there, onlyRegs_alone ⟨rfl, fun _ _ => rfl⟩⟩
  case here => rw [base_setBase, if_pos rfl]
  case there =>
    rw [base_setBase, if_neg (fun e => other (Fin.ext e))]
    rfl

/-- Settles O49: a step or load sets one base other than TB0, and a slaved base answers both writes with the refusal of R404. -/
theorem stepsOfABase : Obligations.StepsOfABase := by
  intro s n v up other d
  have step : Does (.tbStepApply n v) s (tbStepWrite n v s.alone) := hubCmd_up (tbStepWrite n v) s up
  refine ⟨fun free add => ?added, fun free abs => ?loaded, fun held c hc => ?refused⟩
  case added =>
    rw [tbStepWrite_adds (s := s.alone) v free other add] at step
    obtain ⟨here, there, frame⟩ := setBase_shows n { base n s with ns := (base n s).ns + d } s
    exact ⟨_, step, (congrArg BaseSt.ns here :), (congrArg BaseSt.frac here :), there, frame⟩
  case loaded =>
    rw [tbStepWrite_loads (s := s.alone) v free other abs] at step
    obtain ⟨here, there, frame⟩ := setBase_shows n { base n s with ns := d, frac := 0 } s
    exact ⟨_, step, (congrArg BaseSt.ns here :), (congrArg BaseSt.frac here :), there, frame⟩
  case refused =>
    have rate : Does (.tbRateWrite n v) s (tbRateWrite n v s.alone) := hubCmd_up (tbRateWrite n v) s up
    rw [tbStepWrite_slaved (s := s.alone) v held] at step
    rw [tbRateWrite_slaved (s := s.alone) v held] at rate
    have refusal := tbRefuse_shows (code := 0x63) s.alone
    simp only [List.mem_cons, List.not_mem_nil, or_false] at hc
    obtain rfl | rfl := hc
    · exact ⟨_, step, refusal⟩
    · exact ⟨_, rate, refusal⟩

end Sys2Proof.Proofs
end

section
/-! SUPPORT. The commands of mailboxes, sessions and jobs: what a doorbell does with the packet that stands in the request area (R432,
R434, R436, R440). -/
namespace Sys2Proof.Proofs
open Sys2Proof Sys2Proof.Machine Sys2Proof.Laws

/-! ## Every command -/

/-- Settles O19: mailboxes and jobs run in the hub, the Kilco commands on the packet of their mailbox. -/
theorem mailboxCommandsComplete : Obligations.MailboxCommandsComplete := by
  intro s
  have hub {f : State → State} (up : s.hubUp) : hubCmd f s = .next (carryOn (f s.alone) s) := hubCmd_up f s up
  exact ⟨fun _ _ => hub, fun _ _ => hub, fun _ => hub, fun _ _ _ _ => hub, fun _ _ => hub, fun _ _ => hub,
    fun m => kcCmd_rung m 0x0001 _ s, fun m => kcCmd_rung m 0x0002 _ s, fun m => kcCmd_rung m 0x0003 _ s,
    fun m => kcCmd_rung m 0x0004 _ s, fun m => kcCmd_rung m 0x0005 _ s, fun m => kcCmd_rung m 0x0006 _ s,
    fun m => kcCmd_rung m 0x0101 _ s, fun m => kcCmd_rung m 0x0102 _ s, fun m => kcCmd_rung m 0x0103 _ s,
    fun m => kcCmd_rung m 0x0106 _ s, fun m _ _ => kcCmd_rung m 0x0104 _ s, fun m => kcCmd_rung m 0x0105 _ s, fun _ => hub⟩

/-! ## A packet taken -/

/-- The packet that stands in the request area of mailbox `m`: its header, and as many bytes as its LEN says (R434, R437). -/
def packetAt (m : Nat) (s : State) : List Byte := kcBytes m 0x400 (16 + min (fld (wordAt (kcBytes m 0x404 4 s) 0) 15 0) 2032) s

/-- The packet `raw` is copied for `who`, PEND set, RDY cleared, its TAG shown, and the idle time of a session starts again (R433,
R434). -/
def kcRung (m : Nat) (raw : List Byte) (who : Word) (s : State) : State :=
  let t := wf (kcStat m) 15 0 (pkTag raw) (wb (kcStat m) 29 false (wb (kcStat m) 30 true
    (setBox m { box m s with pkt := some raw, ringer := who } s)))
  if kcOpen m t then kcArm m t else t

/-- What a doorbell that takes a packet leaves: the packet pends, and of the mailbox the reply and the packet executed last stay. -/
structure Rung (m : Nat) (raw : List Byte) (who : Word) (s t : State) : Prop where
  pend   : rb t (kcStat m) 30 = true
  rdy    : rb t (kcStat m) 29 = false
  opened : kcOpen m t = kcOpen m s
  pkt    : (box m t).pkt = some raw
  ringer : (box m t).ringer = who
  copy   : (box m t).copy = (box m s).copy
  rpl    : (box m t).rpl = (box m s).rpl
  keep   : RegsKeep [kcStat m] s t

theorem Rung.arm {m : Nat} {raw : List Byte} {who : Word} {s t : State} (a : Rung m raw who s t) : Rung m raw who s (kcArm m t) := by
  have armed : box m (kcArm m t) = { box m t with due := t.hub.now + rf t (kcReg m 0x14) 11 0 * 1000000000 } := box_setBox_same m _ t
  refine ⟨a.pend, a.rdy, a.opened, ?_, ?_, ?_, ?_, a.keep⟩ <;> rw [armed]
  exacts [a.pkt, a.ringer, a.copy, a.rpl]

theorem kcRung_rung (m : Nat) (raw : List Byte) (who : Word) (s : State) : Rung m raw who s (kcRung m raw who s) := by
  let a := wb (kcStat m) 29 false (wb (kcStat m) 30 true (setBox m { box m s with pkt := some raw, ringer := who } s))
  have high {i : Nat} (h : 16 ≤ i) : rb (wf (kcStat m) 15 0 (pkTag raw) a) (kcStat m) i = rb a (kcStat m) i :=
    rb_wf_apart _ _ _ (by omega) (by omega)
  have taken : box m (wf (kcStat m) 15 0 (pkTag raw) a) = { box m s with pkt := some raw, ringer := who } := box_setBox_same m _ s
  have first : Rung m raw who s (wf (kcStat m) 15 0 (pkTag raw) a) := by
    refine ⟨?pend, ?rdy, ?opened, by rw [taken], by rw [taken], by rw [taken], by rw [taken], ?keep⟩
    case pend =>
      rw [high (by decide), rb_wb_other _ _ _ _ _ (by decide) (by decide)]
      exact rb_wb_same _ _ _ _ (by decide)
    case rdy =>
      rw [high (by decide)]
      exact rb_wb_same _ _ _ _ (by decide)
    case opened =>
      rw [kcOpen, high (by decide), rb_wb_other _ _ _ _ _ (by decide) (by decide), rb_wb_other _ _ _ _ _ (by decide) (by decide)]
      rfl
    case keep =>
      intro k hk
      have apart : k ≠ kcStat m := by simpa using hk
      rw [rd_wf_other _ _ _ _ apart, rd_wb_other _ _ _ apart, rd_wb_other _ _ _ apart, rd_setBox]
  have e : kcRung m raw who s = if kcOpen m (wf (kcStat m) 15 0 (pkTag raw) a) then kcArm m (wf (kcStat m) 15 0 (pkTag raw) a)
    else wf (kcStat m) 15 0 (pkTag raw) a := rfl
  rw [e]
  split
  · exact first.arm
  · exact first

/-- Who serves the mailboxes does not change with a packet that pends. -/
theorem Rung.serves {m : Nat} {raw : List Byte} {who : Word} {s t : State} (a : Rung m raw who s t) : kServes t = kServes s := by
  have status : rd t hubStatus = rd s hubStatus := a.keep _ (by simp [hubStatus, kcStat, kcReg]; omega)
  simp only [kServes, inRom, rf, rb, status]

/-! ## What a doorbell does -/

section
variable {m : Nat} {o : Origin} {s : State}

theorem bit_one : bit 1#32 0 = true := by decide

/-- A requester other than the holder of an open mailbox (R432). -/
theorem kcDoorbell_foreign (v : Word) (opened : kcOpen m s = true) (foreign : rd s (kcReg m 0x10) ≠ holderWord o s) :
    kcDoorbell m o v s = kcForeign m s := by
  simp [kcDoorbell, opened, foreign]

variable (own : kcOpen m s = false ∨ rd s (kcReg m 0x10) = holderWord o s)
include own

theorem not_foreign : ¬ (kcOpen m s = true ∧ rd s (kcReg m 0x10) ≠ holderWord o s) := by
  rintro ⟨opened, foreign⟩
  simp [opened, foreign] at own

/-- A doorbell while a packet pends (R434). -/
theorem kcDoorbell_over (pend : rb s (kcStat m) 30 = true) :
    kcDoorbell m o 1 s = wb (kcReg m 0x0C) 2 true (bump (kcReg m 0x24) 1 s) := by
  have mine := not_foreign own
  simp [kcDoorbell, mine, bit_one, pend]

/-- A doorbell that takes the packet: the mailbox hardware answers it, or it is a repeat, or it waits for pair K (R434, R436, R440). -/
theorem kcDoorbell_takes (idle : rb s (kcStat m) 30 = false) :
    kcDoorbell m o 1 s = (let t := kcRung m (packetAt m s) (holderWord o s) s
      if kServes s = false then kcHwBusy m (packetAt m s) t
      else if kcOpen m s = true ∧ pkOp (packetAt m s) ≠ 1 ∧ (box m s).copy = some (packetAt m s) then kcRepeat m (packetAt m s) t
      else t) := by
  have mine := not_foreign own
  have a := kcRung_rung m (packetAt m s) (holderWord o s) s
  have e : kcDoorbell m o 1 s = (let t := kcRung m (packetAt m s) (holderWord o s) s
      if !kServes t then kcHwBusy m (packetAt m s) t
      else if kcOpen m t && pkOp (packetAt m s) ≠ 1 && (box m t).copy = some (packetAt m s) then kcRepeat m (packetAt m s) t
      else t) := by
    rw [kcDoorbell, if_neg (by simpa using mine), if_neg (by simp [bit_one]), if_neg (by simp [idle])]
    rfl
  rw [e]
  simp only [a.serves, a.opened, a.copy, Bool.not_eq_true', Bool.and_eq_true, decide_eq_true_eq, and_assoc]

theorem kcDoorbell_off (idle : rb s (kcStat m) 30 = false) (off : kServes s = false) :
    kcDoorbell m o 1 s = kcHwBusy m (packetAt m s) (kcRung m (packetAt m s) (holderWord o s) s) :=
  (kcDoorbell_takes own idle).trans (if_pos off)

section
variable (idle : rb s (kcStat m) 30 = false) (serves : kServes s = true)
include idle serves

theorem kcDoorbell_repeat (same : kcOpen m s = true ∧ pkOp (packetAt m s) ≠ 1 ∧ (box m s).copy = some (packetAt m s)) :
    kcDoorbell m o 1 s = kcRepeat m (packetAt m s) (kcRung m (packetAt m s) (holderWord o s) s) :=
  (kcDoorbell_takes own idle).trans ((if_neg (by simp [serves])).trans (if_pos same))

theorem kcDoorbell_new (new : ¬ (kcOpen m s = true ∧ pkOp (packetAt m s) ≠ 1 ∧ (box m s).copy = some (packetAt m s))) :
    kcDoorbell m o 1 s = kcRung m (packetAt m s) (holderWord o s) s :=
  (kcDoorbell_takes own idle).trans ((if_neg (by simp [serves])).trans (if_neg new))

end
end

/-! ## What the mailbox tells -/

theorem kcForeign_shows (m : Nat) (s : State) : rb (kcForeign m s) (kcReg m 0x0C) 1 = true ∧
    rd (kcForeign m s) (kcReg m 0x28) = satAdd (rd s (kcReg m 0x28)) 1 ∧ OnlyRegs [kcReg m 0x0C, kcReg m 0x28] s (kcForeign m s) := by
  refine ⟨rb_wb_same _ _ _ _ (by decide), ?count, ?frame⟩
  case count =>
    rw [kcForeign, rd_wb_other _ _ _ (kcReg_inj (by decide))]
    exact rd_bump_same _ _ _
  case frame => exact onlyRegs_mono (onlyRegs_trans (onlyRegs_bump _ 1 s) (onlyRegs_wb _ 1 true _)) (by simp)

/-- A signal writes no bit of KC_STAT but PEND and RDY (R435). -/
theorem kcSignal_stat (m st : Nat) (raw : List Byte) (s : State) {i : Nat} (notPend : i ≠ 30) (notRdy : i ≠ 29) :
    rb (kcSignal m st raw s) (kcStat m) i = rb s (kcStat m) i := by
  have event : rd (wb (kcReg m 0x0C) 0 true s) (kcStat m) = rd s (kcStat m) := rd_wb_other _ _ _ (kcReg_inj (by decide))
  have flagged : rb (kcFlagged m s) (kcStat m) i = rb s (kcStat m) i := by
    rw [kcFlagged, rb_wb_other _ _ _ _ _ (by decide) notRdy, rb_wb_other _ _ _ _ _ (by decide) notPend, rb, event, rb]
  have sent : rd (sendVec (16 + m) (kcFlagged m s)) (kcStat m) = rd (kcFlagged m s) (kcStat m) := (onlyRaised_sendVec _ _).2 _ (by simp)
  have told : rb (sendVec (16 + m) (kcFlagged m s)) (kcStat m) i = rb s (kcStat m) i := by rw [rb, sent]; exact flagged
  rw [kcSignal_eq]
  split
  · exact told
  · exact told

/-- The reply that stands in the mailbox is signalled again, and the packet is gone (R436). -/
theorem kcRepeat_shows (m : Nat) (raw : List Byte) (s : State) : let u := kcRepeat m raw s
    rb u (kcStat m) 30 = false ∧ rb u (kcStat m) 29 = true ∧ (box m u).pkt = none ∧ (box m u).rpl = (box m s).rpl ∧
      rb u (kcReg m 0x0C) 0 = true ∧ RegsKeep [kcStat m, kcReg m 0x0C, kcReg m 0x20] s u := by
  let c := bump (kcReg m 0x20) 1 (setBox m { box m s with pkt := none } s)
  have sig := kcSignal_signalled m (fld (wordAt (box m c).rpl 0) 15 0) raw (wb (kcStat m) 28 false c)
  have held : box m (kcRepeat m raw s) = { box m s with pkt := none } :=
    (congrArg (fun kc : KcSt => tget (fun _ => {}) kc.boxes m) sig.kc :).trans (box_setBox_same m _ s)
  obtain ⟨pend, rdy, event⟩ := sig.bits
  refine ⟨pend, rdy, by rw [held], by rw [held], event, fun k hk => ?_⟩
  simp only [List.mem_cons, List.not_mem_nil, or_false, not_or] at hk
  obtain ⟨notStat, notEvt, notCount⟩ := hk
  have kept := sig.keep k (by simp [notStat, notEvt])
  exact kept.trans ((rd_wb_other _ _ _ notStat).trans (rd_bump_other _ _ notCount))

/-- The mailbox hardware's own answer, which says that it is the hardware's (R440). -/
theorem kcHwBusy_shows (m : Nat) (raw : List Byte) (s : State) : let u := kcHwBusy m raw s
    rb u (kcStat m) 30 = false ∧ rb u (kcStat m) 29 = true ∧ rb u (kcStat m) 28 = true ∧ (box m u).pkt = none ∧
      (box m u).rpl = replyBytes (pkMaj raw) (pkMin raw) 5 (pkTag raw) m 0 0 [] ∧
      rd u (kcReg m 0x2C) = satAdd (rd s (kcReg m 0x2C)) 1 ∧ RegsKeep [kcStat m, kcReg m 0x0C, kcReg m 0x2C] s u := by
  let reply := replyBytes (pkMaj raw) (pkMin raw) 5 (pkTag raw) m 0 0 []
  let c := wb (kcStat m) 28 true (kcPut m reply s)
  have sig := kcSignal_signalled m 5 raw (bump (kcReg m 0x2C) 1 c)
  have held : box m (kcHwBusy m raw s) = { box m s with rpl := reply, pkt := none } :=
    (congrArg (fun kc : KcSt => tget (fun _ => {}) kc.boxes m) sig.kc :).trans (box_kcPut m reply s)
  have statApart : kcStat m ≠ kcReg m 0x2C := kcReg_inj (by decide)
  have e : kcHwBusy m raw s = kcSignal m 5 raw (bump (kcReg m 0x2C) 1 c) := rfl
  obtain ⟨pend, rdy, -⟩ := sig.bits
  refine ⟨pend, rdy, ?hardware, by rw [held], by rw [held], ?count, fun k hk => ?keep⟩
  case hardware =>
    rw [e, kcSignal_stat m 5 raw _ (by decide) (by decide), rb, rd_bump_other _ _ statApart]
    exact rb_wb_same _ _ _ _ (by decide)
  case count =>
    refine (sig.keep _ ?_).trans ?_
    · simp only [List.mem_cons, List.not_mem_nil, or_false, not_or]
      exact ⟨statApart.symm, kcReg_inj (by decide)⟩
    · rw [rd_bump_same, rd_wb_other _ _ _ statApart.symm]
      rfl
  case keep =>
    simp only [List.mem_cons, List.not_mem_nil, or_false, not_or] at hk
    obtain ⟨notStat, notEvt, notCount⟩ := hk
    have kept := sig.keep k (by simp [notStat, notEvt])
    exact kept.trans ((rd_bump_other _ _ notCount).trans (rd_wb_other _ _ _ notStat))

/-- Settles O50: a doorbell that is not foreign and finds no packet pending takes the one in the request area, and who serves the
mailboxes and what was executed last decide what becomes of it. -/
theorem doorbellTakesOnePacket : Obligations.DoorbellTakesOnePacket := by
  intro s m o up raw again
  have does : Does (.kcDoorbell m o) s (kcDoorbell m o 1 s.alone) := hubCmd_up (kcDoorbell m o 1) s up
  refine ⟨fun opened foreign => ?foreign, fun own => ⟨fun pend => ?busy, fun idle serves new => ?taken,
    fun idle serves same => ?repeated, fun idle off => ?hardware⟩⟩
  case foreign =>
    rw [kcDoorbell_foreign (s := s.alone) 1 opened foreign] at does
    obtain ⟨event, count, frame⟩ := kcForeign_shows m s.alone
    exact ⟨_, does, event, count, onlyRegs_alone frame⟩
  case busy =>
    rw [kcDoorbell_over (s := s.alone) own pend] at does
    refine ⟨_, does, rb_wb_same _ _ _ _ (by decide), ?count,
      onlyRegs_alone (onlyRegs_mono (onlyRegs_trans (onlyRegs_bump _ 1 s.alone) (onlyRegs_wb _ 2 true _)) (by simp))⟩
    case count =>
      rw [rd_wb_other _ _ _ (kcReg_inj (by decide))]
      exact rd_bump_same _ _ _
  all_goals have rung := kcRung_rung m raw (holderWord o s) s.alone
  case taken =>
    rw [kcDoorbell_new (s := s.alone) own idle serves new] at does
    exact ⟨_, does, rung.pend, rung.rdy, rung.pkt, rung.ringer, rung.keep⟩
  case repeated =>
    rw [kcDoorbell_repeat (s := s.alone) own idle serves same] at does
    obtain ⟨pend, rdy, pkt, rpl, event, keep⟩ := kcRepeat_shows m raw (kcRung m raw (holderWord o s) s.alone)
    refine ⟨_, does, pend, rdy, pkt, rpl.trans rung.rpl, event, fun k hk => (keep k hk).trans (rung.keep k ?_)⟩
    exact fun h => hk (List.mem_cons.mpr (.inl (List.mem_singleton.mp h)))
  case hardware =>
    rw [kcDoorbell_off (s := s.alone) own idle off] at does
    obtain ⟨pend, rdy, hw, pkt, rpl, count, keep⟩ := kcHwBusy_shows m raw (kcRung m raw (holderWord o s) s.alone)
    refine ⟨_, does, pend, rdy, hw, pkt, rpl, ?count, fun k hk => (keep k hk).trans (rung.keep k ?_)⟩
    · exact count.trans (congrArg (satAdd · 1) (rung.keep _ (List.mem_singleton.not.mpr (kcReg_inj (by decide)))))
    · exact fun h => hk (List.mem_cons.mpr (.inl (List.mem_singleton.mp h)))

end Sys2Proof.Proofs
end

section
/-! SUPPORT. The commands of ring roles and leases. -/
namespace Sys2Proof.Proofs
open Sys2Proof Sys2Proof.Machine Sys2Proof.Laws

/-- Settles O22: what roles and leases do of themselves and with a frame runs in the hub, the Kilco commands on the packet of their
mailbox. -/
theorem roleCommandsComplete : Obligations.RoleCommandsComplete := by
  intro s
  have hub {f : State → State} (up : s.hubUp) : hubCmd f s = .next (carryOn (f s.alone) s) := hubCmd_up f s up
  exact ⟨fun _ => hub, fun _ _ => hub, fun _ _ => hub, fun _ => hub, fun _ => hub, fun _ => hub, fun _ _ => hub, fun _ _ => hub,
    fun _ => hub, fun _ => hub, fun _ _ => hub, fun _ _ => hub, fun _ => hub, hub, fun _ _ => hub, fun _ => hub, hub,
    fun _ _ => hub, fun _ => hub, hub, fun _ _ => hub, fun _ _ => hub, fun _ _ => hub, fun _ _ => hub, fun _ _ => hub,
    fun _ _ => hub, fun _ => hub, fun _ => hub, fun _ => hub,
    fun m => kcCmd_rung m 0x0501 _ s, fun m => kcCmd_rung m 0x0501 _ s, fun m => kcCmd_rung m 0x0501 _ s,
    fun m => kcCmd_rung m 0x0502 _ s, fun m => kcCmd_rung m 0x0503 _ s, fun m => kcCmd_rung m 0x0504 _ s,
    fun m => kcCmd_rung m 0x0505 _ s, fun m => kcCmd_rung m 0x0506 _ s⟩

end Sys2Proof.Proofs
end

section
/-! SUPPORT. The commands of start-up, firmware and stored configuration, and the journal of operating hours (R511, R599). -/
namespace Sys2Proof.Proofs
open Sys2Proof Sys2Proof.Machine Sys2Proof.Laws

/-! ## Every command -/

/-- Settles O20: the start of firmware, its confirmation and the hours run in the hub, the Kilco commands on the packet of their
mailbox. -/
theorem bootCommandsComplete : Obligations.BootCommandsComplete := by
  intro s
  have hub {f : State → State} (up : s.hubUp) : hubCmd f s = .next (carryOn (f s.alone) s) := hubCmd_up f s up
  exact ⟨fun m => kcCmd_rung m 0x0201 _ s, fun m => kcCmd_rung m 0x0202 _ s, fun m _ => kcCmd_rung m 0x0203 _ s,
    fun m => kcCmd_rung m 0x0204 _ s, fun m => kcCmd_rung m 0x0205 _ s, fun m => kcCmd_rung m 0x0206 _ s, hub, hub, hub⟩

/-! ## Operating hours -/

/-- Six minutes more of operating time, as R511 shows it. -/
def sixMinutesMore (s : State) : State :=
  setFlt { s.flt with hours := s.flt.hours + (s.flt.secs + 360) / 3600, secs := (s.flt.secs + 360) % 3600 } s

theorem sixMinutesMore_time (s : State) : let u := sixMinutesMore s
    u.flt.hours * 3600 + u.flt.secs = s.flt.hours * 3600 + s.flt.secs + 360 ∧ u.flt.secs < 3600 := by
  simp only [sixMinutesMore, setFlt_flt]
  omega

/-- The counts that the journal takes: those of the entry in force with the operating time of the blotter's header (R511, R599). -/
def countsNow (s : State) : JCounts := { s.boot.jnl with hours := s.flt.hours, secs := s.flt.secs, pcyc := s.flt.pcyc }

section
variable {s : State}

/-- With NV writes inhibited only the running counts go on (R511, R570). -/
theorem hoursPersist_inhibited (runs : rb s hubStatus 1 = true ∨ inRom s = true) (inhibited : nvInhibited s = true) :
    hoursPersist s = sixMinutesMore s := by
  rw [hoursPersist, if_neg (by simpa only [Bool.not_eq_true', Bool.not_eq_false, Bool.or_eq_true] using runs)]
  exact if_pos inhibited

theorem hoursPersist_writes (runs : rb s hubStatus 1 = true ∨ inRom s = true) (free : nvInhibited s = false) :
    hoursPersist s = journalWrite (countsNow (sixMinutesMore s)) (sixMinutesMore s) := by
  rw [hoursPersist, if_neg (by simpa only [Bool.not_eq_true', Bool.not_eq_false, Bool.or_eq_true] using runs)]
  exact if_neg (Bool.eq_false_iff.mp free)

theorem hoursPersist_idle (noM : rb s hubStatus 1 = false) (noRom : inRom s = false) : hoursPersist s = s :=
  if_pos (by simp [noM, noRom])

/-- With NV writes possible an entry of the journal is the newest one at once (R599, log entry 48). -/
theorem journalWrite_shows (c : JCounts) (free : nvInhibited s = false) : (journalWrite c s).flt = s.flt ∧
    ((journalWrite c s).boot.ring.head?.map (fun e => e.cnt)) = some c ∧ RegsKeep [] s (journalWrite c s) := by
  have e : journalWrite c s = jnlStore (setBoot { s.boot with jnl := c } s) := if_neg (Bool.eq_false_iff.mp free)
  rw [e]
  exact ⟨rfl, rfl, fun _ _ => rfl⟩

end

/-- Settles O52: six minutes of 360 s are added (log entry 5), and the entry is written in one step where NV writes are possible. -/
theorem bootHoursPersist : Obligations.BootHoursPersist := by
  intro s up
  have does : Does .hoursPersist s (hoursPersist s.alone) := hubCmd_up hoursPersist s up
  refine ⟨fun runs => ?runs, fun noM noRom => ?idle⟩
  case idle => rwa [hoursPersist_idle (s := s.alone) noM noRom] at does
  case runs =>
    obtain ⟨time, secs⟩ := sixMinutesMore_time s.alone
    cases inhibited : nvInhibited s with
    | true =>
      rw [hoursPersist_inhibited (s := s.alone) runs inhibited] at does
      exact ⟨_, does, time, secs, fun _ _ => rfl, fun h => (Bool.false_ne_true h.symm).elim, fun _ => rfl⟩
    | false =>
      rw [hoursPersist_writes (s := s.alone) runs inhibited] at does
      obtain ⟨flt, entry, keep⟩ := journalWrite_shows (s := sixMinutesMore s.alone) (countsNow (sixMinutesMore s.alone)) inhibited
      refine ⟨_, does, ?time, ?secs, keep, fun _ => ?entry, fun h => (Bool.false_ne_true h).elim⟩
      all_goals rw [flt]
      exacts [time, secs, entry]

end Sys2Proof.Proofs
end

section
/-! SUPPORT. The commands of the fault collector, the blotter and the monitors: FREEZE and the records that arrive (R509, R510), and the
arming of a monitor slot (R516). -/
namespace Sys2Proof.Proofs
open Sys2Proof Sys2Proof.Machine Sys2Proof.Laws

/-! ## Every command -/

/-- Settles O21: the fault collector, the blotter and the monitors run in the hub, the Kilco commands on the packet of their mailbox. -/
theorem faultCommandsComplete : Obligations.FaultCommandsComplete := by
  intro s
  have hub {f : State → State} (up : s.hubUp) : hubCmd f s = .next (carryOn (f s.alone) s) := hubCmd_up f s up
  exact ⟨fun m => kcCmd_rung m 0x0301 _ s, fun m => kcCmd_rung m 0x0302 _ s, fun m => kcCmd_rung m 0x0303 _ s,
    fun m => kcCmd_rung m 0x0304 _ s, fun m => kcCmd_rung m 0x0305 _ s, fun m => kcCmd_rung m 0x0306 _ s,
    fun m => kcCmd_rung m 0x0307 _ s, fun m => kcCmd_rung m 0x0308 _ s,
    fun _ _ _ _ _ _ => hub, hub, hubCmd_up (fun t => fltCtlWrite (withBit fltCtl 1 t) t) s, fun _ => hub, fun _ => hub,
    fun _ _ => hub, fun _ => hub, fun _ => hub, fun _ => hub, hub, hub, hub, fun _ _ => hub, fun _ => hub, fun _ => hub⟩

/-! ## Records that arrive -/

section
variable {s : State} (typ source : Nat) (a b c : Word)

/-- While the blotter is frozen a record is missed, full or not (R510). -/
theorem blot_frozen (up : s.hubUp) (frozen : rb s bltCtl 0 = true) : blot typ source a b c s = bump bltMissed 1 s := by
  obtain ⟨lpor, rst⟩ := up
  simp [blot, lpor, rst, frozen]

/-- A record that finds room is written and counted (R508). -/
theorem blot_room (up : s.hubUp) (thawed : rb s bltCtl 0 = false) (room : rb s bltStatus 31 = false) :
    (blot typ source a b c s).flt.recs = s.flt.recs ++ [mkRec typ source a b c s] ∧
      rd (blot typ source a b c s) bltWritten = satAdd (rd s bltWritten) 1 := by
  obtain ⟨lpor, rst⟩ := up
  let t : State := { s with flt := { s.flt with recs := s.flt.recs ++ [mkRec typ source a b c s] } }
  let w := bump bltWritten 1 (wf bltStatus 12 0 (rf s bltStatus 12 0 + 1) t)
  have counted : rd w bltWritten = satAdd (rd s bltWritten) 1 := by
    rw [rd_bump_same, rd_wf_other _ _ _ _ (by decide)]
    rfl
  have e : blot typ source a b c s = if rf s bltStatus 12 0 + 1 = 4096 then notify 1 0x06 0 0 (wb bltStatus 31 true w) else w := by
    rw [blot, if_neg (by simp [lpor, rst]), if_neg (Bool.eq_false_iff.mp thawed), if_neg (Bool.eq_false_iff.mp room)]
  rw [e]
  split
  · exact ⟨rfl, (rd_wb_other 31 true w (by decide)).trans counted⟩
  · exact ⟨rfl, counted⟩

end

/-- An empty blotter: no record, COUNT 0 and FULL clear (R510). -/
theorem bltClear_shows (s : State) : (bltClear s).flt.recs = [] ∧ rf (bltClear s) bltStatus 12 0 = 0 ∧
    rb (bltClear s) bltStatus 31 = false ∧ RegsKeep [bltStatus] s (bltClear s) := by
  have status : rd (bltClear s) bltStatus = 0 := rd_wr_same _ _ _
  refine ⟨rfl, ?_, ?_, fun k hk => rd_wr_other _ _ (by simpa using hk)⟩
  · rw [rf, status]; rfl
  · rw [rb, status]; rfl

/-- Settles O55: FREEZE is one bit of BLT_CTL, which decides what becomes of a record before FULL does. -/
theorem frozenBlotterCountsMissed : Obligations.FrozenBlotterCountsMissed := by
  intro s typ source a b c up
  have frame (v : Bool) : OnlyRegs [bltCtl] s (wb bltCtl 0 v s.alone) := onlyRegs_alone (onlyRegs_wb bltCtl 0 v s.alone)
  have reads (v : Bool) : rb (wb bltCtl 0 v s.alone) bltCtl 0 = v := rb_wb_same _ _ _ _ (by decide)
  refine ⟨⟨_, hubCmd_up (bltFreeze true) s up, frame true, reads true, ?frozen⟩,
    ⟨_, hubCmd_up (bltFreeze false) s up, frame false, reads false, fun room => ?thawed⟩,
    ⟨_, hubCmd_up (bltClrWrite 1) s up, bltClear_shows s.alone⟩⟩
  case frozen => exact blot_frozen typ source a b c (s := wb bltCtl 0 true s.alone) up (reads true)
  case thawed =>
    have status : rb (wb bltCtl 0 false s.alone) bltStatus 31 = false := by rwa [rb, rd_wb_other _ _ _ (by decide)]
    obtain ⟨recs, count⟩ := blot_room typ source a b c (s := wb bltCtl 0 false s.alone) up (reads false) status
    exact ⟨recs, count.trans (congrArg (satAdd · 1) (rd_wb_other _ _ _ (by decide)))⟩

/-! ## Arming a monitor slot -/

theorem rd_wrAll (v : Word) (l : List Nat) (s : State) (j : Nat) : rd (wrAll v l s) j = if j ∈ l then v else rd s j := by
  induction l generalizing s with
  | nil => simp [wrAll]
  | cons k t ih =>
    rw [wrAll, ih, rd_wr]
    by_cases here : j = k <;> by_cases later : j ∈ t <;> simp [here, later]

@[simp] theorem monReg_eq_iff (m a b : Nat) : monReg m a = monReg m b ↔ a = b := by
  simp only [monReg]
  omega

/-- The registers of a slot's results that start at 0: CNT, LAST and the bins (R516). -/
def monResults (m : Nat) : List Nat := [monReg m 0x18, monReg m 0x24] ++ (List.range 32).map (fun i => monReg m (0x28 + 4 * i))

theorem mem_monResults {m j : Nat} : j ∈ monResults m ↔ j = monReg m 0x18 ∨ j = monReg m 0x24 ∨
    ∃ i, i < 32 ∧ j = monReg m (0x28 + 4 * i) := by
  simp [monResults, eq_comm]

/-- The results cleared: MIN and MAX at the ends of their range, the rest 0 (R516). -/
theorem rd_monClear (m : Nat) (s : State) (j : Nat) : rd (monClear m s) j = if j = monReg m 0x1C then 0x7FFFFFFF
    else if j = monReg m 0x20 then 0x80000000 else if j ∈ monResults m then 0 else rd s j := by
  rw [monClear, rd_wr, rd_wr, rd_wrAll]
  rfl

/-- A slot that has been started: RUNNING alone, its results cleared, and nothing outside its page written (R516). -/
structure MonStarted (m : Nat) (s u : State) : Prop where
  ctl  : rd u (monReg m 0) = 1#32
  cnt  : rd u (monReg m 0x18) = 0#32
  last : rd u (monReg m 0x24) = 0#32
  bins : ∀ i, i < 32 → rd u (monReg m (0x28 + 4 * i)) = 0#32
  min  : rd u (monReg m 0x1C) = 0x7FFFFFFF#32
  max  : rd u (monReg m 0x20) = 0x80000000#32
  keep : ∀ j, (∀ o, o < 0x100 → j ≠ monReg m o) → rd u j = rd s j

theorem monClear_started (m : Nat) (s : State) : MonStarted m s (wr (monReg m 0) 1 (monClear m s)) := by
  have cleared {o : Nat} (high : o ≠ 0) := (rd_wr_other (j := monReg m o) 1 (monClear m s)
    ((monReg_eq_iff m o 0).not.mpr high)).trans (rd_monClear m s _)
  have zero {o : Nat} (apart : o ≠ 0 ∧ o ≠ 0x1C ∧ o ≠ 0x20) (result : monReg m o ∈ monResults m) :
      rd (wr (monReg m 0) 1 (monClear m s)) (monReg m o) = 0#32 := by
    obtain ⟨notCtl, notMin, notMax⟩ := apart
    rw [cleared notCtl, if_neg ((monReg_eq_iff m o _).not.mpr notMin), if_neg ((monReg_eq_iff m o _).not.mpr notMax), if_pos result]
    rfl
  refine ⟨rd_wr_same _ _ _, zero (by decide) (mem_monResults.mpr (.inl rfl)), zero (by decide) (mem_monResults.mpr (.inr (.inl rfl))),
    fun i hi => zero (by omega) (mem_monResults.mpr (.inr (.inr ⟨i, hi, rfl⟩))), (cleared (by decide)).trans (if_pos rfl),
    (cleared (by decide)).trans ((if_neg (by simp)).trans (if_pos rfl)), fun j apart => ?keep⟩
  case keep =>
    have other : j ∉ monResults m := by
      rw [mem_monResults]
      rintro (h | h | ⟨i, hi, h⟩)
      exacts [apart _ (by decide) h, apart _ (by decide) h, apart _ (by omega) h]
    rw [rd_wr_other _ _ (apart 0 (by decide)), rd_monClear, if_neg (apart _ (by decide)), if_neg (apart _ (by decide)), if_neg other]

theorem mon_setMon_same (m : Nat) (v : MonSt) (s : State) : mon m (setMon m v s) = v := tget_tset_same _ _ _ _

theorem mon_congr {s t : State} (same : t.mons = s.mons) (m : Nat) : mon m t = mon m s := by rw [mon, mon, same]

theorem wrAll_mons (v : Word) (l : List Nat) (s : State) : (wrAll v l s).mons = s.mons := by
  induction l generalizing s with
  | nil => rfl
  | cons k t ih => exact ih (wr k v s)

theorem monClear_mons (m : Nat) (s : State) : (monClear m s).mons = s.mons := by
  rw [monClear, wr_mons, wr_mons, wrAll_mons]

theorem mon_started (m : Nat) (v : Word) (s : State) : mon m (wr (monReg m 0) v (monClear m s)) = mon m s :=
  mon_congr ((wr_mons _ v (monClear m s)).trans (monClear_mons m s)) m

/-- The settings a slot takes when it is armed (R516). -/
def monTaken (m : Nat) (s : State) : MonSt :=
  ⟨rd s (monReg m 0x04), rd s (monReg m 0x08), rd s (monReg m 0x0C), rd s (monReg m 0x10), rd s (monReg m 0x14), s.hub.now, none⟩

/-- A write of ARM alone arms (R516). -/
theorem monCtlWrite_arm (m : Nat) (s : State) : monCtlWrite m 0x80000000 s = monArm m s := by
  have arm : bit (0x80000000#32) 31 = true := by decide
  have stop : bit (0x80000000#32) 30 = false := by decide
  simp [monCtlWrite, arm, stop]

theorem monArm_runs {m : Nat} {s : State} (ok : monOk (rd s (monReg m 0x04)) = true) :
    monArm m s = wr (monReg m 0) 1 (monClear m (setMon m (monTaken m s) s)) := if_neg (by simp [ok])

theorem monArm_fails {m : Nat} {s : State} (bad : monOk (rd s (monReg m 0x04)) = false) : monArm m s = wr (monReg m 0) 4 s :=
  if_pos (by simp [bad])

/-- Settles O56: ARM clears the results and takes the settings where KIND and PARAM are defined, and is one write of MON_CTL where
they are not. -/
theorem monitorsArm : Obligations.MonitorsArm := by
  intro s m up
  have does : Does (.monCtlArm m) s (monCtlWrite m 0x80000000 s.alone) := hubCmd_up (monCtlWrite m 0x80000000) s up
  rw [monCtlWrite_arm] at does
  refine ⟨fun ok => ?runs, fun bad => ?fails⟩
  case fails =>
    rw [monArm_fails (s := s.alone) bad] at does
    exact ⟨_, does, rd_wr_same _ _ _, onlyRegs_alone (onlyRegs_wr _ _ _)⟩
  case runs =>
    rw [monArm_runs (s := s.alone) ok] at does
    obtain ⟨ctl, cnt, last, bins, min, max, keep⟩ := monClear_started m (setMon m (monTaken m s.alone) s.alone)
    have taken : mon m (wr (monReg m 0) 1 (monClear m (setMon m (monTaken m s.alone) s.alone))) = monTaken m s.alone :=
      (mon_started m 1 _).trans (mon_setMon_same m _ _)
    refine ⟨_, does, ctl, cnt, last, bins, min, max, ?_, ?_, ?_, ?_, ?_, fun j apart => keep j apart⟩
    all_goals
      rw [taken]
      rfl

end Sys2Proof.Proofs
end

section
/-! SUPPORT. The commands of the keyed check engine: what erasing a key slot leaves of it (R528, R529). -/
namespace Sys2Proof.Proofs
open Sys2Proof Sys2Proof.Machine Sys2Proof.Laws

/-! ## Every command -/

/-- Settles O23: CPH_DIN is an access the ring core serves, all other operations run in the hub, the writes of a page's registers
where the page lets the requester, the Kilco commands on the packet of their mailbox. -/
theorem keyCommandsComplete : Obligations.KeyCommandsComplete := by
  intro s
  have hub {f : State → State} (up : s.hubUp) : hubCmd f s = .next (carryOn (f s.alone) s) := hubCmd_up f s up
  have write (o : Origin) (p : Fin 16) (f : Word → State → State → State) (up : s.hubUp) :=
    hubCmd_up (fun t => pageWrite o p (f (holderWord o t) t) t) s up
  exact ⟨fun o p => write o p (fun who t => cphCtlWrite p (withBit (cphReg p 0) 0 t) who),
    fun o p => write o p (fun who t => cphCtlWrite p (sansBit (cphReg p 0) 0 t) who),
    fun o p k ksize persist nvOk => write o p (fun who _ => cphCmd p (cmdLoadWord k ksize persist) nvOk who),
    fun o p k => write o p (fun who _ => cphCmd p (cmdEraseWord k) true who), hub, hub, fun _ => hub,
    fun _ _ _ => coreCmd_up _ s, fun _ _ => hub,
    fun m _ => kcCmd_rung m 0x0701 _ s, fun m => kcCmd_rung m 0x0702 _ s, fun m => kcCmd_rung m 0x0703 _ s,
    fun m => kcCmd_rung m 0x0704 _ s⟩

/-! ## A slot erased -/

theorem keySlot_setKeySlot (j k : Nat) (v : KeySlot) (s : State) : keySlot j (setKeySlot k v s) = if j = k then v else keySlot j s := by
  by_cases h : j = k
  · subst h; rw [if_pos rfl]; exact tget_tset_same _ _ _ _
  · rw [if_neg h]; exact tget_tset_other _ _ _ h

theorem keySlot_congr {s t : State} (same : t.cph.slots = s.cph.slots) (k : Nat) : keySlot k t = keySlot k s := by
  rw [keySlot, keySlot, same]

/-- Slot `k` holds no key, its generation is one higher, its counter stands, its copy in the key store is cleared or due to be, and
the other slots are as they were (R528, R529). -/
structure SlotErased (k : Nat) (s u : State) : Prop where
  key   : (keySlot k u).key = none
  pers  : (keySlot k u).pers = false
  gen   : (keySlot k u).gen = ((keySlot k s).gen + 1) % 65536
  ctr   : (keySlot k u).ctr = (keySlot k s).ctr
  copy  : (keySlot k u).keyNv = none ∨ (keySlot k u).due = true
  other : ∀ j, j ≠ k → keySlot j u = keySlot j s

theorem SlotErased.congr {k : Nat} {s t u : State} (a : SlotErased k s t) (same : u.cph.slots = t.cph.slots) : SlotErased k s u := by
  obtain ⟨key, pers, gen, ctr, copy, other⟩ := a
  rw [← keySlot_congr same k] at key pers gen ctr copy
  exact ⟨key, pers, gen, ctr, copy, fun j h => (keySlot_congr same j).trans (other j h)⟩

/-- What slot `k` holds once it is erased: the copy in the key store goes at once, or is due while NV writes are inhibited (R529). -/
def emptied (k : Nat) (s : State) : KeySlot :=
  let v := keySlot k s
  let due := v.keyNv.isSome && nvInhibited s
  { v with key := none, pers := false, gen := (v.gen + 1) % 65536, keyNv := if due then v.keyNv else none, due := due }

theorem goneOn_slots (k : Nat) (s : State) : (goneOn k s).cph.slots = s.cph.slots := by
  unfold goneOn
  split
  · split <;> rfl
  · rfl

/-- An erase sets the slot; what it writes to MRAM and tells the job under way is no slot. -/
theorem eraseSlot_slots (k : Nat) (s : State) : (eraseSlot k s).cph.slots = (setKeySlot k (emptied k s) s).cph.slots := by
  rw [eraseSlot, goneOn_slots]
  split <;> rfl

theorem eraseSlot_erased (k : Nat) (s : State) : SlotErased k s (eraseSlot k s) := by
  have here : keySlot k (setKeySlot k (emptied k s) s) = emptied k s := (keySlot_setKeySlot k k _ s).trans (if_pos rfl)
  have copy : (emptied k s).keyNv = none ∨ (emptied k s).due = true := by
    cases due : (keySlot k s).keyNv.isSome && nvInhibited s
    · exact .inl (if_neg (by simp [due]))
    · exact .inr due
  have set : SlotErased k s (setKeySlot k (emptied k s) s) := by
    refine ⟨?_, ?_, ?_, ?_, ?_, fun j h => (keySlot_setKeySlot j k _ s).trans (if_neg h)⟩ <;> rw [here]
    exacts [rfl, rfl, rfl, rfl, copy]
  exact set.congr (eraseSlot_slots k s)

/-! ## The two ways to erase -/

/-- The record and the event of an erase touch no slot (R546). -/
theorem keyErase_erased {p k : Nat} {s : State} (who : Word) (own : owns p k s = true) :
    (keyErase p k who s).1 = 0 ∧ SlotErased k s (keyErase p k who s).2 := by
  have record (t : State) := onlyRaised_blot 0x61 0 (cphInfo p k) (w32 (keySlot k t).gen) who t
  have told (t : State) : OnlyRaised _ t (cphEvt p 1 (cphInfo p k) (blot 0x61 0 (cphInfo p k) (w32 (keySlot k t).gen) who t)) :=
    onlyRaised_trans (record t) (onlyRaised_unitEvent _ _ _ _ _ _ _)
  have e : keyErase p k who s = (0, cphEvt p 1 (cphInfo p k)
      (blot 0x61 0 (cphInfo p k) (w32 (keySlot k (eraseSlot k s)).gen) who (eraseSlot k s))) := by
    simp [keyErase, own]
  rw [e]
  exact ⟨rfl, (eraseSlot_erased k s).congr (congrArg (fun t : State => t.cph.slots) (told (eraseSlot k s)).1 :)⟩

theorem cmdEraseWord_fields : ∀ k : Fin 32, fld (cmdEraseWord k) 20 16 = k ∧ fld (cmdEraseWord k) 31 28 = 2 := by decide

/-- CPH_CMD with OP ERASE, taken with EN = 0 too (R548, log entry 46). -/
theorem cphCmd_erase (p : Nat) (k : Fin 32) (nvOk : Bool) (who : Word) (s : State) :
    ∃ v, cphCmd p (cmdEraseWord k) nvOk who s = wr (cphReg p 0x018) v (keyErase p k who s).2 := by
  obtain ⟨slot, op⟩ := cmdEraseWord_fields k
  rw [cphCmd, slot, op]
  exact ⟨_, rfl⟩

theorem pageWrite_pairM {p : Nat} {f : State → State} {s : State} (allowed : cphDenied p (holderWord .pairM s) s = false) :
    pageWrite .pairM p f s = f s := by
  simp [pageWrite, allowed, ringSide]

/-- A reply touches no key slot. -/
theorem kcReply_cph (m st reason : Nat) (job : Word) (result : List Word) (s : State) :
    (kcReply m st reason job result s).cph = s.cph := by
  have signal (raw : List Byte) (t : State) : (kcSignal m st raw t).cph = t.cph := by
    have sent : (sendVec (16 + m) (kcFlagged m t)).cph = t.cph := (congrArg (fun u : State => u.cph) (onlyRaised_sendVec _ _).1 :)
    rw [kcSignal_eq]
    split <;> exact sent
  unfold kcReply
  split
  · rfl
  · have write (reply raw : List Byte) (t : State) : (kcWrite m false st reply raw t).cph = t.cph := signal raw _
    refine (write _ _ _).trans ?_
    split <;> rfl

/-- KEY_ERASE by the holder of the page (R543). -/
theorem kcKeyErase_erased {m p k : Nat} {raw : List Byte} {s : State} (pageNo : cmdPage raw = p) (slotNo : cmdSlot raw = k)
    (holder : pageHolder m p s = true) (own : owns p k s = true) : SlotErased k s (kcKeyErase m raw s) := by
  subst pageNo slotNo
  obtain ⟨code, erased⟩ := keyErase_erased (rd s (kcReg m 0x10)) own
  have e : kcKeyErase m raw s = kcCode m (keyErase (cmdPage raw) (cmdSlot raw) (rd s (kcReg m 0x10)) s).1
      [w32 (keySlot (cmdSlot raw) (keyErase (cmdPage raw) (cmdSlot raw) (rd s (kcReg m 0x10)) s).2).gen]
      (keyErase (cmdPage raw) (cmdSlot raw) (rd s (kcReg m 0x10)) s).2 := if_neg (by simp [holder])
  rw [e, code]
  exact erased.congr (congrArg CphSt.slots (kcReply_cph _ _ _ _ _ _))

/-- Settles O58: both commands come to `eraseSlot`, and what they tell of it leaves the slots alone. -/
theorem erasedKeysAreGone : Obligations.ErasedKeysAreGone := by
  intro s p k up own erased
  have gone {u : State} (h : SlotErased k s.alone u) : erased u := ⟨h.key, h.pers, h.gen, h.ctr, h.copy, h.other⟩
  refine ⟨fun allowed => ?command, fun m raw rung pageNo slotNo holder => ?packet⟩
  case command =>
    have does : Does (.cphCmdErase .pairM p k) s
        (pageWrite .pairM p (cphCmd p (cmdEraseWord k) true (holderWord .pairM s.alone)) s.alone) :=
      hubCmd_up (fun t => pageWrite .pairM p (cphCmd p (cmdEraseWord k) true (holderWord .pairM t)) t) s up
    obtain ⟨v, written⟩ := cphCmd_erase p k true (holderWord .pairM s.alone) s.alone
    rw [pageWrite_pairM (s := s.alone) allowed, written] at does
    exact ⟨_, does, gone ((keyErase_erased (s := s.alone) _ own).2.congr rfl)⟩
  case packet =>
    have does := kcCmd_rung m 0x0702 (fun raw => kcKeyErase m raw) s raw up rung
    have h := kcKeyErase_erased (s := kcTaken m s.alone) pageNo slotNo holder own
    exact ⟨_, does, gone ⟨h.key, h.pers, h.gen, h.ctr, h.copy, h.other⟩⟩

end Sys2Proof.Proofs
end

section
/-! SUPPORT. The commands of the companion, the feeds and the slots: the feed that stays on (R556), RETRY of a slot (R567), and the
standby counter (R572). -/
namespace Sys2Proof.Proofs
open Sys2Proof Sys2Proof.Machine Sys2Proof.Laws

/-! ## Every command -/

/-- Settles O24: what the companion does of itself runs in the companion, what is written to it and the Kilco commands in the hub, the
NV-write inhibit in the ring core; the end of the companion's reset waits for no part. -/
theorem powerCommandsComplete : Obligations.PowerCommandsComplete := by
  intro s
  have comp {f : State → State} (up : s.hub.cprst = false) : compCmd f s = .next (carryOn (f s.alone) s) := compCmd_up f s up
  have hub {f : State → State} (up : s.hubUp) : hubCmd f s = .next (carryOn (f s.alone) s) := hubCmd_up f s up
  have core {f : State → State} (up : s.coreUp) : coreCmd f s = .next (carryOn (f s.alone) s) := coreCmd_up f s up
  exact ⟨fun _ => comp, fun _ => comp, fun _ => comp, fun _ _ => comp, fun _ => comp, fun _ => comp, fun _ => comp, comp, comp,
    fun _ => hub, fun _ => hub, fun _ => hub, fun _ => hub, fun _ => hub, fun _ => hub, fun _ => hub,
    fun _ => comp, fun _ => comp, fun _ => comp, fun _ => comp, fun _ => comp, fun _ => comp, fun _ => comp, fun _ => comp,
    fun _ => comp, fun _ => comp, fun _ => comp, comp, fun _ => comp, fun _ => core, core, comp, comp, comp, comp, fun _ => comp,
    fun _ => hub, hubCmd_up (fun t => (stbyReadLo t).2) s, hub,
    fun m => kcCmd_rung m 0x0601 _ s, fun m => kcCmd_rung m 0x0602 _ s, fun m => kcCmd_rung m 0x0603 _ s,
    fun m => kcCmd_rung m 0x0604 _ s, done_eq _ s⟩

/-! ## The companion's registers -/

/-- The copy for the logic die changes no register of the companion (R550). -/
theorem crd_copyComp (s : State) (j : Nat) : crd (copyComp s) j = crd s j := rfl

theorem crd_cwr_same (k : Nat) (v : Word) (s : State) : crd (cwr k v s) k = v := (crd_cwr k k v s).trans (if_pos rfl)

theorem crd_cwf_other {j k : Nat} (hi lo v : Nat) (s : State) (h : j ≠ k) : crd (cwf k hi lo v s) j = crd s j :=
  (crd_cwr j k _ s).trans (if_neg h)

/-- A field of a companion register reads what was written to it, and leaves a field apart from it alone. -/
theorem crf_cwf_same (k hi lo v : Nat) (s : State) (h : hi < 32) : crf (cwf k hi lo v s) k hi lo = v % 2 ^ (hi + 1 - lo) := by
  rw [crf, cwf, crd_cwr_same, fld_setFld_same _ _ _ _ h]

theorem crf_cwf_apart (k v : Nat) {hi lo hi' lo' : Nat} (s : State) (h : hi < 32) (apart : hi' < lo ∨ hi < lo') :
    crf (cwf k hi lo v s) k hi' lo' = crf s k hi' lo' := by
  rw [crf, cwf, crd_cwr_same, fld_setFld_other _ _ _ _ _ _ h apart, crf]

theorem atComp_linked {f : State → State} {s : State} (link : rb s hubStatus 2 = true) (out : s.hub.cprst = false) :
    atComp f s = copyComp (f s) := if_pos (by simp [d2dUp, link, out])

/-! ## Feeds and slots -/

/-- The last feed is not turned off, and REASON says so (R556). -/
theorem feedCtlWrite_last {x : Nat} {v : Word} {s : State} (off : bit v 0 = false) (was : crb s (feedReg x 0) 0 = true)
    (last : feedGood (1 - x) s = false ∨ crb s (feedReg (1 - x) 0) 0 = false) :
    feedCtlWrite x v s = cwf (feedReg x 0x04) 7 0 0x7B s := by
  rw [feedCtlWrite, if_neg (Bool.eq_false_iff.mp off), if_neg (by simp [was]), if_pos (by simpa using last)]

theorem bit_and_not_one (w : Word) : bit (w &&& ~~~1#32) 0 = false := by simp [bit_getLsbD]

theorem slotReg_ctl_ne (n : Nat) : slotReg' n 0 ≠ slotReg' n 0x04 := by
  simp only [slotReg']
  omega

/-- RETRY clears RETRIES, and WAIT is entered from LATCHED with ON = 1 alone (R557, R567). -/
theorem slotRetry_shows (n : Nat) (s : State) : crf (slotRetry n s) (slotReg' n 0x04) 23 16 = 0 ∧
    slotState n (slotRetry n s) = (if slotState n s = 6 ∧ slotOn n s = true then 1 else slotState n s) ∧
    ∀ j, j ≠ slotReg' n 0x04 → crd (slotRetry n s) j = crd s j := by
  let t := cwf (slotReg' n 0x04) 23 16 0 s
  have cleared : crf t (slotReg' n 0x04) 23 16 = 0 := crf_cwf_same _ _ _ _ s (by decide)
  have state : slotState n t = slotState n s := crf_cwf_apart _ _ s (by decide) (by decide)
  have on : slotOn n t = slotOn n s := by rw [slotOn, crb, crd_cwf_other _ _ _ _ (slotReg_ctl_ne n)]; rfl
  have keep (j : Nat) (h : j ≠ slotReg' n 0x04) : crd t j = crd s j := crd_cwf_other _ _ _ _ h
  have e : slotRetry n s = if slotState n t = 6 && slotOn n t then slotWait n t else t := rfl
  rw [e, state, on]
  by_cases leaves : slotState n s = 6 ∧ slotOn n s = true
  · rw [if_pos leaves, if_pos (by simpa using leaves)]
    exact ⟨(crf_cwf_apart _ _ _ (by decide) (by decide)).trans cleared, crf_cwf_same _ _ _ _ _ (by decide),
      fun j h => (crd_cwf_other _ _ _ _ h).trans (keep j h)⟩
  · rw [if_neg leaves, if_neg (by simpa using leaves)]
    exact ⟨cleared, state, keep⟩

/-- Settles O60: with the link up both commands act at the companion, whose registers the copy for the logic die leaves alone. -/
theorem lastFeedStaysOn : Obligations.LastFeedStaysOn := by
  intro s up link out
  refine ⟨fun x was last => ?feed, fun n => ?slot⟩
  case feed =>
    have does : Does (.feedDisable x) s (atComp (fun t => feedCtlWrite x (crd t (feedReg x 0) &&& ~~~1#32) t) s.alone) :=
      hubCmd_up (atComp (fun t => feedCtlWrite x (crd t (feedReg x 0) &&& ~~~1#32) t)) s up
    rw [atComp_linked (s := s.alone) link out, feedCtlWrite_last (s := s.alone) (bit_and_not_one _) was last] at does
    have apart : feedReg x 0 ≠ feedReg x 0x04 := by simp only [feedReg]; omega
    refine ⟨_, does, ?on, ?reason, fun j h => ?keep⟩
    case on => rwa [crb, crd_copyComp, crd_cwf_other _ _ _ _ apart]
    case reason => exact crf_cwf_same _ _ _ _ s.alone (by decide)
    case keep => exact crd_cwf_other _ _ _ s.alone h
  case slot =>
    have does : Does (.slotCtlRetry n) s (atComp (slotRetry n) s.alone) := hubCmd_up (atComp (slotRetry n)) s up
    rw [atComp_linked (s := s.alone) link out] at does
    exact ⟨_, does, slotRetry_shows n s.alone⟩

/-! ## The standby counter -/

theorem readVal_stbyCnt (s : State) : readVal (pwrReg 0x024) s = w32 (stbyNow s) := rfl

/-- At the instant it is loaded or restarted the counter holds its start value (R572). -/
theorem stbyNow_start {u : State} (start : u.pwr.stbyAt = u.hub.now) : stbyNow u = u.pwr.stby % 2 ^ 48 := by
  rw [stbyNow, start, Nat.sub_self, Nat.zero_mul, Nat.zero_div, Nat.add_zero]

/-- Two bits of one register written. -/
theorem regsKeep_wb_wb (k i j : Nat) (a b : Bool) (s : State) : RegsKeep [k] s (wb k i a (wb k j b s)) := fun m h => by
  have apart : m ≠ k := by simpa using h
  rw [rd_wb_other _ _ _ apart, rd_wb_other _ _ _ apart]

/-- The counter loaded, and what of the registers tells of it (R572). -/
theorem stbyLoad_shows {n : Nat} (lt : n < 2 ^ 48) (s : State) : stbyNow (stbyLoad n s) = n ∧
    rb (stbyLoad n s) (pwrReg 0x020) 0 = true ∧ RegsKeep [pwrReg 0x020] s (stbyLoad n s) := by
  have value : n % 2 ^ 48 % 2 ^ 48 = n := (Nat.mod_mod n _).trans (Nat.mod_eq_of_lt lt)
  exact ⟨(stbyNow_start rfl).trans value, rb_wb_same _ _ _ _ (by decide), fun j h => regsKeep_wb_wb _ _ _ _ _ _ j h⟩

/-- From the load on it counts 32768 to the second (R572). -/
theorem stbyNow_later {u : State} (loaded : u.pwr.stbyAt = u.hub.now) (n : Nat) :
    stbyNow { u with hub := { u.hub with now := u.hub.now + 1000000000 * n } } = (stbyNow u + 32768 * n) % 281474976710656 := by
  simp only [stbyNow, loaded]
  omega

theorem stbyInvalid_shows (osc : Bool) (s : State) : stbyNow (stbyInvalid osc s) = 0 ∧
    rb (stbyInvalid osc s) (pwrReg 0x020) 0 = false ∧ RegsKeep [pwrReg 0x020] s (stbyInvalid osc s) :=
  ⟨stbyNow_start rfl, rb_wb_same _ _ _ _ (by decide), fun j h => regsKeep_wb_wb _ _ _ _ _ _ j h⟩

/-- Settles O59: the counter is what was loaded and the time since, and only PWR_STBY_STATUS tells of a load or an end of it. -/
theorem standbyCounterLoads : Obligations.StandbyCounterLoads := by
  intro s v
  refine ⟨fun up => ?load, fun up => ?read, fun osc => ⟨_, done_eq (stbyInvalid osc) s, stbyInvalid_shows osc s.alone⟩⟩
  case load =>
    have upper : fld v 15 0 < 2 ^ 16 := Nat.mod_lt _ (by decide)
    have lower := s.pwr.stbySet.isLt
    have small : fld v 15 0 * 2 ^ 32 + s.pwr.stbySet.toNat < 2 ^ 48 := by omega
    obtain ⟨value, valid, keep⟩ := stbyLoad_shows small s.alone
    exact ⟨_, hubCmd_up (stbySetHi v) s up, value, valid, keep, stbyNow_later rfl⟩
  case read =>
    exact ⟨_, hubCmd_up (fun t => (stbyReadLo t).2) s up, readVal_stbyCnt _, rd_wr_same _ _ _, onlyRegs_alone (onlyRegs_wr _ _ s.alone)⟩

end Sys2Proof.Proofs
end
